-- ==== Sys2Proof/Word.lean ====
section
/-! DEFINITION. The plain types of the model: a byte, and the numbers of heads, driver modules and recipe slots. -/

namespace Sys2Proof

/-- A byte of a link frame or of the configuration memory (R187, R206). -/
abbrev Byte := BitVec 8

/-- A head position 0..63 (spec/00, section 5.3). -/
abbrev HeadNo := Fin 64

/-- A driver module of the head bus, 0..7 (R160). -/
abbrev ModuleNo := Fin 8

/-- A recipe slot, 0..7 (R166). -/
abbrev SlotNo := Fin 8

end Sys2Proof
end

