-- ==== Sys2Proof/Syntax.lean ====
section
/-! DEFINITION. The commands of the part, one constructor of `Instr` for each row of spec/opcode_table.json, and the
operands they carry. Fields of requests are the numbers the payload holds (R191), so that a field outside its range or
codes can be written down and be refused. -/

namespace Sys2Proof

/-- The three links (spec/00, section 3). -/
inductive Port where
  | line | inspection | supply
deriving DecidableEq, Repr

/-- The four valves of a head (spec/00, section 1.1), in the order of the valve set of R199. -/
inductive Valve where
  | gas | fast | fine | relief
deriving DecidableEq, Repr

/-- What a driver's coil report says of a valve (R37). -/
inductive CoilFault where
  | openLoad | short
deriving DecidableEq, Repr

/-- What a driver's report of a coil test says of a valve (R39). -/
inductive TestReport where
  | good | openLoad | short
deriving DecidableEq, Repr

/-- Where a SAVE fails (R213): a byte write of steps 1 to 3 that the memory does not acknowledge, counted from 0; a byte
of the read-back, named by its address, that the memory does not acknowledge; or one that differs from what was
written. -/
inductive SaveFault where
  | unwritten (n : Nat)
  | unread (addr : Nat)
  | differs (addr : Nat)
deriving DecidableEq, Repr

/-- The fields of a recipe but its revision (R166). `yn` is the type of TIMED allowed: a code in a request, a Bool in a
recipe slot. Times in ms, hold limit in s. -/
structure RecipeOf (yn : Type) where
  v : Nat
  b : Nat
  press : Nat
  settle : Nat
  relief : Nat
  carb : Nat
  margin : Nat
  gain : Nat
  deadband : Nat
  gross : Nat
  warmup : Nat
  timedAllowed : yn
  promo : Nat
  dev : Nat
  hold : Nat
  speed : Nat
deriving DecidableEq, Repr

/-- The recipe a WRITE RECIPE carries (R168, R191). -/
abbrev RecipeFields := RecipeOf Nat

/-- The fields an ADJUST RECIPE may carry (R169, R192). -/
structure AdjustFields where
  v : Option Nat
  b : Option Nat
  gain : Option Nat
  deadband : Option Nat
  gross : Option Nat
  margin : Option Nat
  hold : Option Nat
  speed : Option Nat
deriving DecidableEq, Repr

/-- The machine configuration (R191, R210). `mode`, `action` and `start` are the types of the coil test mode, of an
action select and of the recipe at start: codes in a request, names in the working copy. -/
structure MachineOf (mode action start : Type) where
  nPos : Nat
  fitted : BitVec 64
  nInc : Nat
  aPress : Nat
  aFill : Nat
  aFillend : Nat
  aRelief : Nat
  aDis : Nat
  reverseLimit : Nat
  lineSilence : Nat
  supplySilence : Nat
  inspection : Nat
  meterSilence : Nat
  runawayLimit : Nat
  outlierLimit : Nat
  window : Nat
  mode : mode
  actions : Vector action 10
  bowlTime : Nat
  startSlot : start
deriving DecidableEq, Repr

/-- The machine configuration a WRITE MACHINE carries (R191). -/
abbrev MachineFields := MachineOf Nat Nat Nat

/-- The fields a WRITE HEAD may carry (R72, R192). -/
structure HeadFields where
  k : Option Nat
  a : Option Nat
  r : Option Nat
  t : Option Int
  inService : Option Nat
  timedAllowed : Option Nat
deriving DecidableEq, Repr

/-- The fields a SET DIAGNOSTICS may carry (R130, R192); the action selects in the order of the table of R120. -/
structure DiagFields where
  window : Option Nat
  mode : Option Nat
  actions : Vector (Option Nat) 10
deriving DecidableEq, Repr

/-- The commands: one constructor for each row of spec/opcode_table.json. -/
inductive Instr where
  /-- POWER_ON (R204). -/
  | powerOn
  /-- BROWNOUT (R204): the supply stayed below the threshold for that many microseconds. -/
  | brownout (micros : Nat)
  /-- RESET_INPUT (R204). -/
  | resetInput
  /-- FULL_RESET_END (R204). -/
  | fullResetEnd
  /-- LOAD_COMPLETION (R208): whether the memory acknowledged every byte read (R207). -/
  | loadCompletion (acknowledged : Bool)
  /-- ENCODER_STEP (R3, R5): the levels of channels A and B after the change, and the infeed sensor's level then. -/
  | encoderStep (chanA chanB infeed : Bool)
  /-- ZERO_MARK_ARRIVAL (R14), with the infeed sensor's level at the arrival. -/
  | zeroMarkArrival (infeed : Bool)
  /-- SPEED_SAMPLE (R7). -/
  | speedSample
  /-- STANDSTILL_EXPIRY (R8). -/
  | standstillExpiry
  /-- PRESSURISE_EXPIRY (R28). -/
  | pressuriseExpiry (h : HeadNo)
  /-- SETTLE_EXPIRY (R32). -/
  | settleExpiry (h : HeadNo)
  /-- RELIEF_EXPIRY (R33). -/
  | reliefExpiry (h : HeadNo)
  /-- VENT_EXPIRY (R42). -/
  | ventExpiry (h : HeadNo)
  /-- COIL_TEST_EXPIRY (R39). -/
  | coilTestExpiry (h : HeadNo)
  /-- COIL_TEST_REPORT (R39). -/
  | coilTestReport (h : HeadNo) (v : Valve) (r : TestReport)
  /-- FLOWMETER_PULSE (R53). -/
  | flowmeterPulse (h : HeadNo)
  /-- TIMED_OPEN_EXPIRY (R55). -/
  | timedOpenExpiry (h : HeadNo)
  /-- METER_SILENCE_EXPIRY (R58). -/
  | meterSilenceExpiry (h : HeadNo)
  /-- SEAL_DROP (R36). -/
  | sealDrop (h : HeadNo)
  /-- COIL_REPORT (R37). -/
  | coilReport (h : HeadNo) (v : Valve) (c : CoilFault)
  /-- MODULE_STATUS_REPORT (R160). -/
  | moduleStatusReport (m : ModuleNo)
  /-- MODULE_SILENT (R160). -/
  | moduleSilent (m : ModuleNo)
  /-- HOLD_LIMIT_EXPIRY (R154). -/
  | holdLimitExpiry
  /-- LINE_SILENCE_EXPIRY (R161). -/
  | lineSilenceExpiry
  /-- SUPPLY_SILENCE_EXPIRY (R137). -/
  | supplySilenceExpiry
  /-- BOWL_DETERMINATION_EXPIRY (R144). -/
  | bowlDeterminationExpiry
  /-- DEMAND_PERIOD_END (R147). -/
  | demandPeriodEnd
  /-- CAL_SILENCE_EXPIRY (R182). -/
  | calSilenceExpiry
  /-- CAL_TIMEOUT_EXPIRY (R182). -/
  | calTimeoutExpiry
  /-- CAL_SETTLE_EXPIRY (R181). -/
  | calSettleExpiry
  /-- SAVE_COMPLETION (R213): none when every byte was acknowledged and read back equal; otherwise where it failed. -/
  | saveCompletion (fault : Option SaveFault)
  /-- BYTE_ARRIVAL (R188): a byte at a port, and whether it is a byte error (R186). -/
  | byteArrival (p : Port) (b : Byte) (byteError : Bool)
  /-- FRAME_TIMER_EXPIRY (R188). -/
  | frameTimerExpiry (p : Port)
  /-- FRAME_SENT (R195). -/
  | frameSent (p : Port)
  /-- READ_STATUS (R198). -/
  | readStatus
  /-- OPERATION_STATUS (R177). -/
  | operationStatus
  /-- START (R152). -/
  | start
  /-- HOLD (R153). -/
  | hold
  /-- RESUME (R155). -/
  | resume
  /-- STOP (R156). -/
  | stop
  /-- ENTER_SAFE (R159). -/
  | enterSafe
  /-- RECOVER (R162). -/
  | recover
  /-- RESTART (R205). -/
  | restart
  /-- CLEAN_BEGIN (R163). -/
  | cleanBegin
  /-- CLEAN_OPEN (R164). -/
  | cleanOpen
  /-- CLEAN_CLOSE (R164). -/
  | cleanClose
  /-- CLEAN_END (R165). -/
  | cleanEnd
  /-- SELECT_RECIPE (R167). -/
  | selectRecipe (slot : Nat)
  /-- WRITE_RECIPE (R168). -/
  | writeRecipe (slot : Nat) (r : RecipeFields)
  /-- ADJUST_RECIPE (R169). -/
  | adjustRecipe (f : AdjustFields)
  /-- READ_RECIPE (R170). -/
  | readRecipe (slot : Nat)
  /-- WRITE_MACHINE (R210). -/
  | writeMachine (m : MachineFields)
  /-- READ_MACHINE (R210). -/
  | readMachine
  /-- WRITE_HEAD (R72). -/
  | writeHead (head : Nat) (f : HeadFields)
  /-- READ_HEAD (R77). -/
  | readHead (head : Nat)
  /-- RESTORE_HEAD (R86). -/
  | restoreHead (head : Nat)
  /-- CLEAR_FAULTS (R131): a head, or 0xFF for all heads. -/
  | clearFaults (head : Nat)
  /-- CLEAR_TOTALS (R90): a head, or 0xFF for all heads. -/
  | clearTotals (head : Nat)
  /-- SET_DIAGNOSTICS (R130). -/
  | setDiagnostics (f : DiagFields)
  /-- TEST_COILS (R128). -/
  | testCoils
  /-- CAL_DOSE (R178). -/
  | calDose (head pCal pFine : Nat)
  /-- STOP_CAL (R183). -/
  | stopCal
  /-- SAVE (R212). -/
  | save
  /-- MEASUREMENT (R101). -/
  | measurement (number volume : Nat)
  /-- SUPPLY_DATA (R135, R202). -/
  | supplyData (temperature : Int) (carbonation pressure level : Nat)
  /-- SEAL_INPUT_RISE (R160). -/
  | sealInputRise (h : HeadNo)
deriving DecidableEq, Repr

end Sys2Proof
end

