-- ==== Sys2Proof/Decode.lean ====
section
/-! DEFINITION. Reading commands from bits. No row of spec/opcode_table.json gives bits, so `decodeTableWord` answers none.
The links' frames do have an encoding: the catalogue of R191 and the presence sets of R192 give the kind and payload of
every request. `decodeRequest` reads a request from them, total on any bytes, and `encodeRequest` writes it. -/

namespace Sys2Proof

/-- The command a word spells by the table's bits: the table gives none (log entry 24). -/
def decodeTableWord (_nbits _w : Nat) : Option Instr := none

/-! ### Byte order (R187) -/

/-- The low `n` bytes of a number, low byte first. -/
def leBytes : Nat → Nat → List Byte
  | 0, _ => []
  | n + 1, x => BitVec.ofNat 8 x :: leBytes n (x / 256)

/-- The number that bytes hold, low byte first. -/
def ofLe : List Byte → Nat
  | [] => 0
  | b :: bs => b.toNat + 256 * ofLe bs

/-- A signed field of two bytes from its unsigned value (two's complement). -/
def signed16 (n : Nat) : Int := if n < 32768 then (n : Int) else (n : Int) - 65536

/-- The unsigned value of a signed field of `bytes` bytes (two's complement). -/
def unsignedOf (bytes : Nat) (x : Int) : Nat := (x % (256 ^ bytes : Nat)).toNat

/-! ### Splitting a payload into fields -/

/-- The fields of a payload, each of a given size; none when the length does not fit (R192). -/
def splitFields : List Nat → List Byte → Option (List Nat)
  | [], [] => some []
  | [], _ :: _ => none
  | s :: ss, bs =>
    if bs.length < s then none
    else (splitFields ss (bs.drop s)).map (ofLe (bs.take s) :: ·)

/-- The fields present after a presence set, in the order of its bits from bit 0 upward; none when the length does not
fit (R192). -/
def splitPresent : Nat → List Nat → List Byte → Option (List (Option Nat))
  | _, [], [] => some []
  | _, [], _ :: _ => none
  | set, s :: ss, bs =>
    if set % 2 = 1 then
      if bs.length < s then none
      else (splitPresent (set / 2) ss (bs.drop s)).map (some (ofLe (bs.take s)) :: ·)
    else (splitPresent (set / 2) ss bs).map (none :: ·)

/-- A payload that begins with a presence set of `setBytes` bytes; a set with a bit beyond the fields does not fit. -/
def splitWithSet (setBytes : Nat) (sizes : List Nat) (bs : List Byte) : Option (List (Option Nat)) :=
  if bs.length < setBytes then none
  else
    let set := ofLe (bs.take setBytes)
    if set < 2 ^ sizes.length then splitPresent set sizes (bs.drop setBytes) else none

/-- The bytes of fields, each with its size. -/
def joinFields : List (Nat × Nat) → List Byte
  | [] => []
  | (s, x) :: rest => leBytes s x ++ joinFields rest

/-- The presence set of optional fields, from bit 0 upward. -/
def presenceSet : List (Nat × Option Nat) → Nat
  | [] => 0
  | (_, x) :: rest => (if x.isSome then 1 else 0) + 2 * presenceSet rest

/-- The bytes of the fields present. -/
def joinPresent : List (Nat × Option Nat) → List Byte
  | [] => []
  | (s, some x) :: rest => leBytes s x ++ joinPresent rest
  | (_, none) :: rest => joinPresent rest

/-- A presence set and the fields present. -/
def joinWithSet (setBytes : Nat) (fs : List (Nat × Option Nat)) : List Byte :=
  leBytes setBytes (presenceSet fs) ++ joinPresent fs

/-! ### The compound payloads -/

/-- The sizes of the fields of a recipe, from V to speed margin (R191). -/
def recipeSizes : List Nat := [2, 2, 2, 2, 2, 2, 2, 1, 1, 2, 1, 1, 1, 1, 2, 1]

/-- A recipe from its fields in order. -/
def recipeOfList : List Nat → Option RecipeFields
  | [v, b, press, settle, relief, carb, margin, gain, deadband, gross, warmup, timed, promo, dev, hold, speed] =>
    some ⟨v, b, press, settle, relief, carb, margin, gain, deadband, gross, warmup, timed, promo, dev, hold, speed⟩
  | _ => none

/-- The fields of a recipe in order. -/
def recipeToList (r : RecipeFields) : List Nat :=
  [r.v, r.b, r.press, r.settle, r.relief, r.carb, r.margin, r.gain, r.deadband, r.gross, r.warmup, r.timedAllowed,
    r.promo, r.dev, r.hold, r.speed]

/-- The sizes of the 49 bytes of WRITE MACHINE (R191). -/
def machineSizes : List Nat :=
  [1, 8, 2, 2, 2, 2, 2, 2, 2, 2, 2, 1, 2, 2, 2, 1, 1, 1, 1, 1, 1, 1, 1, 1, 1, 1, 1, 2, 1]

/-- A machine configuration from its fields in order. -/
def machineOfList : List Nat → Option MachineFields
  | [nPos, fitted, nInc, aPress, aFill, aFillend, aRelief, aDis, reverse, line, supply, insp, silence, runaway, outlier,
      window, mode, a0, a1, a2, a3, a4, a5, a6, a7, a8, a9, bowl, start] =>
    some ⟨nPos, BitVec.ofNat 64 fitted, nInc, aPress, aFill, aFillend, aRelief, aDis, reverse, line, supply, insp,
      silence, runaway, outlier, window, mode, #v[a0, a1, a2, a3, a4, a5, a6, a7, a8, a9], bowl, start⟩
  | _ => none

/-- The fields of a machine configuration in order. -/
def machineToList (m : MachineFields) : List Nat :=
  [m.nPos, m.fitted.toNat, m.nInc, m.aPress, m.aFill, m.aFillend, m.aRelief, m.aDis, m.reverseLimit, m.lineSilence,
    m.supplySilence, m.inspection, m.meterSilence, m.runawayLimit, m.outlierLimit, m.window, m.mode] ++
  m.actions.toList ++ [m.bowlTime, m.startSlot]

/-- The sizes of the fields of ADJUST RECIPE (R192). -/
def adjustSizes : List Nat := [2, 2, 1, 1, 2, 2, 2, 1]

/-- An adjustment from its fields in order. -/
def adjustOfList : List (Option Nat) → Option AdjustFields
  | [v, b, gain, deadband, gross, margin, hold, speed] => some ⟨v, b, gain, deadband, gross, margin, hold, speed⟩
  | _ => none

/-- The fields of an adjustment in order. -/
def adjustToList (f : AdjustFields) : List (Option Nat) :=
  [f.v, f.b, f.gain, f.deadband, f.gross, f.margin, f.hold, f.speed]

/-- The sizes of the fields of WRITE HEAD (R192). -/
def headSizes : List Nat := [2, 2, 2, 2, 1, 1]

/-- A head write from its fields in order; T is signed. -/
def headOfList : List (Option Nat) → Option HeadFields
  | [k, a, r, t, s, m] => some ⟨k, a, r, t.map signed16, s, m⟩
  | _ => none

/-- The fields of a head write in order. -/
def headToList (f : HeadFields) : List (Option Nat) :=
  [f.k, f.a, f.r, f.t.map (unsignedOf 2), f.inService, f.timedAllowed]

/-- The sizes of the fields of SET DIAGNOSTICS (R192). -/
def diagSizes : List Nat := [1, 1, 1, 1, 1, 1, 1, 1, 1, 1, 1, 1]

/-- A diagnostics write from its fields in order. -/
def diagOfList : List (Option Nat) → Option DiagFields
  | [n, mode, a0, a1, a2, a3, a4, a5, a6, a7, a8, a9] =>
    some ⟨n, mode, #v[a0, a1, a2, a3, a4, a5, a6, a7, a8, a9]⟩
  | _ => none

/-- The fields of a diagnostics write in order. -/
def diagToList (f : DiagFields) : List (Option Nat) := [f.window, f.mode] ++ f.actions.toList

/-! ### Requests -/

/-- What the Link Interface makes of a good frame (R193): a kind that its link may not send, a length that does not fit,
or a request. -/
inductive FrameRead where
  | notOwner
  | format
  | request (c : Instr)
deriving DecidableEq, Repr

/-- A request read from fields, or a length that does not fit. -/
def readOf (c : Option Instr) : FrameRead :=
  match c with
  | none => .format
  | some c => .request c

/-- A kind without a payload. -/
def readBare (bs : List Byte) (c : Instr) : FrameRead := if bs = [] then .request c else .format

/-- A kind with a payload of one byte. -/
def readByte (bs : List Byte) (f : Nat → Instr) : FrameRead :=
  readOf <| (splitFields [1] bs).bind fun l =>
    match l with
    | [x] => some (f x)
    | _ => none

/-- The requests of the line link (R191). -/
def decodeLine (kind : Nat) (bs : List Byte) : FrameRead :=
  match kind with
  | 0x01 => readBare bs .readStatus
  | 0x02 => readBare bs .operationStatus
  | 0x03 => readBare bs .start
  | 0x04 => readBare bs .hold
  | 0x05 => readBare bs .resume
  | 0x06 => readBare bs .stop
  | 0x07 => readBare bs .enterSafe
  | 0x08 => readBare bs .recover
  | 0x09 => readBare bs .restart
  | 0x0A => readBare bs .cleanBegin
  | 0x0B => readBare bs .cleanOpen
  | 0x0C => readBare bs .cleanClose
  | 0x0D => readBare bs .cleanEnd
  | 0x10 => readByte bs .selectRecipe
  | 0x11 => readOf <| (splitFields (1 :: recipeSizes) bs).bind fun l =>
      match l with
      | slot :: rest => (recipeOfList rest).map (.writeRecipe slot)
      | [] => none
  | 0x12 => readOf <| (splitWithSet 1 adjustSizes bs).bind fun l => (adjustOfList l).map .adjustRecipe
  | 0x13 => readByte bs .readRecipe
  | 0x14 => readOf <| (splitFields machineSizes bs).bind fun l => (machineOfList l).map .writeMachine
  | 0x15 => readBare bs .readMachine
  | 0x18 =>
    match bs with
    | [] => .format
    | b :: rest => readOf <| (splitWithSet 1 headSizes rest).bind fun l => (headOfList l).map (.writeHead b.toNat)
  | 0x19 => readByte bs .readHead
  | 0x1A => readByte bs .restoreHead
  | 0x1B => readByte bs .clearFaults
  | 0x1C => readByte bs .clearTotals
  | 0x1D => readOf <| (splitWithSet 2 diagSizes bs).bind fun l => (diagOfList l).map .setDiagnostics
  | 0x20 => readBare bs .testCoils
  | 0x21 => readOf <| (splitFields [1, 4, 4] bs).bind fun l =>
      match l with
      | [h, n, m] => some (.calDose h n m)
      | _ => none
  | 0x22 => readBare bs .stopCal
  | 0x23 => readBare bs .save
  | _ => .notOwner

/-- The request of the inspection link (R201). -/
def decodeInspection (kind : Nat) (bs : List Byte) : FrameRead :=
  match kind with
  | 0x30 => readOf <| (splitFields [2, 2] bs).bind fun l =>
      match l with
      | [n, m] => some (.measurement n m)
      | _ => none
  | _ => .notOwner

/-- The request of the supply link (R202). -/
def decodeSupply (kind : Nat) (bs : List Byte) : FrameRead :=
  match kind with
  | 0x40 => readOf <| (splitFields [2, 2, 2, 1] bs).bind fun l =>
      match l with
      | [t, c, q, v] => some (.supplyData (signed16 t) c q v)
      | _ => none
  | _ => .notOwner

/-- The first two checks of R193 on a good frame: the authority table and the payload length. -/
def decodeRequest (p : Port) (kind : Byte) (payload : List Byte) : FrameRead :=
  match p with
  | .line => decodeLine kind.toNat payload
  | .inspection => decodeInspection kind.toNat payload
  | .supply => decodeSupply kind.toNat payload

/-- The link, kind and payload of a request (R191, R192); none for a command that is no request. -/
def encodeRequest : Instr → Option (Port × Byte × List Byte)
  | .readStatus => some (.line, 0x01, [])
  | .operationStatus => some (.line, 0x02, [])
  | .start => some (.line, 0x03, [])
  | .hold => some (.line, 0x04, [])
  | .resume => some (.line, 0x05, [])
  | .stop => some (.line, 0x06, [])
  | .enterSafe => some (.line, 0x07, [])
  | .recover => some (.line, 0x08, [])
  | .restart => some (.line, 0x09, [])
  | .cleanBegin => some (.line, 0x0A, [])
  | .cleanOpen => some (.line, 0x0B, [])
  | .cleanClose => some (.line, 0x0C, [])
  | .cleanEnd => some (.line, 0x0D, [])
  | .selectRecipe slot => some (.line, 0x10, leBytes 1 slot)
  | .writeRecipe slot r => some (.line, 0x11, leBytes 1 slot ++ joinFields (recipeSizes.zip (recipeToList r)))
  | .adjustRecipe f => some (.line, 0x12, joinWithSet 1 (adjustSizes.zip (adjustToList f)))
  | .readRecipe slot => some (.line, 0x13, leBytes 1 slot)
  | .writeMachine m => some (.line, 0x14, joinFields (machineSizes.zip (machineToList m)))
  | .readMachine => some (.line, 0x15, [])
  | .writeHead h f => some (.line, 0x18, leBytes 1 h ++ joinWithSet 1 (headSizes.zip (headToList f)))
  | .readHead h => some (.line, 0x19, leBytes 1 h)
  | .restoreHead h => some (.line, 0x1A, leBytes 1 h)
  | .clearFaults h => some (.line, 0x1B, leBytes 1 h)
  | .clearTotals h => some (.line, 0x1C, leBytes 1 h)
  | .setDiagnostics f => some (.line, 0x1D, joinWithSet 2 (diagSizes.zip (diagToList f)))
  | .testCoils => some (.line, 0x20, [])
  | .calDose h n m => some (.line, 0x21, leBytes 1 h ++ (leBytes 4 n ++ leBytes 4 m))
  | .stopCal => some (.line, 0x22, [])
  | .save => some (.line, 0x23, [])
  | .measurement n m => some (.inspection, 0x30, leBytes 2 n ++ leBytes 2 m)
  | .supplyData t c q v =>
    some (.supply, 0x40, leBytes 2 (unsignedOf 2 t) ++ (leBytes 2 c ++ (leBytes 2 q ++ leBytes 1 v)))
  | .powerOn | .brownout _ | .resetInput | .fullResetEnd | .loadCompletion _ | .encoderStep _ _ _
  | .zeroMarkArrival _ | .speedSample | .standstillExpiry | .pressuriseExpiry _ | .settleExpiry _ | .reliefExpiry _
  | .ventExpiry _ | .coilTestExpiry _ | .coilTestReport _ _ _ | .flowmeterPulse _ | .timedOpenExpiry _
  | .meterSilenceExpiry _ | .sealDrop _ | .coilReport _ _ _ | .moduleStatusReport _ | .moduleSilent _
  | .holdLimitExpiry | .lineSilenceExpiry | .supplySilenceExpiry | .bowlDeterminationExpiry | .demandPeriodEnd
  | .calSilenceExpiry | .calTimeoutExpiry | .calSettleExpiry | .saveCompletion _ | .byteArrival _ _ _
  | .frameTimerExpiry _ | .frameSent _ | .sealInputRise _ => none

end Sys2Proof
end

