-- ==== Sys2Proof/Config.lean ====
section
/-! DEFINITION. What the manual leaves open as a value: constants with no body, so that no proof can rest on one.
Each is applied to `Part.freeCount`, which every use advances, so that each use is a fresh value. -/

namespace Sys2Proof

/-- How many byte writes of a SAVE were completed when a full reset cut it off (R214). Log entry 10. -/
opaque Config.saveReached : Nat → Nat

/-- Whether that full reset came together with the write of one more byte (R214). Log entry 10. -/
opaque Config.saveTorn : Nat → Bool

/-- The undetermined byte of the memory: of the write that a full reset cut through (R214), or found by a failed
read-back (R213). Log entries 10 and 11. -/
opaque Config.undeterminedByte : Nat → Byte

end Sys2Proof
end

