-- ==== Sys2Proof/Machine/State.lean ====
section
/-! DEFINITION. The state of the DV-64 as plain data, and the machine right after a full reset. Every field is listed in
INVENTORY.md under '## State' with the rule that names it. -/

namespace Sys2Proof.Machine

open Sys2Proof

/-- No command of the part ends in a fault: the spec gives every command an effect in every state, faults of the
machine and of heads being states of the part (R113, R157). The type has no constructor, which is safe: no run stops. -/
inductive Fault where
deriving DecidableEq, Repr

/-- Why a command has no meaning in the model. -/
inductive Refusal where
  /-- Raised by an arm of `exec` whose command is not modelled; safe: the run stops. No arm raises it. -/
  | notModelled (mnemonic : String)
deriving DecidableEq, Repr

/-- A timer: stopped, or running until the clock reaches `due` (log entry 2). -/
inductive Timer where
  | stopped
  | running (due : Nat)
deriving DecidableEq, Repr

/-- Whether a full reset lasts, the memory load runs, or the part runs (R204, R207, R208). -/
inductive Phase where
  | inReset | loading | running
deriving DecidableEq, Repr

/-- The input pins whose levels the part reads. -/
structure Pins where
  chanA : Bool
  chanB : Bool
  infeed : Bool
  seals : Vector Bool 64
deriving DecidableEq, Repr

/-! ### Configuration -/

/-- The coil test mode (R126). -/
inductive CoilMode where
  | off | onRequest | everyRev
deriving DecidableEq, Repr

/-- An action select (R120). -/
inductive Action where
  | report | degrade | out
deriving DecidableEq, Repr

/-- The working machine configuration (R209, R210). -/
abbrev MachineConfig := MachineOf CoilMode Action (Option SlotNo)

/-- The fields of a recipe slot (R166). -/
abbrev Recipe := RecipeOf Bool

/-- A DEFINED recipe slot (R166). -/
structure StoredRecipe where
  revision : Nat
  fields : Recipe
deriving DecidableEq, Repr

/-! ### Carousel Tracker -/

/-- The direction of a step (R3). -/
inductive Direction where
  | forward | backward
deriving DecidableEq, Repr

/-- The zero-mark check state of a REFERENCED position (R15). -/
inductive ZeroCheck where
  | clear | pending
deriving DecidableEq, Repr

/-- The boundaries in the order of R10. -/
inductive Boundary where
  | infeed | press | fill | fillend | relief | dis
deriving DecidableEq, Repr

/-- The state of the Carousel Tracker but its boundary pointers (R3 to R8, R19). `zero` is absent while the position is
UNREFERENCED. -/
structure Carousel where
  position : Nat
  lag : Nat
  direction : Option Direction
  net : Int
  history : Vector Int 8
  sampleTimer : Timer
  standstill : Bool
  standTimer : Timer
  zero : Option ZeroCheck
deriving DecidableEq, Repr

/-! ### Head Sequencer -/

/-- The head states in the order of the table of R20. -/
inductive HeadState where
  | rest | testing | skip | sealing | pressurize | waitFill | fillFast | fillFine | settle | waitRelief | relief
  | waitDischarge | vent
deriving DecidableEq, Repr

/-- The reports of a coil test, one a valve (R39). -/
structure TestReports where
  gas : Option TestReport
  fast : Option TestReport
  fine : Option TestReport
  relief : Option TestReport
deriving DecidableEq, Repr

/-- A head entry (R20). Valve commands are true when OPEN. `cleanWaiting` is the note of R41 (log entry 21). -/
structure Entry where
  state : HeadState
  timer : Timer
  gas : Bool
  fast : Bool
  fine : Bool
  relief : Bool
  fillStartNoted : Bool
  fillEndNoted : Bool
  pressurised : Bool
  vented : Bool
  reports : TestReports
  cleanWaiting : Bool
deriving DecidableEq, Repr

/-! ### Dose Engine -/

/-- The method of a dose context or container record (R45). -/
inductive DoseMethod where
  | flow | timed | none
deriving DecidableEq, Repr

/-- The dose status (R45). -/
inductive DoseStatus where
  | notFilled | complete | aborted
deriving DecidableEq, Repr

/-- The container flags in the order of the bits of R200. -/
inductive ContainerFlag where
  | notSealed | sealLost | windowOverrun | fillInhibited | noFillInHold | notProducing | headUnavailable | meterLost
  | valveFault | reliefShort | heldLong | warmup | safeAbort
deriving DecidableEq, Repr

/-- The after-run count state (R45, R56). -/
inductive AfterRunState where
  | notOpen | counting | closed | discarded
deriving DecidableEq, Repr

/-- The shadow judgement (R65). -/
inductive Judgement where
  | plausible | implausible
deriving DecidableEq, Repr

/-- The snapshot fields that a FLOW or TIMED context alone holds (R45): K, A, R, T, generation, B, the times, L, E and
the timed open time t. -/
structure Snapshot where
  k : Nat
  a : Nat
  r : Nat
  t : Int
  gen : Nat
  b : Nat
  press : Nat
  settle : Nat
  relief : Nat
  dev : Nat
  e : Nat
  openTime : Nat
deriving DecidableEq, Repr

/-- A dose context (R45). Its head is the place it is held at. `openTimer` is the timed open timer (R55),
`silenceTimer` the meter silence timer (R58). -/
structure Context where
  number : Nat
  method : DoseMethod
  snap : Option Snapshot
  revision : Option Nat
  v : Option Nat
  c : Nat
  f : Nat
  used : DoseMethod
  filling : Bool
  fillStart : Option Nat
  fastClose : Option Nat
  fill : Nat
  after : Nat
  shadow : Nat
  afterState : AfterRunState
  alive : Bool
  judgement : Option Judgement
  status : DoseStatus
  flags : BitVec 13
  openTimer : Timer
  silenceTimer : Timer
deriving DecidableEq, Repr

/-- The runaway count of a head (R57). `reported`: METER_RUNAWAY was handed over in this revolution. `filled`: a fill
start has ended a revolution since the last discharge (log entry 13). -/
structure Runaway where
  count : Nat
  reported : Bool
  filled : Bool
deriving DecidableEq, Repr

/-! ### Head Table -/

/-- The fault kinds in the order of the table of R120. -/
inductive FaultKind where
  | meterSilent | meterRunaway | rateDeviation | afterrunOutlier | trimLimit | coilOpen | coilShort | sealLost
  | windowOverrun | reliefShort
deriving DecidableEq, Repr

/-- The method of a head record (R69). -/
inductive Method where
  | flow | timed | out
deriving DecidableEq, Repr

/-- The stored fields of a head record (R69). -/
structure StoredHead where
  inService : Bool
  timedAllowed : Bool
  k : Nat
  a : Nat
  r : Nat
  t : Int
deriving DecidableEq, Repr

/-- A head record (R69): the stored fields and the run-time fields. -/
structure HeadRecord where
  stored : StoredHead
  gen : Nat
  trimFrom : Option Nat
  method : Method
  cause : Option FaultKind
  promo : Nat
  warm : Nat
  outlierRun : Nat
  doses : Nat
  rejects : Nat
  drainPulses : Nat
  uninspected : Nat
deriving DecidableEq, Repr

/-! ### Diagnostics Monitor -/

/-- A diagnostic entry (R113): a bit of `live` and `held` for each fault kind, the details of the two coil kinds as sets
of valves, the deviation window oldest first, and the test mark. -/
structure Diag where
  live : BitVec 10
  held : BitVec 10
  openDetail : BitVec 4
  shortDetail : BitVec 4
  window : List Bool
  mark : Bool
deriving DecidableEq, Repr

/-- The coil test state (R113). -/
inductive CoilTest where
  | idle | running
deriving DecidableEq, Repr

/-- All that is held for one head position. For a position outside the fitted set the entry, the context, the
diagnostic entry, the pointer and the counts do not exist in the part; they stand here at their blank values. -/
structure Head where
  entry : Entry
  context : Option Context
  record : HeadRecord
  diag : Diag
  pointer : Option Boundary
  runaway : Runaway
  demandCount : Nat
deriving DecidableEq, Repr

/-! ### Container Track -/

/-- The verdict of a container (R34). -/
inductive Verdict where
  | pass | reject
deriving DecidableEq, Repr

/-- The fields of a container record written at its discharge (R91). -/
structure Discharged where
  revision : Option Nat
  v : Option Nat
  used : DoseMethod
  status : DoseStatus
  e : Option Nat
  dosed : Option Nat
  flags : BitVec 13
  verdict : Verdict
deriving DecidableEq, Repr

/-- A container record (R91): ON_CAROUSEL while `result` is absent, DISCHARGED once it is present. -/
structure TrackRecord where
  number : Nat
  head : HeadNo
  slot : Option SlotNo
  result : Option Discharged
deriving DecidableEq, Repr

/-! ### Supply Monitor -/

/-- The bowl level (R134). -/
inductive Level where
  | low | ok | high
deriving DecidableEq, Repr

/-- The freshness of the supply record (R134). -/
inductive Freshness where
  | absent | fresh | stale
deriving DecidableEq, Repr

/-- The four data fields of the supply record (R134). -/
structure SupplyRecord where
  temperature : Int
  carbonation : Nat
  pressure : Nat
  level : Level
deriving DecidableEq, Repr

/-- The qualifier of the pressure request (R138). -/
inductive Qualifier where
  | provisional | final
deriving DecidableEq, Repr

/-- The state of the bowl watch (R142). -/
inductive Watch where
  | clear | timing | low
deriving DecidableEq, Repr

/-- The state of the Supply Monitor (R134, R138, R142, R147). -/
structure Supply where
  record : Option SupplyRecord
  freshness : Freshness
  limited : BitVec 4
  setpoint : Nat
  qualifier : Qualifier
  watch : Watch
  watchTimer : Timer
  demand : Nat
  demandTimer : Timer
deriving DecidableEq, Repr

/-! ### State Controller -/

/-- The production states in the order of the codes of R199. -/
inductive Prod where
  | config | standby | production | hold | stopping | drain | safe
deriving DecidableEq, Repr

/-- The SAFE causes in the order of the codes of R199. -/
inductive Cause where
  | command | lineSilent | reverse | zeroLost | headBus
deriving DecidableEq, Repr

/-- The state of the State Controller (R150, R153, R157, R161, R163, R167, R172). -/
structure Control where
  prod : Prod
  firstCause : Option Cause
  causes : BitVec 5
  holdTimer : Timer
  cleanOpened : Bool
  lineQuiet : Bool
  activeSlot : Option SlotNo
  admitted : Nat
  discharged : Nat
deriving DecidableEq, Repr

/-- A driver module (R160): whether it is silent, and the time at which it falls silent unless it answers. -/
structure ModuleState where
  silent : Bool
  timer : Timer
deriving DecidableEq, Repr

/-! ### Operation Slot -/

/-- The phase of a calibration dose (R179). -/
inductive CalPhase where
  | fast | fine | settle
deriving DecidableEq, Repr

/-- The cause of an aborted calibration dose (R183). -/
inductive AbortCause where
  | stopCal | safe | motion | coil | headWithdrawn
deriving DecidableEq, Repr

/-- The calibration record (R179) with its three timers (R179, R180). -/
structure CalRecord where
  head : HeadNo
  pCal : Nat
  pFine : Nat
  k : Nat
  settle : Nat
  phase : CalPhase
  counted : Nat
  after : Nat
  start : Nat
  fastClose : Option Nat
  completion : Option Nat
  timeoutTimer : Timer
  silenceTimer : Timer
  settleTimer : Timer
deriving DecidableEq, Repr

/-- The kinds of long operation (R174). -/
inductive OpKind where
  | calDose | testCoils | save
deriving DecidableEq, Repr

/-- The results of the long operations with their contents (R174, R181 to R183, R129, R213). -/
inductive OpResult where
  | calDone (counted after elapsed rate : Nat)
  | calSilent (counted elapsed : Nat)
  | calTimeout (counted elapsed : Nat)
  | calAborted (cause : AbortCause) (counted after elapsed : Nat)
  | testDone (heads : BitVec 64)
  | testAborted
  | saveDone
  | saveFault
deriving DecidableEq, Repr

/-- The Operation Slot (R174). A pending SAVE holds its snapshot as the bytes it writes behind the signature (R206,
R212, R213). -/
inductive Slot where
  | empty
  | pendingCal (c : CalRecord)
  | pendingTest
  | pendingSave (image : List Byte)
  | finished (r : OpResult)
deriving DecidableEq, Repr

/-! ### Link Interface -/

/-- A receiver (R188) with the bytes it has kept. -/
inductive Receiver where
  | hunt
  | kind
  | length (kind : Byte)
  | payload (kind : Byte) (len : Nat) (got : List Byte)
  | crcLow (kind : Byte) (got : List Byte)
  | crcHigh (kind : Byte) (got : List Byte) (low : Byte)
deriving DecidableEq, Repr

/-- A frame in a transmit queue: whether it is the reply to a request (R190), its kind and its payload. The bytes on the
wire are `frameBytes`. -/
structure OutFrame where
  reply : Bool
  kind : Byte
  payload : List Byte
deriving DecidableEq, Repr

/-- A port (R188, R190, R195): receiver, frame timer, held good frame (kind and payload), transmit queue. -/
structure PortState where
  rx : Receiver
  timer : Timer
  held : Option (Byte × List Byte)
  queue : List OutFrame
deriving DecidableEq, Repr

/-- The three ports. -/
structure Links where
  line : PortState
  inspection : PortState
  supply : PortState
deriving DecidableEq, Repr

/-! ### The whole -/

/-- Everything the part holds, and its surroundings: the clock, the pins and the configuration memory. -/
structure Part where
  now : Nat
  phase : Phase
  firstHead : HeadNo
  freeCount : Nat
  pins : Pins
  memory : List Host.Cell
  machine : MachineConfig
  configBad : Bool
  recipes : Vector (Option StoredRecipe) 8
  carousel : Carousel
  heads : Vector Head 64
  advisory : Nat
  track : List TrackRecord
  nextNumber : Nat
  coilTest : CoilTest
  supply : Supply
  control : Control
  modules : Vector ModuleState 8
  slot : Slot
  links : Links
  lineTimer : Timer
  supplyTimer : Timer
deriving DecidableEq, Repr

/-- The state of the machine: the commands that wait, first in, first out, and the part. -/
structure State where
  pending : List Instr
  part : Part
deriving DecidableEq, Repr

/-! ### The values after a full reset -/

/-- The default action selects of R120, in its order. -/
def defaultActions : Vector Action 10 :=
  #v[.degrade, .degrade, .degrade, .report, .report, .out, .out, .report, .report, .report]

/-- The defaults of R208. -/
def defaultMachine : MachineConfig where
  nPos := 64
  fitted := 0
  nInc := 14400
  aPress := 0
  aFill := 0
  aFillend := 0
  aRelief := 0
  aDis := 0
  reverseLimit := 200
  lineSilence := 100
  supplySilence := 500
  inspection := 40
  meterSilence := 200
  runawayLimit := 20
  outlierLimit := 150
  window := 8
  mode := .onRequest
  actions := defaultActions
  bowlTime := 1000
  startSlot := none

/-- The Full reset column of R19. -/
def blankCarousel : Carousel where
  position := 0
  lag := 0
  direction := none
  net := 0
  history := Vector.replicate 8 0
  sampleTimer := .stopped
  standstill := true
  standTimer := .stopped
  zero := none

/-- No report of a coil test has arrived. -/
def noReports : TestReports := ⟨none, none, none, none⟩

/-- A head entry in REST with every valve closed, every note no and the timer stopped (R43). -/
def blankEntry : Entry where
  state := .rest
  timer := .stopped
  gas := false
  fast := false
  fine := false
  relief := false
  fillStartNoted := false
  fillEndNoted := false
  pressurised := false
  vented := false
  reports := noReports
  cleanWaiting := false

/-- The stored head fields of R208 for a bad memory. -/
def defaultStored : StoredHead := ⟨false, true, 10000, 0, 1000, 0⟩

/-- The run-time values of a head record after a full reset (R70), for stored fields and a fitted position or not. -/
def freshRecord (fitted : Bool) (st : StoredHead) : HeadRecord where
  stored := st
  gen := 0
  trimFrom := none
  method := if fitted && st.inService then .flow else .out
  cause := none
  promo := 0
  warm := 0
  outlierRun := 0
  doses := 0
  rejects := 0
  drainPulses := 0
  uninspected := 0

/-- A diagnostic entry with every flag false (R132, R133). -/
def blankDiag : Diag := ⟨0, 0, 0, 0, [], false⟩

/-- The runaway count after a reset (R68). -/
def blankRunaway : Runaway := ⟨0, false, false⟩

/-- A head position with a record and nothing else. -/
def blankHead (record : HeadRecord) : Head where
  entry := blankEntry
  context := none
  record := record
  diag := blankDiag
  pointer := none
  runaway := blankRunaway
  demandCount := 0

/-- The Full reset column of R149, before the recomputation. -/
def blankSupply : Supply where
  record := none
  freshness := .absent
  limited := 0
  setpoint := 6000
  qualifier := .provisional
  watch := .clear
  watchTimer := .stopped
  demand := 0
  demandTimer := .stopped

/-- The reset values of R173 at the reset itself. -/
def blankControl : Control where
  prod := .config
  firstCause := none
  causes := 0
  holdTimer := .stopped
  cleanOpened := false
  lineQuiet := false
  activeSlot := none
  admitted := 0
  discharged := 0

/-- A port after a full reset (R203). -/
def blankPort : PortState := ⟨.hunt, .stopped, none, []⟩

/-- The part at the end of a full reset: in CONFIG with CONFIG_BAD false, the memory load begun (R204), every block at
the Full reset column of its table (R19, R43, R68, R70, R112, R133, R149, R173, R185, R203). What the load will replace
stands at the defaults of R208 (DESIGN CHOICE, log entry 4); the pins and the memory are those of log entries 5 and 6. -/
def resetPart : Part where
  now := 0
  phase := .loading
  firstHead := 0
  freeCount := 0
  pins := ⟨false, false, false, Vector.replicate 64 false⟩
  memory := []
  machine := defaultMachine
  configBad := false
  recipes := Vector.replicate 8 none
  carousel := blankCarousel
  heads := Vector.replicate 64 (blankHead (freshRecord false defaultStored))
  advisory := 0
  track := []
  nextNumber := 0
  coilTest := .idle
  supply := blankSupply
  control := blankControl
  modules := Vector.replicate 8 ⟨false, .stopped⟩
  slot := .empty
  links := ⟨blankPort, blankPort, blankPort⟩
  lineTimer := .stopped
  supplyTimer := .stopped

/-- The machine right after reset: no command waits. -/
def State.reset : State where
  pending := []
  part := resetPart

end Sys2Proof.Machine
end

