-- ==== Sys2Proof/Machine/Ops.lean ====
section
/-! DEFINITION. The named operations that the meanings share: arithmetic and byte order, sets of bits, reading and
changing one head, timers and the clock, the driver modules, the configuration memory and the CRC. -/

namespace Sys2Proof.Machine

open Sys2Proof

/-! ### Arithmetic (spec/00, section 5.2) -/

/-- `n / d` rounded to nearest, halves up, for unsigned values. -/
def roundNat (n d : Nat) : Nat := (2 * n + d) / (2 * d)

/-- `n / d` rounded to nearest, halves away from zero. -/
def roundInt (n : Int) (d : Nat) : Int :=
  if 0 ≤ n then (roundNat n.toNat d : Nat) else -((roundNat (-n).toNat d : Nat) : Int)

/-- A value limited to `lo..hi`. -/
def limitNat (lo hi x : Nat) : Nat := min hi (max lo x)

/-- A signed value limited to `lo..hi`. -/
def limitInt (lo hi x : Int) : Int := min hi (max lo x)

/-- The distance of two signed values. -/
def distance (x y : Int) : Nat := (x - y).natAbs

/-- The value at which the pulse counts saturate (R53). -/
def countMax : Nat := 16777215

/-- The value at which the head totals saturate (R69). -/
def totalMax : Nat := 4294967295

/-- A pulse count with one more arrival (R53). -/
def countUp (n : Nat) : Nat := min countMax (n + 1)

/-- A head total with one more (R69). -/
def totalUp (n : Nat) : Nat := min totalMax (n + 1)

/-- Container number `a` is older than `b` (R2). -/
def olderThan (a b : Nat) : Bool := 32768 ≤ (a + 65536 - b) % 65536

/-! ### Sets of bits -/

/-- The set with member `i` added. -/
def withBit {w : Nat} (s : BitVec w) (i : Nat) : BitVec w := s ||| BitVec.twoPow w i

/-- The set with member `i` removed. -/
def withoutBit {w : Nat} (s : BitVec w) (i : Nat) : BitVec w := s &&& ~~~ BitVec.twoPow w i

/-- The set of the members of `l` for which `p` holds, each at its number `idx`. -/
def bitsOf {α : Type} (w : Nat) (l : List α) (idx : α → Nat) (p : α → Bool) : BitVec w :=
  l.foldl (fun s x => if p x then withBit s (idx x) else s) 0

/-! ### Timers and the clock (log entry 2) -/

/-- A timer started now with a duration in ms. -/
def Part.startTimer (p : Part) (ms : Nat) : Timer := .running (p.now + ms)

/-- The clock at a timer's running out: moved to the due time when it is behind it. -/
def Part.clockTo (due : Nat) (p : Part) : Part := { p with now := max p.now due }

/-- Take the expiry of a timer: nothing when it is stopped; otherwise the clock is brought to the due time and the
handling follows. -/
def Part.atExpiry (p : Part) (t : Timer) (handle : Part → Part) : Part :=
  match t with
  | .stopped => p
  | .running due => handle (p.clockTo due)

/-- A millisecond passes with no command waiting (log entry 1). -/
def Part.idleTick (p : Part) : Part := { p with now := p.now + 1 }

/-- Whether a timer runs. -/
def Timer.isRunning (t : Timer) : Bool := t != .stopped

/-! ### One head -/

/-- All that is held for head position `h`. -/
def Part.head (p : Part) (h : HeadNo) : Head := p.heads[h]

/-- Change what is held for head position `h`. -/
def Part.modHead (h : HeadNo) (f : Head → Head) (p : Part) : Part :=
  { p with heads := p.heads.set h (f (p.head h)) }

/-- The head entry of `h` (R20). -/
def Part.entry (p : Part) (h : HeadNo) : Entry := (p.head h).entry

/-- The dose context of `h`, if it holds one (R44). -/
def Part.context (p : Part) (h : HeadNo) : Option Context := (p.head h).context

/-- The head record of `h` (R69). -/
def Part.record (p : Part) (h : HeadNo) : HeadRecord := (p.head h).record

/-- The diagnostic entry of `h` (R113). -/
def Part.diag (p : Part) (h : HeadNo) : Diag := (p.head h).diag

/-- Change the head entry of `h`. -/
def Part.modEntry (h : HeadNo) (f : Entry → Entry) : Part → Part :=
  Part.modHead h fun x => { x with entry := f x.entry }

/-- Change the dose context of `h`, if it holds one. -/
def Part.modContext (h : HeadNo) (f : Context → Context) : Part → Part :=
  Part.modHead h fun x => { x with context := x.context.map f }

/-- Change the head record of `h`. -/
def Part.modRecord (h : HeadNo) (f : HeadRecord → HeadRecord) : Part → Part :=
  Part.modHead h fun x => { x with record := f x.record }

/-- Change the diagnostic entry of `h`. -/
def Part.modDiag (h : HeadNo) (f : Diag → Diag) : Part → Part :=
  Part.modHead h fun x => { x with diag := f x.diag }

/-- The head positions 0..63 in order. -/
def allHeads : List HeadNo := List.finRange 64

/-- Whether position `h` is in the fitted set (spec/00, section 5.3). -/
def Part.fitted (p : Part) (h : HeadNo) : Bool := p.machine.fitted.getLsbD h

/-- Do `f` at each of a list of heads in turn. -/
def forEach (l : List HeadNo) (f : HeadNo → Part → Part) (p : Part) : Part :=
  l.foldl (fun q h => f h q) p

/-- Do `f` at each fitted head in head order. -/
def forFitted (f : HeadNo → Part → Part) (p : Part) : Part :=
  forEach (allHeads.filter p.fitted) f p

/-- The fitted heads in the order in which one increment's crossings are handed over: the manual gives none (R13), the
free field `firstHead` says which comes first (log entry 9). -/
def Part.crossingOrder (p : Part) : List HeadNo := (allHeads.map (p.firstHead + ·)).filter p.fitted

/-- The number of dose contexts present (R156). -/
def Part.contextCount (p : Part) : Nat := (allHeads.filter fun h => (p.context h).isSome).length

/-- The recipe of the active slot, if a slot is active (R167). -/
def Part.activeRecipe (p : Part) : Option StoredRecipe :=
  match p.control.activeSlot with
  | none => none
  | some i => p.recipes[i]

/-! ### The driver modules (R160) -/

/-- The module that serves a head: module m serves heads 8m to 8m + 7. -/
def moduleOf (h : HeadNo) : ModuleNo := ⟨h.val / 8, by omega⟩

/-- A module that serves at least one fitted head is watched. -/
def watchedBy (fitted : BitVec 64) (m : ModuleNo) : Bool :=
  allHeads.any fun h => moduleOf h == m && fitted.getLsbD h

/-- Whether module `m` is watched. -/
def Part.watched (p : Part) (m : ModuleNo) : Bool := watchedBy p.machine.fitted m

/-- The head bus modules 0..7. -/
def allModules : List ModuleNo := List.finRange 8

/-- A watched module answers: it is not silent, and its 5 ms begin again. -/
def Part.moduleAnswers (m : ModuleNo) (p : Part) : Part :=
  if p.phase = .running ∧ p.watched m = true then
    { p with modules := p.modules.set m ⟨false, p.startTimer 5⟩ }
  else p

/-- Whether module `m` is watched and silent. -/
def Part.moduleSilent (p : Part) (m : ModuleNo) : Bool := p.watched m && p.modules[m].silent

/-- Whether any watched module is silent (R151, R162). -/
def Part.anySilent (p : Part) : Bool := allModules.any p.moduleSilent

/-- The level of a seal input where the head cycle reads it: false while the head's module is silent (R160). The spec is
silent on a level that changed unreported during the silence: here the last level reported reads again once the module
answers (log entry 32). -/
def Part.sealRead (p : Part) (h : HeadNo) : Bool := p.pins.seals[h] && !p.moduleSilent (moduleOf h)

/-- Record the level of a seal input. -/
def Part.setSeal (h : HeadNo) (level : Bool) (p : Part) : Part :=
  { p with pins := { p.pins with seals := p.pins.seals.set h level } }

/-! ### The configuration memory (R206; log entry 5) -/

/-- What an address of the memory that nothing has written reads as. -/
def unwritten : Byte := 0

/-- The byte at an address. -/
def memRead : List Host.Cell → Nat → Byte
  | [], _ => unwritten
  | (a, b) :: rest, addr => if a = addr then b else memRead rest addr

/-- Write one byte: the addresses stay strictly rising, and no entry reads as an unlisted address does. -/
def memWrite : List Host.Cell → Nat → Byte → List Host.Cell
  | [], addr, b => if b = unwritten then [] else [(addr, b)]
  | (a, c) :: rest, addr, b =>
    if addr < a then
      if b = unwritten then (a, c) :: rest else (addr, b) :: (a, c) :: rest
    else if addr = a then
      if b = unwritten then rest else (addr, b) :: rest
    else (a, c) :: memWrite rest addr b

/-- Do a sequence of byte writes in order. -/
def memWriteAll (m : List Host.Cell) (ws : List (Nat × Byte)) : List Host.Cell :=
  ws.foldl (fun m w => memWrite m w.1 w.2) m

/-- The `n` bytes from an address on. -/
def memReadRange (m : List Host.Cell) (addr : Nat) : Nat → List Byte
  | 0 => []
  | n + 1 => memRead m addr :: memReadRange m (addr + 1) n

/-- The canonical form of the memory, from a least address on. -/
def memWfFrom : Nat → List Host.Cell → Bool
  | _, [] => true
  | lo, (a, b) :: rest => decide (lo ≤ a) && decide (b ≠ unwritten) && memWfFrom (a + 1) rest

/-- The canonical form of the memory: addresses strictly rising, no entry equal to what an unlisted address reads as. -/
def Memory.wf (m : List Host.Cell) : Bool := memWfFrom 0 m

/-! ### The CRC (R187) -/

/-- One bit step of the CRC register, most significant bit first, generator x^16 + x^12 + x^5 + 1. -/
def crcShift (r : BitVec 16) : BitVec 16 :=
  if r.getLsbD 15 then (r <<< 1) ^^^ 0x1021#16 else r <<< 1

/-- Take one byte into the CRC register. -/
def crcByte (r : BitVec 16) (b : Byte) : BitVec 16 :=
  let r := r ^^^ (b.setWidth 16 <<< 8)
  crcShift (crcShift (crcShift (crcShift (crcShift (crcShift (crcShift (crcShift r)))))))

/-- The CRC of a run of bytes, from 0xFFFF, not reflected, not inverted. -/
def crc16 (bs : List Byte) : BitVec 16 := bs.foldl crcByte 0xFFFF#16

/-- The low byte of a CRC, sent first. -/
def crcLowByte (c : BitVec 16) : Byte := c.setWidth 8

/-- The high byte of a CRC. -/
def crcHighByte (c : BitVec 16) : Byte := (c >>> 8).setWidth 8

end Sys2Proof.Machine
end

