-- ==== Sys2Proof/Machine/Operands.lean ====
section
/-! DEFINITION. The owners' checks of the fields a request carries: codes (R191) and ranges (R69, R130, R166, R169, R178,
R210). A request's numbers are turned into names here, once. -/

namespace Sys2Proof.Machine

open Sys2Proof

/-- A value lies in `lo..hi`. -/
def inRange (lo hi x : Nat) : Bool := decide (lo ≤ x) && decide (x ≤ hi)

/-- A field that is absent or lies in `lo..hi`. -/
def optInRange (lo hi : Nat) (x : Option Nat) : Bool := x.all (inRange lo hi)

/-- A yes/no field: 0 for no, 1 for yes (R191). -/
def yesNoOf (n : Nat) : Option Bool :=
  match n with
  | 0 => some false
  | 1 => some true
  | _ => none

/-- The coil test mode of a code (R191). -/
def modeOf (n : Nat) : Option CoilMode :=
  match n with
  | 0 => some .off
  | 1 => some .onRequest
  | 2 => some .everyRev
  | _ => none

/-- The action select of a code (R191). -/
def actionOf (n : Nat) : Option Action :=
  match n with
  | 0 => some .report
  | 1 => some .degrade
  | 2 => some .out
  | _ => none

/-- The recipe at start of a code: 0..7, or 0xFF for none (R191). -/
def startSlotOf (n : Nat) : Option (Option SlotNo) :=
  if h : n < 8 then some (some ⟨n, h⟩) else if n = 255 then some none else none

/-- The code of a yes/no field. -/
def yesNoCode (b : Bool) : Nat := if b then 1 else 0

/-- The code of a coil test mode. -/
def modeCode : CoilMode → Nat
  | .off => 0
  | .onRequest => 1
  | .everyRev => 2

/-- The code of an action select. -/
def actionCode : Action → Nat
  | .report => 0
  | .degrade => 1
  | .out => 2

/-- The code of a recipe at start, or of the active slot in READ STATUS. -/
def startSlotCode : Option SlotNo → Nat
  | some i => i.val
  | none => 255

/-- The fault kinds in the order of the table of R120. -/
def allKinds : List FaultKind :=
  [.meterSilent, .meterRunaway, .rateDeviation, .afterrunOutlier, .trimLimit, .coilOpen, .coilShort, .sealLost,
    .windowOverrun, .reliefShort]

/-- The place of a fault kind in the table of R120. -/
def FaultKind.idx : FaultKind → Fin 10
  | .meterSilent => 0
  | .meterRunaway => 1
  | .rateDeviation => 2
  | .afterrunOutlier => 3
  | .trimLimit => 4
  | .coilOpen => 5
  | .coilShort => 6
  | .sealLost => 7
  | .windowOverrun => 8
  | .reliefShort => 9

/-- Whether the table of R120 permits an action select for a kind: DEGRADE is permitted for six kinds alone. -/
def permitted (k : FaultKind) (a : Action) : Bool :=
  match a, k with
  | .degrade, .afterrunOutlier | .degrade, .trimLimit | .degrade, .sealLost | .degrade, .reliefShort => false
  | _, _ => true

/-- A code that is an action select permitted for the kind. -/
def permittedCode (k : FaultKind) (n : Nat) : Bool := (actionOf n).any (permitted k)

/-! ### Heads -/

/-- The fitted head a request names: numbers of 64 and above name no fitted head (R191). -/
def Part.fittedHead (p : Part) (n : Nat) : Option HeadNo :=
  if h : n < 64 then if p.fitted ⟨n, h⟩ then some ⟨n, h⟩ else none else none

/-- The fields of a WRITE HEAD lie in the ranges of R69. -/
def headFieldsOk (f : HeadFields) : Bool :=
  optInRange 2000 50000 f.k && optInRange 0 400 f.a && optInRange 50 5000 f.r
    && f.t.all (fun t => decide (-200 ≤ t) && decide (t ≤ 200))
    && f.inService.all (fun n => (yesNoOf n).isSome) && f.timedAllowed.all (fun n => (yesNoOf n).isSome)

/-- The stored fields of a head lie in the ranges of R69. -/
def storedHeadOk (s : StoredHead) : Bool :=
  inRange 2000 50000 s.k && inRange 0 400 s.a && inRange 50 5000 s.r && decide (-200 ≤ s.t) && decide (s.t ≤ 200)

/-! ### Recipes (R166) -/

/-- Every numeric field of a recipe lies in its range, and the gross limit exceeds the deadband. -/
def recipeRangesOk {yn : Type} (r : RecipeOf yn) : Bool :=
  inRange 500 30000 r.v && inRange 0 2000 r.b && inRange 50 2000 r.press && inRange 50 2000 r.settle
    && inRange 100 3000 r.relief && inRange 150 600 r.carb && inRange 0 1500 r.margin && inRange 0 8 r.gain
    && inRange 0 50 r.deadband && inRange 50 1000 r.gross && inRange 0 15 r.warmup && inRange 0 15 r.promo
    && inRange 5 50 r.dev && inRange 0 600 r.hold && inRange 0 50 r.speed && decide (r.deadband < r.gross)

/-- The recipe that valid fields give; none when they are not valid (R166). -/
def recipeOfFields (r : RecipeFields) : Option Recipe :=
  match yesNoOf r.timedAllowed with
  | none => none
  | some timed =>
    if recipeRangesOk r then
      some ⟨r.v, r.b, r.press, r.settle, r.relief, r.carb, r.margin, r.gain, r.deadband, r.gross, r.warmup, timed,
        r.promo, r.dev, r.hold, r.speed⟩
    else none

/-- The fields of a recipe as a request carries them. -/
def recipeToFields (r : Recipe) : RecipeFields :=
  ⟨r.v, r.b, r.press, r.settle, r.relief, r.carb, r.margin, r.gain, r.deadband, r.gross, r.warmup,
    yesNoCode r.timedAllowed, r.promo, r.dev, r.hold, r.speed⟩

/-- The recipe after an adjustment (R169). -/
def adjustRecipe (f : AdjustFields) (r : Recipe) : Recipe :=
  { r with
    v := f.v.getD r.v
    b := f.b.getD r.b
    gain := f.gain.getD r.gain
    deadband := f.deadband.getD r.deadband
    gross := f.gross.getD r.gross
    margin := f.margin.getD r.margin
    hold := f.hold.getD r.hold
    speed := f.speed.getD r.speed }

/-- Every field an ADJUST RECIPE carries lies in its range (R169). -/
def adjustOk (f : AdjustFields) : Bool :=
  optInRange 500 30000 f.v && optInRange 0 2000 f.b && optInRange 0 8 f.gain && optInRange 0 50 f.deadband
    && optInRange 50 1000 f.gross && optInRange 0 1500 f.margin && optInRange 0 600 f.hold && optInRange 0 50 f.speed

/-- An ADJUST RECIPE that carries no field. -/
def adjustEmpty (f : AdjustFields) : Bool :=
  f.v.isNone && f.b.isNone && f.gain.isNone && f.deadband.isNone && f.gross.isNone && f.margin.isNone
    && f.hold.isNone && f.speed.isNone

/-! ### The machine configuration (R209, R210) -/

/-- The sector table is valid (R10). -/
def sectorOk {μ α σ : Type} (m : MachineOf μ α σ) : Bool :=
  decide (0 < m.aPress) && decide (m.aPress < m.aFill) && decide (m.aFill < m.aFillend)
    && decide (m.aFillend ≤ m.aRelief) && decide (m.aRelief < m.aDis) && decide (m.aDis < m.nInc)

/-- Every numeric field lies in its range and fits the carousel (R209, R210). -/
def machineRangesOk {μ α σ : Type} (m : MachineOf μ α σ) : Bool :=
  inRange 8 64 m.nPos && inRange 3600 65535 m.nInc && inRange 20 1000 m.lineSilence && inRange 100 5000 m.supplySilence
    && inRange 1 180 m.inspection && inRange 20 2000 m.meterSilence && inRange 1 1000 m.runawayLimit
    && inRange 20 400 m.outlierLimit && inRange 4 32 m.window && inRange 100 5000 m.bowlTime && sectorOk m
    && allHeads.all (fun h => !m.fitted.getLsbD h || decide (h.val < m.nPos))
    && decide (m.reverseLimit ≤ m.nInc / 8)

/-- Every action select is a code permitted for its kind (R120). -/
def actionsOk (a : Vector Nat 10) : Bool := allKinds.all fun k => permittedCode k a[k.idx]

/-- The working configuration that valid fields give; none when they are not valid (R210). -/
def machineOfFields (m : MachineFields) : Option MachineConfig :=
  match modeOf m.mode, startSlotOf m.startSlot with
  | some mode, some start =>
    if machineRangesOk m && actionsOk m.actions then
      some {
        nPos := m.nPos
        fitted := m.fitted
        nInc := m.nInc
        aPress := m.aPress
        aFill := m.aFill
        aFillend := m.aFillend
        aRelief := m.aRelief
        aDis := m.aDis
        reverseLimit := m.reverseLimit
        lineSilence := m.lineSilence
        supplySilence := m.supplySilence
        inspection := m.inspection
        meterSilence := m.meterSilence
        runawayLimit := m.runawayLimit
        outlierLimit := m.outlierLimit
        window := m.window
        mode := mode
        actions := Vector.ofFn fun i => (actionOf m.actions[i]).getD .report
        bowlTime := m.bowlTime
        startSlot := start }
    else none
  | _, _ => none

/-- The fields of the working configuration as READ MACHINE carries them (R210). -/
def machineToFields (m : MachineConfig) : MachineFields :=
  { nPos := m.nPos
    fitted := m.fitted
    nInc := m.nInc
    aPress := m.aPress
    aFill := m.aFill
    aFillend := m.aFillend
    aRelief := m.aRelief
    aDis := m.aDis
    reverseLimit := m.reverseLimit
    lineSilence := m.lineSilence
    supplySilence := m.supplySilence
    inspection := m.inspection
    meterSilence := m.meterSilence
    runawayLimit := m.runawayLimit
    outlierLimit := m.outlierLimit
    window := m.window
    mode := modeCode m.mode
    actions := Vector.ofFn fun i => actionCode m.actions[i]
    bowlTime := m.bowlTime
    startSlot := startSlotCode m.startSlot }

/-- The action select of a kind in a configuration. -/
def actionFor {μ σ : Type} (m : MachineOf μ Action σ) (k : FaultKind) : Action := m.actions[k.idx]

/-- Two configurations have the same geometry: N_inc, N_pos, the fitted set and the sector table (R18). -/
def sameGeometry {μ α σ : Type} (a b : MachineOf μ α σ) : Bool :=
  decide (a.nInc = b.nInc) && decide (a.nPos = b.nPos) && decide (a.fitted = b.fitted) && decide (a.aPress = b.aPress)
    && decide (a.aFill = b.aFill) && decide (a.aFillend = b.aFillend) && decide (a.aRelief = b.aRelief)
    && decide (a.aDis = b.aDis)

/-! ### Diagnostics (R130) -/

/-- Every field a SET DIAGNOSTICS carries lies in its range or codes. -/
def diagFieldsOk (f : DiagFields) : Bool :=
  optInRange 4 32 f.window && f.mode.all (fun n => (modeOf n).isSome)
    && allKinds.all fun k => (f.actions[k.idx]).all (permittedCode k)

/-- The working configuration with the fields a SET DIAGNOSTICS carries. -/
def machineWithDiag (f : DiagFields) (m : MachineConfig) : MachineConfig :=
  { m with
    window := f.window.getD m.window
    mode := (f.mode.bind modeOf).getD m.mode
    actions := Vector.ofFn fun i => ((f.actions[i]).bind actionOf).getD m.actions[i] }

end Sys2Proof.Machine
end

