-- ==== Sys2Proof/Machine/Flags.lean ====
section
/-! DEFINITION. The flag sets and the codes of the replies: container flags (R200), fault flags (R113, R199), SAFE causes
(R157), fill inhibit causes (R146), valve sets, the limited set (R134), the verdict (R34), and the enumerated codes of R199,
R200 and R202. -/

namespace Sys2Proof.Machine

open Sys2Proof

/-! ### Container flags -/

/-- The bit of a container flag (R200). -/
def ContainerFlag.bit : ContainerFlag → Nat
  | .notSealed => 0
  | .sealLost => 1
  | .windowOverrun => 2
  | .fillInhibited => 3
  | .noFillInHold => 4
  | .notProducing => 5
  | .headUnavailable => 6
  | .meterLost => 7
  | .valveFault => 8
  | .reliefShort => 9
  | .heldLong => 10
  | .warmup => 11
  | .safeAbort => 12

/-- Whether a flag is in a set of container flags. -/
def hasFlag (s : BitVec 13) (f : ContainerFlag) : Bool := s.getLsbD f.bit

/-- A set of container flags with a flag added; one already there leaves it as it was (R46). -/
def addFlag (s : BitVec 13) (f : ContainerFlag) : BitVec 13 := withBit s f.bit

/-- The context with a flag added (R46). -/
def Context.flag (f : ContainerFlag) (c : Context) : Context := { c with flags := addFlag c.flags f }

/-- The verdict of a container (R34). -/
def verdictOf (status : DoseStatus) (flags : BitVec 13) : Verdict :=
  if status = .complete && !hasFlag flags .sealLost && !hasFlag flags .reliefShort && !hasFlag flags .heldLong
      && !hasFlag flags .valveFault then .pass else .reject

/-! ### Fault flags of a head -/

/-- Whether a kind is live (R113). -/
def Diag.isLive (d : Diag) (k : FaultKind) : Bool := d.live.getLsbD k.idx

/-- Whether a kind is held (R113). -/
def Diag.isHeld (d : Diag) (k : FaultKind) : Bool := d.held.getLsbD k.idx

/-- The flags after a rise: live and held (R114). -/
def Diag.raise (k : FaultKind) (d : Diag) : Diag :=
  { d with live := withBit d.live k.idx, held := withBit d.held k.idx }

/-- The flags after a fall: the held flag stays (R114). -/
def Diag.fall (k : FaultKind) (d : Diag) : Diag := { d with live := withoutBit d.live k.idx }

/-- The flags after CLEAR FAULTS or RESTORE HEAD: the held flag of each kind that is not live is cleared, and the detail
of a coil kind whose held flag is cleared is emptied (R114, R131). -/
def Diag.clearHeld (d : Diag) : Diag :=
  { d with
    held := d.held &&& d.live
    openDetail := if d.isLive .coilOpen then d.openDetail else 0
    shortDetail := if d.isLive .coilShort then d.shortDetail else 0 }

/-- The number of deviant entries in a window. -/
def deviantCount (w : List Bool) : Nat := (w.filter id).length

/-- Twice the number of deviant entries exceeds N (R124). -/
def windowDeviant (n : Nat) (w : List Bool) : Bool := decide (n < 2 * deviantCount w)

/-- The window after a bit joins: the oldest entry leaves a full window first (R123). -/
def windowJoin (n : Nat) (bit : Bool) (w : List Bool) : List Bool := w.drop (w.length + 1 - n) ++ [bit]

/-- The newest `n` entries of a window (R125). -/
def windowNewest (n : Nat) (w : List Bool) : List Bool := w.drop (w.length - n)

/-- The bit of a valve in a valve set (R199). -/
def valveBit : Valve → Nat
  | .gas => 0
  | .fast => 1
  | .fine => 2
  | .relief => 3

/-- The coil kind that a driver's finding belongs to (R117). -/
def coilKind : CoilFault → FaultKind
  | .openLoad => .coilOpen
  | .short => .coilShort

/-- The entry with a valve added to the detail of a coil kind (R117). -/
def Diag.addDetail (c : CoilFault) (v : Valve) (d : Diag) : Diag :=
  match c with
  | .openLoad => { d with openDetail := withBit d.openDetail (valveBit v) }
  | .short => { d with shortDetail := withBit d.shortDetail (valveBit v) }

/-! ### SAFE causes and fill inhibit causes -/

/-- The code of a SAFE cause (R199). -/
def Cause.code : Cause → Nat
  | .command => 1
  | .lineSilent => 2
  | .reverse => 3
  | .zeroLost => 4
  | .headBus => 5

/-- The cause set with a cause added: bit n - 1 stands for the cause of code n (R157, R199). -/
def addCause (s : BitVec 5) (c : Cause) : BitVec 5 := withBit s (c.code - 1)

/-- BOWL_PRESSURE_LOW is present while the watch is LOW (R142). -/
def Part.bowlPressureLow (p : Part) : Bool := p.supply.watch = .low

/-- BOWL_LEVEL_LOW follows the level of the supply record (R145). -/
def Part.bowlLevelLow (p : Part) : Bool := p.supply.record.any fun r => r.level = .low

/-- SUPPLY_STALE is present while the freshness is ABSENT or STALE (R146). -/
def Part.supplyStale (p : Part) : Bool := p.supply.freshness ≠ .fresh

/-- Whether any fill inhibit cause is present (R146). -/
def Part.inhibited (p : Part) : Bool := p.bowlPressureLow || p.bowlLevelLow || p.supplyStale

/-- A byte of flags, from bit 0 upward. -/
def flagByte : List Bool → Nat
  | [] => 0
  | b :: rest => (if b then 1 else 0) + 2 * flagByte rest

/-- The fill inhibit causes as bits (R202). -/
def Part.inhibitBits (p : Part) : Nat := flagByte [p.bowlPressureLow, p.bowlLevelLow, p.supplyStale]

/-! ### Codes of R199, R200 and R202 -/

/-- The code of a production state. -/
def Prod.code : Prod → Nat
  | .config => 0
  | .standby => 1
  | .production => 2
  | .hold => 3
  | .stopping => 4
  | .drain => 5
  | .safe => 6

/-- The code of a fault kind, 0 when absent. -/
def kindCode : Option FaultKind → Nat
  | none => 0
  | some k => k.idx.val + 1

/-- The code of a SAFE cause, 0 when absent. -/
def causeCode : Option Cause → Nat
  | none => 0
  | some c => c.code

/-- The code of a head's method. -/
def Method.code : Method → Nat
  | .flow => 1
  | .timed => 2
  | .out => 3

/-- The code of a head state. -/
def HeadState.code : HeadState → Nat
  | .rest => 0
  | .testing => 1
  | .skip => 2
  | .sealing => 3
  | .pressurize => 4
  | .waitFill => 5
  | .fillFast => 6
  | .fillFine => 7
  | .settle => 8
  | .waitRelief => 9
  | .relief => 10
  | .waitDischarge => 11
  | .vent => 12

/-- The code of the zero-mark check state. -/
def zeroCode : Option ZeroCheck → Nat
  | none => 0
  | some .clear => 1
  | some .pending => 2

/-- The kind of operation a result belongs to (R174). -/
def OpResult.kind : OpResult → OpKind
  | .calDone _ _ _ _ | .calSilent _ _ | .calTimeout _ _ | .calAborted _ _ _ _ => .calDose
  | .testDone _ | .testAborted => .testCoils
  | .saveDone | .saveFault => .save

/-- The kind of operation the slot holds (R174). -/
def Slot.kind : Slot → Option OpKind
  | .empty => none
  | .pendingCal _ => some .calDose
  | .pendingTest => some .testCoils
  | .pendingSave _ => some .save
  | .finished r => some r.kind

/-- Whether an operation is in progress. -/
def Slot.isPending : Slot → Bool
  | .pendingCal _ | .pendingTest | .pendingSave _ => true
  | .empty | .finished _ => false

/-- Whether a CAL DOSE is in progress. -/
def Slot.isCal : Slot → Bool
  | .pendingCal _ => true
  | _ => false

/-- Whether a SAVE is in progress. -/
def Slot.isSave : Slot → Bool
  | .pendingSave _ => true
  | _ => false

/-- The code of a slot state. -/
def slotCode : Slot → Nat
  | .empty => 0
  | .pendingCal _ | .pendingTest | .pendingSave _ => 1
  | .finished _ => 2

/-- The code of an operation kind. -/
def opKindCode : Option OpKind → Nat
  | none => 0
  | some .calDose => 1
  | some .testCoils => 2
  | some .save => 3

/-- The code of a result, 0 unless the slot is FINISHED. -/
def resultCode : Slot → Nat
  | .finished (.calDone _ _ _ _) | .finished (.testDone _) | .finished .saveDone => 1
  | .finished (.calSilent _ _) => 2
  | .finished (.calTimeout _ _) => 3
  | .finished (.calAborted _ _ _ _) | .finished .testAborted => 4
  | .finished .saveFault => 5
  | .empty | .pendingCal _ | .pendingTest | .pendingSave _ => 0

/-- The code of a calibration phase. -/
def CalPhase.code : CalPhase → Nat
  | .fast => 1
  | .fine => 2
  | .settle => 3

/-- The code of an abort cause. -/
def AbortCause.code : AbortCause → Nat
  | .stopCal => 1
  | .safe => 2
  | .motion => 3
  | .coil => 4
  | .headWithdrawn => 5

/-- The code of a method used (R200). -/
def DoseMethod.code : DoseMethod → Nat
  | .none => 0
  | .flow => 1
  | .timed => 2

/-- The code of a dose status (R200). -/
def DoseStatus.code : DoseStatus → Nat
  | .notFilled => 0
  | .complete => 1
  | .aborted => 2

/-- The code of a verdict (R200). -/
def Verdict.code : Verdict → Nat
  | .pass => 0
  | .reject => 1

/-- The code of a bowl level (R202). -/
def Level.code : Level → Nat
  | .low => 0
  | .ok => 1
  | .high => 2

/-- The code of a qualifier (R202). -/
def Qualifier.code : Qualifier → Nat
  | .provisional => 0
  | .final => 1

/-- The code of a bowl watch state (R202). -/
def Watch.code : Watch → Nat
  | .clear => 0
  | .timing => 1
  | .low => 2

end Sys2Proof.Machine
end

