-- ==== Sys2Proof/Machine/Wire.lean ====
section
/-! DEFINITION. The Link Interface's shared operations: ports, transmit queues, frames with their CRC, replies, the
line-silence timer, and the taking of a request whose kind and length have been checked. -/

namespace Sys2Proof.Machine

open Sys2Proof

/-- The status codes of a reply (R194). -/
inductive Status where
  | ok | busy | wrongState | notOwner | format | range | unknownHead | stillFaulty
deriving DecidableEq, Repr

/-- The code of a status (R194). -/
def Status.code : Status → Nat
  | .ok => 0
  | .busy => 1
  | .wrongState => 2
  | .notOwner => 3
  | .format => 4
  | .range => 5
  | .unknownHead => 6
  | .stillFaulty => 7

/-- What an owner hands back for a request: the status and, with OK, the reply contents (R193). -/
structure Answer where
  status : Status
  contents : List Byte
deriving DecidableEq, Repr

/-- The answer OK without contents. -/
def answerOk : Answer := ⟨.ok, []⟩

/-- A refusal. -/
def refuse (s : Status) : Answer := ⟨s, []⟩

/-- An owner refuses: nothing changes (R193). -/
def refusal (s : Status) (p : Part) : Part × Answer := (p, refuse s)

/-- An owner accepts with OK and no contents. -/
def accept (p : Part) : Part × Answer := (p, answerOk)

/-- A number as one byte. -/
def byteOf (n : Nat) : Byte := BitVec.ofNat 8 n

/-- The payload of a reply: the status, followed by the contents when it is OK (R194). -/
def Answer.payload (a : Answer) : List Byte :=
  byteOf a.status.code :: if a.status = .ok then a.contents else []

/-- The state of a port. -/
def Part.port (p : Part) : Port → PortState
  | .line => p.links.line
  | .inspection => p.links.inspection
  | .supply => p.links.supply

/-- Replace the state of a port. -/
def Part.setPort (port : Port) (s : PortState) (p : Part) : Part :=
  { p with links :=
      match port with
      | .line => { p.links with line := s }
      | .inspection => { p.links with inspection := s }
      | .supply => { p.links with supply := s } }

/-- The bytes of a frame on the wire: start byte, kind, length, payload, CRC (R187). -/
def frameBytes (f : OutFrame) : List Byte :=
  let body := f.kind :: byteOf f.payload.length :: f.payload
  0xA5#8 :: body ++ [crcLowByte (crc16 body), crcHighByte (crc16 body)]

/-- Hand a frame to a port's transmit queue; a queue that holds 80 frames discards it (R195). -/
def Part.enqueue (port : Port) (f : OutFrame) (p : Part) : Part :=
  let s := p.port port
  if s.queue.length < 80 then p.setPort port { s with queue := s.queue ++ [f] } else p

/-- Hand over the reply to a request of a kind: the kind plus 0x80 (R191, R194). -/
def Part.reply (port : Port) (kind : Nat) (a : Answer) (p : Part) : Part :=
  p.enqueue port ⟨true, byteOf (kind + 0x80), a.payload⟩

/-- A frame on a link has passed its CRC check: on the line link the line-silence timer is restarted, out of CONFIG, and
LINE_QUIET becomes false (R161, R196). -/
def Part.crcPassed (port : Port) (p : Part) : Part :=
  match port with
  | .line =>
    { p with
      lineTimer := if p.control.prod = .config then p.lineTimer else p.startTimer p.machine.lineSilence
      control := { p.control with lineQuiet := false } }
  | .inspection | .supply => p

/-- The taking of a request whose kind and length fit (R193, R194): in CONFIG every kind but READ STATUS (0x01) is refused
with WRONG_STATE; otherwise the owner takes or refuses it; the reply goes to the transmit queue. -/
def Part.serve (port : Port) (kind : Nat) (owner : Part → Part × Answer) (p : Part) : Part :=
  if p.control.prod = .config ∧ kind ≠ 0x01 then p.reply port kind (refuse .wrongState)
  else (owner p).1.reply port kind (owner p).2

/-- Whether a transmit queue holds a reply not yet sent (R190). -/
def PortState.hasReply (s : PortState) : Bool := s.queue.any (·.reply)

/-- A frame has passed its CRC check (R190, R196): behind a held frame it is discarded, behind an unsent reply it is held
as its kind and payload, and otherwise it is taken at once. -/
def Part.arrive (port : Port) (frame : Byte × List Byte) (take : Part → Part) (p : Part) : Part :=
  let q := p.crcPassed port
  let s := q.port port
  if s.held.isSome then q
  else if s.hasReply then q.setPort port { s with held := some frame }
  else take q

/-- The payload of a request (R191, R192). -/
def payloadOf (c : Instr) : List Byte := ((encodeRequest c).map (·.2.2)).getD []

/-- A request as a command: a good frame of its kind whose length fits arrives, and becomes of it what becomes of such a
frame (R190; log entry 3). While a full reset lasts its bytes are lost (R203, R204). -/
def Part.request (c : Instr) (port : Port) (kind : Nat) (owner : Part → Part × Answer) (p : Part) : Part :=
  if p.phase = .inReset then p else p.arrive port (byteOf kind, payloadOf c) (Part.serve port kind owner)

end Sys2Proof.Machine
end

