-- ==== Sys2Proof/Machine/Supply.lean ====
section
/-! DEFINITION. The Supply Monitor (spec/07): supply data, the pressure request, the bowl watch, demand, SUPPLY REPLY. -/

namespace Sys2Proof.Machine

open Sys2Proof

/-! ### The bowl pressure request -/

/-- The solubilities of R140 at the table temperatures 0, 50, ..., 300. -/
def solubilityTable : List Nat := [1713, 1424, 1194, 1019, 878, 759, 665]

/-- The solubility at a table temperature of 0..300, the quotient truncated toward zero (R140). -/
def solubility (tau : Nat) : Nat :=
  let i := tau / 50
  let s := solubilityTable.getD i 665
  let next := solubilityTable.getD (i + 1) 665
  ((s : Int) + Int.tdiv (((next : Int) - s) * (tau % 50 : Nat)) 50).toNat

/-- The carbonation and the table temperature of a recomputation (R139). -/
def requestInputs (active : Option StoredRecipe) (s : Supply) : Nat × Nat :=
  match active with
  | none => (600, 300)
  | some r =>
    match s.freshness, s.record with
    | .fresh, some d => (max r.fields.carb d.carbonation, (limitInt 0 300 d.temperature).toNat)
    | _, _ => (r.fields.carb, 300)

/-- The setpoint of R141 for a carbonation, a table temperature and a margin. -/
def setpointOf (carb tau margin : Nat) : Nat :=
  (limitInt 1000 6000 ((roundNat (carb * 10000) (solubility tau) : Nat) - 1013 + (margin : Int))).toNat

/-- Recompute the pressure request (R138, R141). -/
def Part.recomputePressure (p : Part) : Part :=
  let inputs := requestInputs p.activeRecipe p.supply
  let margin := match p.activeRecipe with
    | none => 0
    | some r => r.fields.margin
  { p with supply :=
      { p.supply with
        setpoint := setpointOf inputs.1 inputs.2 margin
        qualifier := if p.activeRecipe.isSome && p.supply.freshness == .fresh then .final else .provisional } }

/-! ### The bowl watch -/

/-- The bowl watch takes a measured pressure against the setpoint (R142, R143). -/
def Part.watchBowl (pressure : Nat) (p : Part) : Part :=
  if p.activeRecipe.isNone then p
  else
    let low : Prop := pressure + 200 < p.supply.setpoint
    let high : Prop := p.supply.setpoint ≤ pressure + 100
    match p.supply.watch with
    | .clear =>
      if low then { p with supply := { p.supply with watch := .timing, watchTimer := p.startTimer p.machine.bowlTime } }
      else p
    | .timing =>
      if low then p else { p with supply := { p.supply with watch := .clear, watchTimer := .stopped } }
    | .low => if high then { p with supply := { p.supply with watch := .clear } } else p

/-- BOWL_DETERMINATION_EXPIRY: in TIMING the watch becomes LOW (R144). -/
def bowlExpiry (p : Part) : Part :=
  p.atExpiry p.supply.watchTimer fun p =>
    { p with supply := { p.supply with watch := .low, watchTimer := .stopped } }

/-! ### Supply data -/

/-- The level of a code; any other code than those of LOW, OK and HIGH is LOW (R136, R202). -/
def levelOf (n : Nat) : Level :=
  match n with
  | 1 => .ok
  | 2 => .high
  | _ => .low

/-- The supply record that received values give (R136). -/
def limitSupply (temperature : Int) (carbonation pressure level : Nat) : SupplyRecord :=
  ⟨limitInt (-50) 400 temperature, min 800 carbonation, min 8000 pressure, levelOf level⟩

/-- The limited set: bit 0 temperature, 1 carbonation, 2 pressure, 3 level (R134, R136, R202). -/
def limitedSet (temperature : Int) (carbonation pressure level : Nat) : BitVec 4 :=
  BitVec.ofNat 4 (flagByte [decide (limitInt (-50) 400 temperature ≠ temperature), decide (800 < carbonation),
    decide (8000 < pressure), decide (2 < level)])

/-- The contents of SUPPLY REPLY behind the status (R148, R202). -/
def Part.supplyReply (p : Part) : List Byte :=
  let s := p.supply
  leBytes 2 s.setpoint ++ [byteOf s.qualifier.code, byteOf s.watch.code, byteOf p.inhibitBits] ++ leBytes 4 s.demand
    ++ [byteOf s.limited.toNat, byteOf ((s.record.map (·.level.code)).getD 0)]

/-- Steps 1 and 2 of R135: the limited values are written, the record is FRESH and the supply-silence timer restarts. -/
def Part.storeSupply (temperature : Int) (carbonation pressure level : Nat) (p : Part) : Part :=
  { p with
    supply :=
      { p.supply with
        record := some (limitSupply temperature carbonation pressure level)
        limited := limitedSet temperature carbonation pressure level
        freshness := .fresh }
    supplyTimer := p.startTimer p.machine.supplySilence }

/-- The handling of an accepted SUPPLY DATA (R135). -/
def takeSupplyData (temperature : Int) (carbonation pressure level : Nat) (p : Part) : Part × Answer :=
  let p := (p.storeSupply temperature carbonation pressure level).recomputePressure.watchBowl (min 8000 pressure)
  (p, ⟨.ok, p.supplyReply⟩)

/-- SUPPLY_SILENCE_EXPIRY: the record becomes STALE and the request is recomputed (R137). -/
def supplyExpiry (p : Part) : Part :=
  p.atExpiry p.supplyTimer fun p =>
    let p := { p with supply := { p.supply with freshness := .stale }, supplyTimer := .stopped }
    p.recomputePressure

/-! ### Demand -/

/-- The product of one head in the period that ends, in du (R147). -/
def headDemand (x : Head) : Nat := roundNat (x.demandCount * 10000) x.record.stored.k

/-- The demand of the period that ends (R147). -/
def Part.periodDemand (p : Part) : Nat :=
  min 1000000 (((allHeads.filter p.fitted).map fun h => headDemand (p.head h)).sum)

/-- Add one pulse to a head's count of the period (R147). -/
def Part.demandPulse (h : HeadNo) : Part → Part :=
  Part.modHead h fun x => { x with demandCount := x.demandCount + 1 }

/-- DEMAND_PERIOD_END: the demand is computed, the counts are set to 0 and the next period begins (R147). -/
def demandEnd (p : Part) : Part :=
  match p.supply.demandTimer with
  | .stopped => p
  | .running due =>
    let p := p.clockTo due
    { p with
      supply := { p.supply with demand := p.periodDemand, demandTimer := .running (due + 1000) }
      heads := Vector.ofFn fun h => { p.head h with demandCount := 0 } }

/-! ### The meanings -/

/-- SUPPLY_SILENCE_EXPIRY (R137). -/
def execSupplySilenceExpiry (s : State) : Host.Outcome State Fault Refusal :=
  .next { s with part := supplyExpiry s.part }

/-- BOWL_DETERMINATION_EXPIRY (R144). -/
def execBowlDeterminationExpiry (s : State) : Host.Outcome State Fault Refusal :=
  .next { s with part := bowlExpiry s.part }

/-- DEMAND_PERIOD_END (R147). -/
def execDemandPeriodEnd (s : State) : Host.Outcome State Fault Refusal :=
  .next { s with part := demandEnd s.part }

/-- SUPPLY_DATA (R135). -/
def execSupplyData (temperature : Int) (carbonation pressure level : Nat) (s : State) :
    Host.Outcome State Fault Refusal :=
  let c := .supplyData temperature carbonation pressure level
  .next { s with part := s.part.request c .supply 0x40 (takeSupplyData temperature carbonation pressure level) }

end Sys2Proof.Machine
end

