-- ==== Sys2Proof/Machine/Dose.lean ====
section
/-! DEFINITION. The Dose Engine's computations (spec/03): the quantities of a dose, the dose context, the dosed volume, the
measures of the learning samples, the shadow judgement and the speed advisory. -/

namespace Sys2Proof.Machine

open Sys2Proof

/-! ### Volumes, counts and times (R49 to R52) -/

/-- The effective volume E = V + T - A, at least 1 (R49). -/
def effectiveVolume (v : Nat) (t : Int) (a : Nat) : Nat := (max 1 ((v : Int) + t - a)).toNat

/-- The close count C = E × K / 10000 rounded, at least 1 (R50). -/
def closeCount (e k : Nat) : Nat := max 1 (roundNat (e * k) 10000)

/-- The fine count F: 0 when V + T - B is 0 or below, otherwise (V + T - B) × K / 10000 rounded, at most C (R51). -/
def fineCount (v : Nat) (t : Int) (b k c : Nat) : Nat :=
  if (v : Int) + t - b ≤ 0 then 0 else min c (roundNat (((v : Int) + t - b).toNat * k) 10000)

/-- The timed open time t = E × 1000 / R rounded, limited to 1..60000 (R52). -/
def timedOpenTime (e r : Nat) : Nat := limitNat 1 60000 (roundNat (e * 1000) r)

/-! ### The dose context (R44, R45) -/

/-- A context with every working field at its start (R45). -/
def newContext (number : Nat) (method : DoseMethod) (snap : Option Snapshot) (revision v : Option Nat) (c f : Nat) :
    Context where
  number := number
  method := method
  snap := snap
  revision := revision
  v := v
  c := c
  f := f
  used := method
  filling := false
  fillStart := none
  fastClose := none
  fill := 0
  after := 0
  shadow := 0
  afterState := .notOpen
  alive := false
  judgement := none
  status := .notFilled
  flags := 0
  openTimer := .stopped
  silenceTimer := .stopped

/-- The snapshot of a head record and a recipe (R44). -/
def snapshotOf (x : StoredHead) (gen : Nat) (r : Recipe) : Snapshot :=
  let e := effectiveVolume r.v x.t x.a
  { k := x.k
    a := x.a
    r := x.r
    t := x.t
    gen := gen
    b := r.b
    press := r.press
    settle := r.settle
    relief := r.relief
    dev := r.dev
    e := e
    openTime := timedOpenTime e x.r }

/-- A context of method FLOW or TIMED (R44). -/
def doseContext (number : Nat) (method : DoseMethod) (x : HeadRecord) (sr : StoredRecipe) : Context :=
  let snap := snapshotOf x.stored x.gen sr.fields
  let c := closeCount snap.e snap.k
  let ctx := newContext number method (some snap) (some sr.revision) (some sr.fields.v) c
    (fineCount sr.fields.v snap.t snap.b snap.k c)
  if 0 < x.warm then ctx.flag .warmup else ctx

/-- A context of method NONE in PRODUCTION, HOLD or STOPPING (R23, R45). The active recipe exists in those states; without
one the context carries no recipe (log entry 19). -/
def unavailableContext (number : Nat) (sr : Option StoredRecipe) : Context :=
  (newContext number .none none (sr.map (·.revision)) (sr.map (·.fields.v)) 1 0).flag .headUnavailable

/-- A context of method NONE in STANDBY or SAFE (R23, R45). -/
def notProducingContext (number : Nat) : Context := (newContext number .none none none none 1 0).flag .notProducing

/-- The production states in which containers are dosed (R23). -/
def Prod.doses : Prod → Bool
  | .production | .hold | .stopping => true
  | .config | .standby | .drain | .safe => false

/-- The context an admission builds, by the production state and the head record (R23). -/
def Part.admissionContext (p : Part) (h : HeadNo) (number : Nat) : Context :=
  if p.control.prod.doses then
    match p.activeRecipe with
    | none => unavailableContext number none
    | some sr =>
      let x := p.record h
      if x.stored.inService then
        match x.method with
        | .flow => doseContext number .flow x sr
        | .timed => doseContext number .timed x sr
        | .out => unavailableContext number (some sr)
      else unavailableContext number (some sr)
  else notProducingContext number

/-- The meter factor of a context, 0 where it holds none. -/
def Context.k (c : Context) : Nat := (c.snap.map (·.k)).getD 0

/-- The pressurise time of a context. -/
def Context.pressTime (c : Context) : Nat := (c.snap.map (·.press)).getD 0

/-- The settle time of a context. -/
def Context.settleTime (c : Context) : Nat := (c.snap.map (·.settle)).getD 0

/-- The relief time of a context. -/
def Context.reliefTime (c : Context) : Nat := (c.snap.map (·.relief)).getD 0

/-- The timed open time of a context. -/
def Context.openTime (c : Context) : Nat := (c.snap.map (·.openTime)).getD 0

/-! ### Dosed volume (R61) -/

/-- The dosed volume in du, absent for NONE and for a TIMED dose whose meter gave nothing; carried as at most 65535
(R61, R92). -/
def Context.dosed (c : Context) : Option Nat :=
  match c.used with
  | .flow => some (min 65535 (roundNat ((c.fill + c.after) * 10000) c.k))
  | .timed => if c.shadow = 0 then none else some (min 65535 (roundNat (c.shadow * 10000) c.k))
  | .none => none

/-! ### Learning (R62 to R65) -/

/-- A dose gives learning samples (R62). -/
def Context.gives (c : Context) : Bool :=
  c.used = .flow && c.status = .complete && !hasFlag c.flags .warmup && !hasFlag c.flags .meterLost

/-- The measured after-run (R63). -/
def Context.measuredAfter (c : Context) : Nat := roundNat (c.after * 10000) c.k

/-- The time of the fast phase, when the fast phase has ended (R64). -/
def Context.fastTime (c : Context) : Option Nat :=
  match c.fillStart, c.fastClose with
  | some t0, some t1 => some (t1 - t0)
  | _, _ => none

/-- The measured rate of a fast phase (R64). -/
def measuredRate (f k time : Nat) : Nat := roundNat (f * 10000000) (k * time)

/-- A dose is deviant (R64). -/
def deviant (rMeas r dev : Nat) : Bool := decide (dev * r < distance rMeas r * 100)

/-- The after-run that a sample leaves in the record (R63). -/
def learnAfter (a aMeas : Nat) : Nat := (limitInt 0 400 ((a : Int) + roundInt ((aMeas : Int) - a) 4)).toNat

/-- The flow rate that a sample leaves in the record (R64). -/
def learnRate (r rMeas : Nat) : Nat := (limitInt 50 5000 ((r : Int) + roundInt ((rMeas : Int) - r) 8)).toNat

/-- The shadow judgement of a count (R65). -/
def judgeShadow (shadow k v : Nat) (t : Int) (dev : Nat) : Judgement :=
  let vol := roundNat (shadow * 10000) k
  let want : Int := (v : Int) + t
  if ((distance vol want : Nat) : Int) * 100 ≤ (dev : Int) * want then .plausible else .implausible

/-! ### The speed advisory (R66, R67) -/

/-- The speed at which a head's dose just fits its window: floor(W_f × R / (V + T)) (R66). -/
def headSpeed (window r v : Nat) (t : Int) : Nat := window * r / ((v : Int) + t).toNat

/-- A head that qualifies for the advisory: fitted, in service, FLOW or TIMED (R66). -/
def Part.qualifies (p : Part) (h : HeadNo) : Bool :=
  p.fitted h && (p.record h).stored.inService && (p.record h).method != .out

/-- The advisory of R66. -/
def Part.computeAdvisory (p : Part) : Nat :=
  match p.activeRecipe with
  | none => 0
  | some sr =>
    if p.configBad then 0
    else
      let m := p.machine
      let speeds := (allHeads.filter p.qualifies).map fun h =>
        headSpeed (m.aFillend - m.aFill) (p.record h).stored.r sr.fields.v (p.record h).stored.t
      match speeds with
      | [] => 0
      | s0 :: rest => min 200000 ((rest.foldl min s0) * (100 - sr.fields.speed) / 100 * m.nPos * 3600 / m.nInc)

/-- Recompute the speed advisory (R67). -/
def Part.recomputeAdvisory (p : Part) : Part := { p with advisory := p.computeAdvisory }

end Sys2Proof.Machine
end

