-- ==== Sys2Proof/Machine/Ladder.lean ====
section
/-! DEFINITION. The end of a long operation (R176), the method ladder of the Head Table (R81 to R88), the Diagnostics
Monitor's detections, clearings and decisions (R114 to R124), its test marks (R127, R129), and the learning samples. -/

namespace Sys2Proof.Machine

open Sys2Proof

/-! ### The Operation Slot -/

/-- An operation hands in its result: the slot becomes FINISHED when it is PENDING with the same kind, and the result is
discarded otherwise (R176). -/
def Part.finish (r : OpResult) (p : Part) : Part :=
  if p.slot.isPending ∧ p.slot.kind = some r.kind then { p with slot := .finished r } else p

/-! ### The method ladder -/

/-- TIMED is allowed for a head: by its record and by the active recipe (R82). -/
def Part.timedOk (p : Part) (h : HeadNo) : Bool :=
  (p.record h).stored.timedAllowed && p.activeRecipe.any fun sr => sr.fields.timedAllowed

/-- Empty a head's deviation window; RATE_DEVIATION is then not live (R123, R124). -/
def Diag.emptyWindow (d : Diag) : Diag := { d.fall .rateDeviation with window := [] }

/-- Set a head's method and its cause: the promotion count becomes 0, a change to TIMED empties the deviation window, and
the speed advisory is recomputed (R81, R123). -/
def Part.setMethod (h : HeadNo) (m : Method) (cause : Option FaultKind) (p : Part) : Part :=
  let toTimed := m = .timed && (p.record h).method != .timed
  let p := p.modHead h fun x =>
    { x with
      record := { x.record with method := m, cause := cause, promo := 0 }
      diag := if toTimed then x.diag.emptyWindow else x.diag }
  p.recomputeAdvisory

/-- The kinds that move a TIMED head: a coil kind or an overrun of the window (R82, R120). -/
def FaultKind.defeatsTimed : FaultKind → Bool
  | .coilOpen | .coilShort | .windowOverrun => true
  | .meterSilent | .meterRunaway | .rateDeviation | .afterrunOutlier | .trimLimit | .sealLost | .reliefShort => false

/-- The meter kinds (R85, R86). -/
def meterKinds : List FaultKind := [.meterSilent, .meterRunaway, .rateDeviation]

/-- A notice of DEGRADE reaches the Head Table (R82). -/
def Part.degrade (h : HeadNo) (k : FaultKind) (p : Part) : Part :=
  match (p.record h).method with
  | .flow => p.setMethod h (if p.timedOk h then .timed else .out) (some k)
  | .timed => if k.defeatsTimed then p.setMethod h .out (some k) else p
  | .out => p

/-- A notice of OUT reaches the Head Table (R83). -/
def Part.putOut (h : HeadNo) (k : FaultKind) (p : Part) : Part :=
  match (p.record h).method with
  | .flow | .timed => p.setMethod h .out (some k)
  | .out => p

/-! ### Detections and decisions -/

/-- The Monitor decides a kind for a head: the notice that the table of R120 gives, applied by the Head Table. -/
def Part.decideKind (h : HeadNo) (k : FaultKind) (p : Part) : Part :=
  match actionFor p.machine k with
  | .report => p
  | .out => p.putOut h k
  | .degrade => p.degrade h k

/-- A detection of a kind for a head: a rise sets the live and held flags and, out of the warm-up, is decided (R114,
R120); a kind already live is left as it is. -/
def Part.detect (h : HeadNo) (k : FaultKind) (p : Part) : Part :=
  if (p.diag h).isLive k then p
  else
    let p := p.modDiag h (Diag.raise k)
    if (p.record h).warm = 0 then p.decideKind h k else p

/-- A clearing report of a kind for a head (R114). -/
def Part.clearKind (h : HeadNo) (k : FaultKind) : Part → Part := Part.modDiag h (Diag.fall k)

/-- A coil detection names a valve (R117). -/
def Part.coilDetect (h : HeadNo) (c : CoilFault) (v : Valve) (p : Part) : Part :=
  (p.modDiag h (Diag.addDetail c v)).detect h (coilKind c)

/-- The Monitor evaluates RATE_DEVIATION for a head (R124). -/
def Part.evaluateRate (h : HeadNo) (p : Part) : Part :=
  if windowDeviant p.machine.window (p.diag h).window then p.detect h .rateDeviation
  else p.clearKind h .rateDeviation

/-- The Monitor decides once each kind that is live at its turn, in table order: at the end of the warm-up and at a return
to service (R121). -/
def Part.decideLive (h : HeadNo) (p : Part) : Part :=
  allKinds.foldl (fun q k => if (q.diag h).isLive k then q.decideKind h k else q) p

/-! ### Test marks -/

/-- The fitted heads for which a coil kind is live, as bits (R129). -/
def Part.coilLiveHeads (p : Part) : BitVec 64 :=
  bitsOf 64 allHeads Fin.val fun h => p.fitted h && ((p.diag h).isLive .coilOpen || (p.diag h).isLive .coilShort)

/-- Whether any fitted head carries a test mark. -/
def Part.anyMark (p : Part) : Bool := allHeads.any fun h => p.fitted h && (p.diag h).mark

/-- TEST COILS ends with a result: the coil test state becomes IDLE and the slot is handed the result (R129). -/
def Part.endTestCoils (r : OpResult) (p : Part) : Part := { p with coilTest := .idle }.finish r

/-- The check of R129 at a removal of a mark: with no mark left TEST COILS ends DONE. -/
def Part.checkTestCoils (p : Part) : Part :=
  if p.coilTest = .running ∧ p.anyMark = false then p.endTestCoils (.testDone p.coilLiveHeads) else p

/-- Remove a head's test mark; each removal is checked by R129. -/
def Part.removeMark (h : HeadNo) (p : Part) : Part :=
  if (p.diag h).mark then (p.modDiag h fun d => { d with mark := false }).checkTestCoils else p

/-- Remove every mark and end a running TEST COILS with ABORTED: SAFE entry, or a change of the mode to OFF (R127,
R129). -/
def Part.removeAllMarks (p : Part) : Part :=
  let q := { p with heads := Vector.ofFn fun h =>
    let x := p.head h
    { x with diag := { x.diag with mark := false } } }
  if q.coilTest = .running then q.endTestCoils .testAborted else q

/-! ### Learning samples -/

/-- An after-run sample reaches the Head Table with equal generation (R63). -/
def Part.admitAfter (h : HeadNo) (aMeas : Nat) (p : Part) : Part :=
  let x := p.record h
  if p.machine.outlierLimit < distance aMeas x.stored.a then
    let run := min 3 (x.outlierRun + 1)
    let p := p.modRecord h fun x => { x with outlierRun := run }
    if run = 3 then p.detect h .afterrunOutlier else p
  else
    let p := p.modRecord h fun x =>
      { x with outlierRun := 0, stored := { x.stored with a := learnAfter x.stored.a aMeas } }
    p.clearKind h .afterrunOutlier

/-- A rate sample reaches the Head Table with equal generation: R moves, the deviant bit joins the window and
RATE_DEVIATION is evaluated (R64, R123, R124); the advisory is recomputed (R67). -/
def Part.admitRate (h : HeadNo) (rMeas : Nat) (bit : Bool) (p : Part) : Part :=
  let p := p.modHead h fun x =>
    { x with
      record := { x.record with stored := { x.record.stored with r := learnRate x.record.stored.r rMeas } }
      diag := { x.diag with window := windowJoin p.machine.window bit x.diag.window } }
  (p.recomputeAdvisory).evaluateRate h

/-- The rate sample of a context, when its fast phase qualifies: the measured rate and the deviant bit (R64). -/
def Context.rateSample (c : Context) : Option (Nat × Bool) :=
  match c.snap, c.fastTime with
  | some s, some time =>
    if 0 < c.f ∧ 100 ≤ time then
      let rMeas := measuredRate c.f s.k time
      some (rMeas, deviant rMeas s.r s.dev)
    else none
  | _, _ => none

/-- The Dose Engine takes the learning samples at the end of the settle and the Head Table admits or discards them by
their generation, the after-run sample first (R62, R78). `full` is false when the settle was cut short. -/
def Part.takeSamples (h : HeadNo) (full : Bool) (p : Part) : Part :=
  match p.context h with
  | none => p
  | some c =>
    if c.gives ∧ c.snap.map (·.gen) = some (p.record h).gen then
      let p := if full then p.admitAfter h c.measuredAfter else p
      match c.rateSample with
      | none => p
      | some (rMeas, bit) => p.admitRate h rMeas bit
    else p

/-- The shadow judgement of a context at its settle expiry (R65). -/
def Context.judge (c : Context) : Option Judgement :=
  match c.snap, c.v with
  | some s, some v =>
    if c.method = .timed ∧ c.status = .complete then some (judgeShadow c.shadow s.k v s.t s.dev) else c.judgement
  | _, _ => c.judgement

/-! ### Re-promotion, warm-up and totals (R85, R88, R89) -/

/-- The active recipe's re-promotion count, 0 with no recipe active. -/
def Part.promoCount (p : Part) : Nat := (p.activeRecipe.map (·.fields.promo)).getD 0

/-- Whether a meter kind is live for a head. -/
def Diag.meterLive (d : Diag) : Bool := meterKinds.any d.isLive

/-- The Head Table applies the shadow judgement of a discharged context (R85). -/
def Part.applyJudgement (h : HeadNo) (j : Option Judgement) (p : Part) : Part :=
  let x := p.record h
  match j with
  | none => p
  | some j =>
    if x.method = .timed ∧ x.cause.any (fun k => decide (k ∈ meterKinds)) then
      match j with
      | .implausible => p.modRecord h fun x => { x with promo := 0 }
      | .plausible =>
        let promo := min 15 (x.promo + 1)
        if 0 < p.promoCount ∧ p.promoCount ≤ promo ∧ (p.diag h).meterLive = false then p.setMethod h .flow none
        else p.modRecord h fun x => { x with promo := promo }
    else p

/-- The warm-up of a discharged dose (R88). -/
def Part.countWarmup (h : HeadNo) (p : Part) : Part :=
  let w := (p.record h).warm
  if w = 0 then p
  else
    let p := p.modRecord h fun x => { x with warm := w - 1 }
    if w = 1 then p.decideLive h else p

/-- The Head Table takes the outcome of a discharged container: totals, re-promotion, warm-up, in this order (R89). -/
def Part.tableOutcome (h : HeadNo) (c : Context) (p : Part) : Part :=
  let p := p.modRecord h fun x =>
    { x with
      doses := if c.used = .none then x.doses else totalUp x.doses
      rejects := if verdictOf c.status c.flags = .reject then totalUp x.rejects else x.rejects }
  let p := p.applyJudgement h c.judgement
  if c.used = .none then p else p.countWarmup h

end Sys2Proof.Machine
end

