-- ==== Sys2Proof/Machine/Track.lean ====
section
/-! DEFINITION. The Container Track (spec/05): records at admission and discharge, ageing, CONTAINER RESULT, and the
decisions taken on measurements. -/

namespace Sys2Proof.Machine

open Sys2Proof

/-! ### Records -/

/-- A record is DISCHARGED (R91). -/
def TrackRecord.isDischarged (r : TrackRecord) : Bool := r.result.isSome

/-- The number of DISCHARGED records in a track. -/
def dischargedCount (t : List TrackRecord) : Nat := (t.filter (·.isDischarged)).length

/-- The Head Table counts a head's container as uninspected (R89). -/
def Part.countUninspected (h : HeadNo) : Part → Part :=
  Part.modRecord h fun x => { x with uninspected := totalUp x.uninspected }

/-- A DISCHARGED record that lies 64 + D + 12 or more behind the number just given (R99). -/
def tooOld (m d : Nat) (r : TrackRecord) : Bool :=
  r.isDischarged && decide (64 + d + 12 ≤ (m + 65536 - r.number) % 65536)

/-- The ageing at an admission (R99): records too old are removed, oldest first, each counted as uninspected. -/
def Part.ageByNumber (m : Nat) (p : Part) : Part :=
  let d := p.machine.inspection
  let old := p.track.filter (tooOld m d)
  forEach (old.map (·.head)) Part.countUninspected { p with track := p.track.filter fun r => !tooOld m d r }

/-- The Track's work at an admission (R92, R94, R95): the record is appended, the counter steps on, the admission is
counted, the head's trim-from marker is told, and ageing follows. -/
def Part.trackAdmit (h : HeadNo) (c : Context) (p : Part) : Part :=
  let n := p.nextNumber
  let r : TrackRecord := ⟨n, h, if c.revision.isSome then p.control.activeSlot else none, none⟩
  let p := { p with
    track := p.track ++ [r]
    nextNumber := (n + 1) % 65536
    control := { p.control with admitted := (p.control.admitted + 1) % 4294967296 } }
  let p := p.modRecord h fun x =>
    { x with trimFrom :=
        match x.trimFrom with
        | none => some n
        | some f => if 32768 ≤ (n + 65536 - f) % 65536 then some n else some f }
  p.ageByNumber n

/-! ### Discharge -/

/-- The discharge fields that a context gives (R48, R91, R92, R34). -/
def dischargedOf (c : Context) : Discharged where
  revision := c.revision
  v := c.v
  used := c.used
  status := c.status
  e := c.snap.map (·.e)
  dosed := c.dosed
  flags := c.flags
  verdict := verdictOf c.status c.flags

/-- The payload of CONTAINER RESULT (R200). -/
def resultPayload (r : TrackRecord) (d : Discharged) : List Byte :=
  leBytes 2 r.number
    ++ [byteOf r.head.val, byteOf (flagByte [r.slot.isSome, d.revision.isSome, d.v.isSome, d.e.isSome, d.dosed.isSome]),
        byteOf ((r.slot.map Fin.val).getD 0), byteOf (d.revision.getD 0), byteOf d.used.code, byteOf d.status.code]
    ++ leBytes 2 (d.v.getD 0) ++ leBytes 2 (d.e.getD 0) ++ leBytes 2 (d.dosed.getD 0) ++ leBytes 2 d.flags.toNat
    ++ [byteOf d.verdict.code]

/-- The ON_CAROUSEL record of a head: there is exactly one while the head holds a context (R44). -/
def TrackRecord.standsOn (h : HeadNo) (r : TrackRecord) : Bool := !r.isDischarged && decide (r.head = h)

/-- Whether the record of the container on a head is the oldest ON_CAROUSEL record of a track (R96). -/
def isOldest (t : List TrackRecord) (h : HeadNo) : Bool :=
  (t.find? fun r => !r.isDischarged).any fun r => decide (r.head = h)

/-- Write the discharge fields into the ON_CAROUSEL record of a head (R96). -/
def writeResult (h : HeadNo) (d : Discharged) (t : List TrackRecord) : List TrackRecord :=
  t.map fun r => if r.standsOn h then { r with result := some d } else r

/-- Remove the oldest DISCHARGED record and count it as uninspected (R98). -/
def Part.ageOldest (p : Part) : Part :=
  match p.track.find? (·.isDischarged) with
  | none => p
  | some r => { p with track := p.track.eraseP (·.isDischarged) }.countUninspected r.head

/-- The ageing at a discharge: with more than D + 12 DISCHARGED records the oldest leaves (R98). -/
def Part.ageByCount (p : Part) : Part :=
  if p.machine.inspection + 12 < dischargedCount p.track then p.ageOldest else p

/-- The discharge is counted (R172). -/
def Part.countDischarge (p : Part) : Part :=
  { p with control := { p.control with discharged := (p.control.discharged + 1) % 4294967296 } }

/-- Step 4 of R35 at the Track: the record is completed and CONTAINER RESULT handed over; a record that is the oldest
ON_CAROUSEL record stays and ageing follows (R96), any other is removed at once and counted as uninspected (R97). -/
def Part.trackDischarge (h : HeadNo) (c : Context) (p : Part) : Part :=
  let d := dischargedOf c
  match p.track.find? (TrackRecord.standsOn h) with
  | none => p.countDischarge
  | some r =>
    let q := p.enqueue .inspection ⟨false, 0xB1, resultPayload r d⟩
    if isOldest p.track h then ({ q with track := writeResult h d q.track }.ageByCount).countDischarge
    else ({ q with track := q.track.eraseP (TrackRecord.standsOn h) }.countUninspected h).countDischarge

/-- Remove the oldest DISCHARGED records until `D + 12` remain (R111). -/
def ageExcess : Nat → Part → Part
  | 0, p => p
  | n + 1, p => ageExcess n p.ageByCount

/-! ### Measurements (R101 to R109) -/

/-- The measurement codes (R201). -/
inductive MeasureCode where
  | accepted | noChange | stale | ignored | outlier | unknown
deriving DecidableEq, Repr

/-- The code of a measurement code (R201). -/
def MeasureCode.code : MeasureCode → Nat
  | .accepted => 0
  | .noChange => 1
  | .stale => 2
  | .ignored => 3
  | .outlier => 4
  | .unknown => 5

/-- The container is unsuitable for trim learning (R104). -/
def Part.unsuitable (p : Part) (r : TrackRecord) (d : Discharged) : Bool :=
  decide (d.verdict = .reject) || hasFlag d.flags .warmup || hasFlag d.flags .meterLost || decide (d.used = .none)
    || !p.fitted r.head || !(p.record r.head).stored.inService

/-- The measurement is out of date for the active recipe or for the head's trim-from marker (R105). -/
def Part.outOfDate (p : Part) (r : TrackRecord) (d : Discharged) : Bool :=
  (match p.activeRecipe with
    | none => true
    | some sr => decide (r.slot ≠ p.control.activeSlot) || decide (d.revision ≠ some sr.revision))
  || (match (p.record r.head).trimFrom with
    | none => true
    | some f => olderThan r.number f)

/-- The code of a measurement of a DISCHARGED record by checks 2 to 7 (R101). -/
def Part.judgeMeasurement (p : Part) (r : TrackRecord) (d : Discharged) (volume : Nat) : MeasureCode :=
  if volume = 65535 then .ignored
  else if p.unsuitable r d then .ignored
  else if p.outOfDate r d then .stale
  else
    match p.activeRecipe with
    | none => .stale
    | some sr =>
      let err := distance volume (d.v.getD 0)
      if sr.fields.gross < err then .outlier
      else if err ≤ sr.fields.deadband ∨ sr.fields.gain = 0 then .noChange
      else .accepted

/-- The new trim of an accepted measurement (R108). -/
def correctedTrim (t : Int) (volume v gain : Nat) : Int :=
  limitInt (-200) 200 (t - roundInt (((volume : Int) - v) * gain) 8)

/-- The Head Table is told a new trim, and the Monitor its position against its limits (R74, R79, R109). -/
def Part.changeTrim (h : HeadNo) (t : Int) (p : Part) : Part :=
  let p := p.modRecord h fun x => { x with stored := { x.stored with t := t }, trimFrom := none }
  let p := p.recomputeAdvisory
  if t = 200 ∨ t = -200 then p.detect h .trimLimit else p.clearKind h .trimLimit

/-- The contents of MEASUREMENT REPLY behind the status (R201). -/
def measureReply (number : Nat) (c : MeasureCode) : List Byte := leBytes 2 number ++ [byteOf c.code]

/-- The handling of a MEASUREMENT (R101): it is judged, an accepted one changes the trim (R109), and after every code but
UNKNOWN the record leaves the track. -/
def takeMeasurement (number volume : Nat) (p : Part) : Part × Answer :=
  match p.track.find? (fun r => r.isDischarged && r.number == number) with
  | none => (p, ⟨.ok, measureReply number .unknown⟩)
  | some r =>
    match r.result with
    | none => (p, ⟨.ok, measureReply number .unknown⟩)
    | some d =>
      let code := p.judgeMeasurement r d volume
      let gain := (p.activeRecipe.map (·.fields.gain)).getD 0
      let q :=
        if code = .accepted then
          p.changeTrim r.head (correctedTrim (p.record r.head).stored.t volume (d.v.getD 0) gain)
        else p
      ({ q with track := q.track.eraseP fun x => x.isDischarged && x.number == number },
        ⟨.ok, measureReply number code⟩)

/-- MEASUREMENT (R101). -/
def execMeasurement (number volume : Nat) (s : State) : Host.Outcome State Fault Refusal :=
  .next { s with part := s.part.request (.measurement number volume) .inspection 0x30 (takeMeasurement number volume) }

end Sys2Proof.Machine
end

