-- ==== Sys2Proof/Machine/Control.lean ====
section
/-! DEFINITION. Operations shared by the head cycle, the State Controller and the Operation Slot: changes of the production
state (R150), the beginning of coil tests (R39, R126), the end and abort of a calibration dose (R183), SAFE causes
(R157, R158) up to the heads' part, and the runaway count (R57). -/

namespace Sys2Proof.Machine

open Sys2Proof

/-! ### Valves -/

/-- Every valve command of a head CLOSED. -/
def Entry.closeAll (e : Entry) : Entry := { e with gas := false, fast := false, fine := false, relief := false }

/-- The gas and liquid valve commands CLOSED. -/
def Entry.closeFill (e : Entry) : Entry := { e with gas := false, fast := false, fine := false }

/-- The clean valves of a head commanded open (R41, R164). -/
def Entry.openClean (e : Entry) : Entry := { e with gas := true, fast := true, fine := true, cleanWaiting := false }

/-- The clean valves of a head closed. -/
def Entry.closeClean (e : Entry) : Entry := { e.closeFill with cleanWaiting := false }

/-- Whether a valve is commanded open (R20). -/
def Entry.isOpen (e : Entry) : Valve → Bool
  | .gas => e.gas
  | .fast => e.fast
  | .fine => e.fine
  | .relief => e.relief

/-- Withdraw one valve command. -/
def Entry.withdraw (v : Valve) (e : Entry) : Entry :=
  match v with
  | .gas => { e with gas := false }
  | .fast => { e with fast := false }
  | .fine => { e with fine := false }
  | .relief => { e with relief := false }

/-! ### Coil tests at the head (R39) -/

/-- A coil test begins on a head (R39). -/
def Part.beginTest (h : HeadNo) (p : Part) : Part :=
  p.modEntry h fun e => { e with state := .testing, timer := p.startTimer 20, reports := noReports }

/-- The production states in which tests do not begin (R39, R126). -/
def Prod.barsTests : Prod → Bool
  | .config | .drain | .safe => true
  | .standby | .production | .hold | .stopping => false

/-- The three conditions of R39. -/
def Part.mayTest (p : Part) (h : HeadNo) : Bool :=
  (p.record h).stored.inService && !p.control.prod.barsTests && (p.machine.mode == .everyRev || (p.diag h).mark)

/-- A head enters REST by a discharge or from SKIP, and a coil test may begin (R35, R39). -/
def Part.enterRest (h : HeadNo) (p : Part) : Part :=
  let p := p.modEntry h fun e => { e with state := .rest }
  if p.mayTest h then p.beginTest h else p

/-- Tests begin on the marked heads in REST when the production state leaves CONFIG, DRAIN or SAFE (R126, R150). -/
def Part.beginMarked : Part → Part :=
  forFitted fun h p =>
    if (p.record h).stored.inService && (p.diag h).mark && (p.entry h).state == .rest && p.mayTest h then p.beginTest h
    else p

/-- A change of the production state (R150): the clean command is CLOSED at each entry to DRAIN and STANDBY (R163), and
the Monitor is handed the change. -/
def Part.setProd (new : Prod) (p : Part) : Part :=
  let old := p.control.prod
  let q := { p with control :=
      { p.control with
        prod := new
        cleanOpened := if new = .drain ∨ new = .standby then false else p.control.cleanOpened } }
  if old.barsTests && !new.barsTests then q.beginMarked else q

/-! ### The runaway count (R57) -/

/-- The revolution of a head ends at a fill start: the count is judged and set to 0. -/
def Part.judgeRunaway (h : HeadNo) (p : Part) : Part :=
  let q := if (p.head h).runaway.count ≤ p.machine.runawayLimit then p.clearKind h .meterRunaway else p
  q.modHead h fun x => { x with runaway := { x.runaway with count := 0, reported := false } }

/-- The revolution of a head may end at a discharge crossing: when no fill start has come since the last one. -/
def Part.dischargeRunaway (h : HeadNo) (p : Part) : Part :=
  let q := if (p.head h).runaway.filled then p else p.judgeRunaway h
  q.modHead h fun x => { x with runaway := { x.runaway with filled := false } }

/-- One pulse into the runaway count: the first above the limit in a revolution hands over METER_RUNAWAY. -/
def Part.runawayPulse (h : HeadNo) (p : Part) : Part :=
  let n := countUp (p.head h).runaway.count
  let report := decide (p.machine.runawayLimit < n) && !(p.head h).runaway.reported
  let q := p.modHead h fun x =>
    { x with runaway := { x.runaway with count := n, reported := x.runaway.reported || report } }
  if report then q.detect h .meterRunaway else q

/-! ### The end of a calibration dose (R182, R183) -/

/-- The valves of a calibration dose close and the dose hands in its result, which drops its record and timers. -/
def Part.endCal (c : CalRecord) (r : OpResult) (p : Part) : Part :=
  (p.modEntry c.head Entry.closeFill).finish r

/-- A CAL DOSE that is PENDING ends ABORTED (R183); nothing when none is. -/
def Part.abortCal (cause : AbortCause) (p : Part) : Part :=
  match p.slot with
  | .pendingCal c => p.endCal c (.calAborted cause c.counted c.after (p.now - c.start))
  | _ => p

/-- The calibration record of the CAL DOSE on a head, when one is PENDING. -/
def Part.calOn (p : Part) (h : HeadNo) : Option CalRecord :=
  match p.slot with
  | .pendingCal c => if c.head = h then some c else none
  | _ => none

/-- A CAL DOSE on this head ends ABORTED. -/
def Part.abortCalOn (h : HeadNo) (cause : AbortCause) (p : Part) : Part :=
  if (p.calOn h).isSome then p.abortCal cause else p

end Sys2Proof.Machine
end

