-- ==== Sys2Proof/Machine/Heads.lean ====
section
/-! DEFINITION. The Head Sequencer (spec/02): the crossings by head state, the fill, settle and relief of a container, its
discharge, seal drops and coil reports, coil tests, SAFE entry at the heads, and the vent sweep. -/

namespace Sys2Proof.Machine

open Sys2Proof

/-! ### Parts of the cycle -/

/-- The context's filling has ended: its timers are stopped (R46, R55, R58). -/
def Context.stopFilling (c : Context) : Context :=
  { c with filling := false, openTimer := .stopped, silenceTimer := .stopped }

/-- The fill of a context is aborted (R29). -/
def Context.abortFill (c : Context) : Context := { c.stopFilling with status := .aborted }

/-- The states in which a dose runs. -/
def HeadState.isFill : HeadState → Bool
  | .fillFast | .fillFine => true
  | _ => false

/-- The context of a head with a flag added. -/
def Part.addContextFlag (h : HeadNo) (f : ContainerFlag) : Part → Part := Part.modContext h (Context.flag f)

/-- A head that holds a context moves to a state (no valve and no timer moves). -/
def Part.goTo (h : HeadNo) (st : HeadState) : Part → Part := Part.modEntry h fun e => { e with state := st }

/-- The relief valve of a head opens and the gas and liquid valves close; the head enters RELIEF with the context's relief
time (R21, R31). -/
def Part.openRelief (h : HeadNo) (p : Part) : Part :=
  let time := ((p.context h).map Context.reliefTime).getD 0
  p.modEntry h fun e => { e.closeFill with relief := true, state := .relief, timer := p.startTimer time }

/-- The settle of a head is cut short: the after-run sample is discarded, and the samples that need no full settle are
taken (R31, R56, R62). -/
def Part.cutSettle (h : HeadNo) (p : Part) : Part :=
  (p.modContext h fun c => { c with afterState := .discarded }).takeSamples h false

/-- A dose ends into SETTLE: the gas and liquid valves close, the settle timer starts and the after-run count opens (R29,
R30, R56). -/
def Part.toSettle (h : HeadNo) (status : DoseStatus) (p : Part) : Part :=
  let time := ((p.context h).map Context.settleTime).getD 0
  p.modHead h fun x =>
    { x with
      entry := { x.entry.closeFill with state := .settle, timer := p.startTimer time }
      context := x.context.map fun c => { c.stopFilling with status := status, afterState := .counting } }

/-- The completion of a dose reaches the Sequencer; it is ignored when the dose is no longer filling (R29). -/
def Part.completeDose (h : HeadNo) (p : Part) : Part :=
  if (p.entry h).state.isFill then p.toSettle h .complete else p

/-- A fast close reaches the Sequencer (R29). -/
def Part.fastClose (h : HeadNo) (p : Part) : Part :=
  if (p.entry h).state = .fillFast then p.modEntry h fun e => { e with fast := false, state := .fillFine } else p

/-- A fill is refused: the gas valve closes and the head awaits venting (R26). -/
def Part.refuseFill (h : HeadNo) (f : ContainerFlag) (p : Part) : Part :=
  (p.addContextFlag h f).modEntry h fun e => { e with gas := false, state := .waitRelief }

/-- The fill of a context starts (R26, R54, R55, R57, R58). -/
def Part.startFill (h : HeadNo) (c : Context) (p : Part) : Part :=
  let timed : Bool := c.method = .timed
  let both := timed || decide (0 < c.f)
  let q := p.modHead h fun x =>
    { x with
      entry := { x.entry with fast := both, fine := true, state := if both then .fillFast else .fillFine }
      context := x.context.map fun c =>
        { c with
          filling := true
          fillStart := some p.now
          openTimer := if timed then p.startTimer c.openTime else .stopped
          silenceTimer := if timed then .stopped else p.startTimer p.machine.meterSilence } }
  (q.judgeRunaway h).modHead h fun x => { x with runaway := { x.runaway with filled := true } }

/-- The fill-start decision of a head in WAIT_FILL (R26). -/
def Part.fillDecision (h : HeadNo) (p : Part) : Part :=
  match p.context h with
  | none => p
  | some c =>
    if p.control.prod = .hold then p.refuseFill h .noFillInHold
    else if p.inhibited then p.refuseFill h .fillInhibited
    else p.startFill h c

/-! ### Discharge (R35) -/

/-- Step 1 of R35: every valve closes, the phase timer stops, a dose still filling is aborted and an open after-run count
is ended (R61; log entry 22). -/
def Part.shutHead (h : HeadNo) : Part → Part :=
  Part.modHead h fun x =>
    { x with
      entry := { x.entry.closeAll with timer := .stopped }
      context := x.context.map fun c =>
        let c := if c.filling then c.abortFill else c
        if c.afterState = .counting then { c with afterState := .discarded } else c }

/-- Step 2 of R35: a container pressurised and not vented is marked RELIEF_SHORT. -/
def Part.reliefCheck (h : HeadNo) (p : Part) : Part :=
  if (p.entry h).pressurised && !(p.entry h).vented then (p.addContextFlag h .reliefShort).detect h .reliefShort else p

/-- Step 5 of R35 at the Monitor: each of the three kinds whose flag is not in the context falls (R119). -/
def Part.dischargeReports (h : HeadNo) (flags : BitVec 13) (p : Part) : Part :=
  let p := if hasFlag flags .sealLost then p else p.clearKind h .sealLost
  let p := if hasFlag flags .windowOverrun then p else p.clearKind h .windowOverrun
  if hasFlag flags .reliefShort then p else p.clearKind h .reliefShort

/-- The removal of a context (R48): the runaway count is judged where R57 calls for it, and when no context remains in
STOPPING the part is in STANDBY (R156). -/
def Part.removeContext (h : HeadNo) (p : Part) : Part :=
  let p := (p.dischargeRunaway h).modHead h fun x => { x with context := none }
  if p.control.prod = .stopping ∧ p.contextCount = 0 then p.setProd .standby else p

/-- Steps 1 to 5 of R35: the container of a head is completed. -/
def Part.completeContainer (h : HeadNo) (p : Part) : Part :=
  let p := (p.shutHead h).reliefCheck h
  match p.context h with
  | none => p
  | some c =>
    ((((p.trackDischarge h c).dischargeReports h c.flags).tableOutcome h c).recomputeAdvisory).removeContext h

/-- A discharge, whole (R35). -/
def Part.dischargeHead (h : HeadNo) (p : Part) : Part := (p.completeContainer h).enterRest h

/-! ### Crossings -/

/-- A container is taken onto a head (R23, R44, R94, R95). -/
def Part.admitContainer (h : HeadNo) (p : Part) : Part :=
  let c := p.admissionContext h p.nextNumber
  let p := p.trackAdmit h c
  p.modHead h fun x =>
    { x with
      context := some c
      entry :=
        { x.entry with
          state := if p.control.prod.doses then .sealing else .waitDischarge
          fillStartNoted := false
          fillEndNoted := false
          pressurised := false
          vented := false } }

/-- A coil test ends or is abandoned in REST: the timer stops, and in DRAIN the clean valves that waited for its end open
when the clean command is OPENED (R22, R41). -/
def Part.leaveTest (h : HeadNo) (p : Part) : Part :=
  p.modEntry h fun e =>
    let e := { e with state := .rest, timer := .stopped, reports := noReports }
    if e.cleanWaiting && p.control.cleanOpened && p.control.prod == .drain then e.openClean else e

/-- An infeed crossing of a head in REST, SKIP or TESTING (R22). -/
def Part.infeedFromRest (h : HeadNo) (p : Part) : Part :=
  let p := if (p.entry h).state = .testing then p.leaveTest h else p
  match p.control.prod with
  | .config | .drain => p.goTo h .rest
  | _ => if p.pins.infeed then p.admitContainer h else p.goTo h .skip

/-- An infeed crossing (R22, R24, R183). -/
def Part.infeedCrossing (h : HeadNo) (p : Part) : Part :=
  let p := p.abortCalOn h .motion
  match (p.entry h).state with
  | .vent => p
  | .rest | .testing | .skip => p.infeedFromRest h
  | _ => (p.dischargeHead h).infeedFromRest h

/-- A pressurise crossing (R25). -/
def Part.pressuriseCrossing (h : HeadNo) (p : Part) : Part :=
  match (p.entry h).state, p.context h with
  | .sealing, some c =>
    if p.sealRead h = false then (p.addContextFlag h .notSealed).goTo h .waitDischarge
    else if c.method = .none then p.goTo h .waitDischarge
    else if p.control.prod = .safe then (p.addContextFlag h .safeAbort).goTo h .waitDischarge
    else p.modEntry h fun e =>
      { e with gas := true, pressurised := true, state := .pressurize, timer := p.startTimer c.pressTime }
  | _, _ => p

/-- A fill-start crossing (R27). -/
def Part.fillStartCrossing (h : HeadNo) (p : Part) : Part :=
  match (p.entry h).state with
  | .waitFill => p.fillDecision h
  | .pressurize => p.modEntry h fun e => { e with fillStartNoted := true }
  | _ => p

/-- The fill is aborted at the end of the fill window (R30). -/
def Part.overrunFill (h : HeadNo) (p : Part) : Part :=
  ((p.addContextFlag h .windowOverrun).detect h .windowOverrun).toSettle h .aborted

/-- A fill-end crossing (R30). -/
def Part.fillEndCrossing (h : HeadNo) (p : Part) : Part :=
  match (p.entry h).state with
  | .fillFast | .fillFine => p.overrunFill h
  | .pressurize => p.modEntry h fun e => { e with fillEndNoted := true }
  | _ => p

/-- A relief crossing (R31). -/
def Part.reliefCrossing (h : HeadNo) (p : Part) : Part :=
  match (p.entry h).state with
  | .waitRelief => p.openRelief h
  | .settle => (p.cutSettle h).openRelief h
  | .pressurize | .waitFill => ((p.addContextFlag h .windowOverrun).detect h .windowOverrun).openRelief h
  | .fillFast | .fillFine => ((p.overrunFill h).cutSettle h).openRelief h
  | .rest | .testing | .skip | .sealing | .relief | .waitDischarge | .vent => p

/-- A discharge crossing (R35); in DRAIN it is ignored (R41, log entry 17). -/
def Part.dischargeCrossing (h : HeadNo) (p : Part) : Part :=
  match (p.entry h).state with
  | .rest | .testing | .vent => p
  | .skip => if p.control.prod = .drain then p else (p.dischargeRunaway h).enterRest h
  | _ => p.dischargeHead h

/-- A crossing event reaches the Head Sequencer (R10, R12). -/
def Part.crossing (h : HeadNo) : Boundary → Part → Part
  | .infeed => Part.infeedCrossing h
  | .press => Part.pressuriseCrossing h
  | .fill => Part.fillStartCrossing h
  | .fillend => Part.fillEndCrossing h
  | .relief => Part.reliefCrossing h
  | .dis => Part.dischargeCrossing h

/-! ### SAFE (R40, R157, R158) -/

/-- SAFE entry at one head (R40). -/
def Part.headSafe (h : HeadNo) (p : Part) : Part :=
  match (p.entry h).state with
  | .fillFast | .fillFine => (p.modContext h fun c => c.abortFill.flag .safeAbort).openRelief h
  | .pressurize | .waitFill => (p.addContextFlag h .safeAbort).openRelief h
  | .settle => (p.cutSettle h).openRelief h
  | .waitRelief => p.openRelief h
  | .sealing | .relief | .waitDischarge | .rest | .skip | .testing | .vent => p

/-- The clean valves of every fitted head close (R41). -/
def Part.closeCleanValves : Part → Part := forFitted fun h => Part.modEntry h Entry.closeClean

/-- SAFE is entered (R157, R158). -/
def Part.enterSafe (cause : Cause) (p : Part) : Part :=
  let wasDrain : Bool := p.control.prod = .drain
  let p := { p with control :=
      { p.control with
        prod := .safe
        firstCause := some cause
        causes := addCause 0 cause
        holdTimer := .stopped
        cleanOpened := false } }
  let p := forFitted Part.headSafe p
  let p := if wasDrain then p.closeCleanValves else p
  p.removeAllMarks.abortCal .safe

/-- A SAFE cause reaches the State Controller (R157). -/
def Part.raiseSafe (cause : Cause) (p : Part) : Part :=
  match p.control.prod with
  | .config => p
  | .safe => { p with control := { p.control with causes := addCause p.control.causes cause } }
  | .standby | .production | .hold | .stopping | .drain => p.enterSafe cause

/-! ### The vent sweep (R42, R151) -/

/-- The completion of the vent sweep (R151): STANDBY, the line-silence timer starts, and a silent module is a SAFE
cause. -/
def Part.sweepDone (p : Part) : Part :=
  let p := p.setProd .standby
  let p := { p with lineTimer := p.startTimer p.machine.lineSilence }
  if p.anySilent then p.raiseSafe .headBus else p

/-- The sweep completes when no head remains in VENT (R42). -/
def Part.checkSweep (p : Part) : Part :=
  if p.control.prod = .config ∧ p.phase = .running ∧ allHeads.all (fun h => (p.entry h).state != .vent) = true then
    p.sweepDone
  else p

/-- A head whose seal input reads true enters VENT (R42). -/
def Part.ventHead (h : HeadNo) (p : Part) : Part :=
  if p.sealRead h then p.modEntry h fun e => { e with state := .vent, relief := true, timer := p.startTimer 1500 } else p

/-- The vent sweep begins (R42). -/
def Part.ventSweep (p : Part) : Part := (forFitted Part.ventHead p).checkSweep

/-! ### Seal drops and coil reports -/

/-- A seal drop or a coil report sends a head to RELIEF (R36, R37): the flag is added, a running fill is aborted, a settle
is cut short, and the relief valve opens. A seal drop's detection is handed over first (log entry 14). -/
def Part.lose (h : HeadNo) (f : ContainerFlag) (p : Part) : Part :=
  let st := (p.entry h).state
  let p := p.addContextFlag h f
  let p := if f = .sealLost then p.detect h .sealLost else p
  let p := if st.isFill then p.modContext h Context.abortFill else p
  let p := if st = .settle then p.cutSettle h else p
  p.openRelief h

/-- A seal drop at the head (R36). -/
def Part.sealDropAt (h : HeadNo) (p : Part) : Part :=
  match (p.entry h).state with
  | .pressurize | .waitFill | .fillFast | .fillFine | .settle | .waitRelief => p.lose h .sealLost
  | .relief => (p.addContextFlag h .sealLost).detect h .sealLost
  | .rest | .testing | .skip | .sealing | .waitDischarge | .vent => p

/-- What the Sequencer does with a coil report (R37, R38, R41). -/
def Part.coilReportAt (h : HeadNo) (v : Valve) (p : Part) : Part :=
  let e := p.entry h
  match e.state with
  | .pressurize | .waitFill | .fillFast | .fillFine =>
    if v ≠ .relief ∧ e.isOpen v = true then p.lose h .valveFault else p
  | .relief =>
    if v = .relief then
      p.modEntry h fun e => { e with relief := false, timer := .stopped, state := .waitDischarge }
    else p
  | .vent =>
    if v = .relief then
      (p.modEntry h fun e => { e with relief := false, timer := .stopped, state := .rest }).checkSweep
    else p
  | .rest | .skip =>
    if p.control.prod = .drain ∧ v ≠ .relief then p.modEntry h (Entry.withdraw v) else p
  | .testing | .sealing | .settle | .waitRelief | .waitDischarge => p

/-- A coil report on a valve that a CAL DOSE commands open ends the dose (R183). -/
def Part.coilReportCal (h : HeadNo) (v : Valve) (p : Part) : Part :=
  if v ≠ .relief ∧ (p.entry h).isOpen v = true then p.abortCalOn h .coil else p

/-- A coil report of a fitted head (R37, R38, R117, R183). -/
def Part.coilReport (h : HeadNo) (v : Valve) (c : CoilFault) (p : Part) : Part :=
  ((p.coilReportCal h v).coilReportAt h v).coilDetect h c v

/-- An arrival from a head's driver module on the head bus: while a full reset lasts it is not taken (R204); otherwise the
module answers, and an arrival of a fitted head is handled (R160, log entry 16). -/
def Part.busArrival (h : HeadNo) (handle : Part → Part) (p : Part) : Part :=
  if p.phase = .inReset then p
  else
    let p := p.moduleAnswers (moduleOf h)
    if p.fitted h then handle p else p

/-! ### Coil tests (R39, R118) -/

/-- The four reports of a test, when all have arrived. -/
def TestReports.all (r : TestReports) : Option (List (Valve × TestReport)) :=
  match r.gas, r.fast, r.fine, r.relief with
  | some a, some b, some c, some d => some [(.gas, a), (.fast, b), (.fine, c), (.relief, d)]
  | _, _, _, _ => none

/-- The report of one valve recorded (R39). The spec is silent on a second report of one valve in one test: here the later
one replaces the earlier (log entry 31). -/
def TestReports.set (r : TestReports) (v : Valve) (t : TestReport) : TestReports :=
  match v with
  | .gas => { r with gas := some t }
  | .fast => { r with fast := some t }
  | .fine => { r with fine := some t }
  | .relief => { r with relief := some t }

/-- The detections of one coil kind in a test outcome, in the order of the valves (R118). -/
def Part.outcomeDetections (h : HeadNo) (t : TestReport) (c : CoilFault) (rs : List (Valve × TestReport)) (p : Part) :
    Part :=
  (rs.filter fun r => r.2 == t).foldl (fun q r => q.coilDetect h c r.1) p

/-- The Monitor handles a test outcome (R118). -/
def Part.testOutcome (h : HeadNo) (rs : List (Valve × TestReport)) (p : Part) : Part :=
  let p :=
    if rs.all (fun r => r.2 == .good) then (p.clearKind h .coilOpen).clearKind h .coilShort
    else (p.outcomeDetections h .openLoad .openLoad rs).outcomeDetections h .short .short rs
  p.removeMark h

/-- The expiry of a coil test: a whole outcome is handed to the Monitor, and the head returns to REST (R39). -/
def Part.testExpiry (h : HeadNo) (p : Part) : Part :=
  let reports := (p.entry h).reports
  let p := p.leaveTest h
  match reports.all with
  | none => p
  | some rs => p.testOutcome h rs

/-! ### The phase timer's expiries -/

/-- An expiry of a head's phase timer is taken in the state that started it (R20). -/
def Part.phaseExpiry (h : HeadNo) (st : HeadState) (handle : Part → Part) (p : Part) : Part :=
  if (p.entry h).state = st then p.atExpiry (p.entry h).timer handle else p

/-- The pressurise expiry (R28). -/
def Part.pressuriseEnd (h : HeadNo) (p : Part) : Part :=
  let e := p.entry h
  let p := p.modEntry h fun e => { e with state := .waitFill, timer := .stopped }
  if e.fillStartNoted && !e.fillEndNoted then p.fillDecision h else p

/-- The settle expiry (R32, R56, R62, R65). -/
def Part.settleEnd (h : HeadNo) (p : Part) : Part :=
  let p := p.modHead h fun x =>
    { x with
      entry := { x.entry with state := .waitRelief, timer := .stopped }
      context := x.context.map fun c => { c with afterState := .closed, judgement := c.judge } }
  p.takeSamples h true

/-- The relief expiry (R33). -/
def Part.reliefEnd (h : HeadNo) : Part → Part :=
  Part.modEntry h fun e => { e with relief := false, vented := true, timer := .stopped, state := .waitDischarge }

/-- The vent expiry (R42). -/
def Part.ventEnd (h : HeadNo) (p : Part) : Part :=
  (p.modEntry h fun e => { e with relief := false, timer := .stopped, state := .rest }).checkSweep

/-! ### The meanings -/

/-- PRESSURISE_EXPIRY (R28). -/
def execPressuriseExpiry (h : HeadNo) (s : State) : Host.Outcome State Fault Refusal :=
  .next { s with part := s.part.phaseExpiry h .pressurize (Part.pressuriseEnd h) }

/-- SETTLE_EXPIRY (R32). -/
def execSettleExpiry (h : HeadNo) (s : State) : Host.Outcome State Fault Refusal :=
  .next { s with part := s.part.phaseExpiry h .settle (Part.settleEnd h) }

/-- RELIEF_EXPIRY (R33). -/
def execReliefExpiry (h : HeadNo) (s : State) : Host.Outcome State Fault Refusal :=
  .next { s with part := s.part.phaseExpiry h .relief (Part.reliefEnd h) }

/-- VENT_EXPIRY (R42). -/
def execVentExpiry (h : HeadNo) (s : State) : Host.Outcome State Fault Refusal :=
  .next { s with part := s.part.phaseExpiry h .vent (Part.ventEnd h) }

/-- COIL_TEST_EXPIRY (R39). -/
def execCoilTestExpiry (h : HeadNo) (s : State) : Host.Outcome State Fault Refusal :=
  .next { s with part := s.part.phaseExpiry h .testing (Part.testExpiry h) }

/-- COIL_TEST_REPORT (R39): recorded while the test runs, ignored afterwards. -/
def execCoilTestReport (h : HeadNo) (v : Valve) (r : TestReport) (s : State) : Host.Outcome State Fault Refusal :=
  .next { s with part := s.part.busArrival h fun p =>
    if (p.entry h).state = .testing then p.modEntry h fun e => { e with reports := e.reports.set v r } else p }

/-- SEAL_DROP (R36, R160). -/
def execSealDrop (h : HeadNo) (s : State) : Host.Outcome State Fault Refusal :=
  .next { s with part := (s.part.setSeal h false).busArrival h (Part.sealDropAt h) }

/-- SEAL_INPUT_RISE (R36, R160): no event at the head; the module answers. -/
def execSealInputRise (h : HeadNo) (s : State) : Host.Outcome State Fault Refusal :=
  .next { s with part := (s.part.setSeal h true).busArrival h id }

/-- COIL_REPORT (R37, R38, R41, R117, R183). -/
def execCoilReport (h : HeadNo) (v : Valve) (c : CoilFault) (s : State) : Host.Outcome State Fault Refusal :=
  .next { s with part := s.part.busArrival h (Part.coilReport h v c) }

end Sys2Proof.Machine
end

