-- ==== Sys2Proof/Machine/Pulse.lean ====
section
/-! DEFINITION. Flowmeter pulses (spec/03, section 3.3; R180), the timed open timer (R55), and the meter silence timer with
the fallback to time (R58, R59). -/

namespace Sys2Proof.Machine

open Sys2Proof

/-! ### A pulse in a calibration dose (R180) -/

/-- The record after its completion: the two timers stop and the settle timer starts. -/
def Part.calComplete (c : CalRecord) (p : Part) : CalRecord :=
  { c with
    phase := .settle
    completion := some p.now
    fastClose := if c.pFine = 0 then some p.now else c.fastClose
    timeoutTimer := .stopped
    silenceTimer := .stopped
    settleTimer := p.startTimer c.settle }

/-- A pulse while the liquid valves of a calibration dose are open. -/
def Part.calCount (c : CalRecord) (p : Part) : Part :=
  let c := { c with counted := c.counted + 1, silenceTimer := p.startTimer 2000 }
  if c.counted = c.pCal then
    { p.modEntry c.head Entry.closeFill with slot := .pendingCal (p.calComplete c) }
  else if c.phase = .fast ∧ 0 < c.pFine ∧ c.counted = c.pCal - c.pFine then
    { p.modEntry c.head (Entry.withdraw .fast) with slot := .pendingCal { c with phase := .fine, fastClose := some p.now } }
  else { p with slot := .pendingCal c }

/-- A pulse on the head of a calibration dose. -/
def Part.calPulse (c : CalRecord) (p : Part) : Part :=
  match c.phase with
  | .fast | .fine => p.calCount c
  | .settle => { p with slot := .pendingCal { c with after := countUp c.after } }

/-! ### A pulse in a dose (R53, R54, R58) -/

/-- The first pulse of a dose comes within the meter silence time of the fill start (R58). -/
def Part.aliveInTime (p : Part) (c : Context) : Bool :=
  c.fillStart.any fun t => decide (p.now - t ≤ p.machine.meterSilence)

/-- A meter alive report clears METER_SILENT (R58, R115). -/
def Part.reportAlive (h : HeadNo) (p : Part) : Part :=
  (p.modContext h fun c => { c with alive := true }).clearKind h .meterSilent

/-- A pulse into the fill count (R54, R58). -/
def Part.fillPulse (h : HeadNo) (c : Context) (p : Part) : Part :=
  let n := countUp c.fill
  let atFine : Bool := decide (0 < c.f) && decide (n = c.f)
  let q := p.modContext h fun c =>
    { c with
      fill := n
      silenceTimer := p.startTimer p.machine.meterSilence
      fastClose := if atFine then some p.now else c.fastClose }
  let q := if c.fill = 0 ∧ p.aliveInTime c = true then q.reportAlive h else q
  if n = c.c then q.completeDose h else if atFine then q.fastClose h else q

/-- A pulse into the shadow count (R53, R60); the alive report is that of a TIMED context alone, while it is filling
(R58). -/
def Part.shadowPulse (h : HeadNo) (c : Context) (p : Part) : Part :=
  let q := p.modContext h fun c => { c with shadow := countUp c.shadow }
  if c.method = .timed ∧ c.filling = true ∧ c.shadow = 0 ∧ p.aliveInTime c = true then q.reportAlive h else q

/-- A pulse into the after-run count (R53, R56). -/
def Part.afterPulse (h : HeadNo) : Part → Part := Part.modContext h fun c => { c with after := countUp c.after }

/-- A pulse on a head that is not the subject of a CAL DOSE, out of CONFIG and DRAIN: the later lines of the table of
R53. -/
def Part.dosePulse (h : HeadNo) (p : Part) : Part :=
  match p.context h with
  | none => p.runawayPulse h
  | some c =>
    if c.filling = true ∨ c.afterState = .counting then
      match c.used with
      | .flow => if c.filling then p.fillPulse h c else p.afterPulse h
      | .timed => p.shadowPulse h c
      | .none => p.runawayPulse h
    else p.runawayPulse h

/-- A flowmeter pulse of a fitted head is counted into one place, the first line of the table of R53 that applies, and into
the demand unless it is ignored. -/
def Part.pulse (h : HeadNo) (p : Part) : Part :=
  match p.control.prod with
  | .config => p
  | .drain => (p.demandPulse h).modRecord h fun x => { x with drainPulses := totalUp x.drainPulses }
  | .standby | .production | .hold | .stopping | .safe =>
    let p := p.demandPulse h
    match p.calOn h with
    | some c => p.calPulse c
    | none => p.dosePulse h

/-! ### The timers of a dose -/

/-- The timed open expiry: the completion reaches the Sequencer (R55, R59). -/
def Part.openExpiry (h : HeadNo) (p : Part) : Part :=
  match p.context h with
  | none => p
  | some c => p.atExpiry c.openTimer fun p => (p.modContext h fun c => { c with openTimer := .stopped }).completeDose h

/-- The context after the fallback to time (R59). -/
def Context.fallBack (c : Context) : Context :=
  { c.flag .meterLost with used := .timed, shadow := c.fill, silenceTimer := .stopped }

/-- The close time of a dose that falls back: its fill start plus t (R59). -/
def Context.closeTime (c : Context) : Nat := c.fillStart.getD 0 + c.openTime

/-- A meter silence (R58, R59): the detection, the fallback, and either the timed open timer or the completion at once. -/
def Part.meterSilence (h : HeadNo) (c : Context) (p : Part) : Part :=
  let q := (p.detect h .meterSilent).modContext h Context.fallBack
  if p.now < c.closeTime then q.modContext h fun c => { c with openTimer := .running c.closeTime } else q.completeDose h

/-- The meter silence expiry (R58); while the context is not filling the timer is stopped. -/
def Part.silenceExpiry (h : HeadNo) (p : Part) : Part :=
  match p.context h with
  | none => p
  | some c => if c.filling then p.atExpiry c.silenceTimer (Part.meterSilence h c) else p

/-! ### The meanings -/

/-- FLOWMETER_PULSE (R53). -/
def execFlowmeterPulse (h : HeadNo) (s : State) : Host.Outcome State Fault Refusal :=
  .next { s with part := s.part.busArrival h (Part.pulse h) }

/-- TIMED_OPEN_EXPIRY (R55). -/
def execTimedOpenExpiry (h : HeadNo) (s : State) : Host.Outcome State Fault Refusal :=
  .next { s with part := s.part.openExpiry h }

/-- METER_SILENCE_EXPIRY (R58). -/
def execMeterSilenceExpiry (h : HeadNo) (s : State) : Host.Outcome State Fault Refusal :=
  .next { s with part := s.part.silenceExpiry h }

end Sys2Proof.Machine
end

