-- ==== Sys2Proof/Machine/Slot.lean ====
section
/-! DEFINITION. The Operation Slot and the calibration dose (spec/09): CAL DOSE, its expiries, STOP CAL, and OPERATION
STATUS. -/

namespace Sys2Proof.Machine

open Sys2Proof

/-! ### CAL DOSE -/

/-- The counts a CAL DOSE may name (R178, check 3). -/
def calRangeOk (pCal pFine : Nat) : Bool := inRange 1 200000 pCal && decide (pFine ≤ pCal)

/-- The head and the carousel let a CAL DOSE begin (R178, check 4). -/
def Part.calReady (p : Part) (h : HeadNo) : Bool :=
  (p.record h).stored.inService && decide ((p.entry h).state = .rest) && p.carousel.standstill

/-- The calibration record at the acceptance (R179). -/
def Part.newCal (h : HeadNo) (pCal pFine : Nat) (p : Part) : CalRecord where
  head := h
  pCal := pCal
  pFine := pFine
  k := (p.record h).stored.k
  settle := (p.activeRecipe.map (·.fields.settle)).getD 500
  phase := if pFine < pCal then .fast else .fine
  counted := 0
  after := 0
  start := p.now
  fastClose := none
  completion := none
  timeoutTimer := p.startTimer 30000
  silenceTimer := p.startTimer 2000
  settleTimer := .stopped

/-- A CAL DOSE begins: the gas and fine valves open, and the fast valve when there is a fast phase (R179). -/
def Part.beginCal (h : HeadNo) (pCal pFine : Nat) (p : Part) : Part :=
  { p.modEntry h fun e => { e with gas := true, fast := decide (pFine < pCal), fine := true } with
    slot := .pendingCal (p.newCal h pCal pFine) }

/-- CAL DOSE at the Operation Slot (R178, R179). -/
def takeCalDose (head pCal pFine : Nat) (p : Part) : Part × Answer :=
  if p.control.prod ≠ .standby then refusal .wrongState p
  else
    match p.fittedHead head with
    | none => refusal .unknownHead p
    | some h =>
      if calRangeOk pCal pFine = false then refusal .range p
      else if p.calReady h = false then refusal .wrongState p
      else if p.slot.isPending then refusal .busy p
      else accept (p.beginCal h pCal pFine)

/-- The fast rate of a calibration dose (R181). -/
def CalRecord.rate (c : CalRecord) : Nat :=
  match c.fastClose with
  | none => 0
  | some t =>
    if 0 < c.pCal - c.pFine ∧ 100 ≤ t - c.start then
      roundNat ((c.pCal - c.pFine) * 10000000) (c.k * (t - c.start))
    else 0

/-- The result of a calibration dose that has settled (R181). -/
def CalRecord.done (c : CalRecord) : OpResult :=
  .calDone c.counted c.after (c.completion.getD c.start - c.start) c.rate

/-- The settle expiry of a calibration dose (R181). -/
def calSettleEnd (p : Part) : Part :=
  match p.slot with
  | .pendingCal c => p.atExpiry c.settleTimer fun p => p.finish c.done
  | _ => p

/-- The calibration silence expiry (R182). -/
def calSilenceEnd (p : Part) : Part :=
  match p.slot with
  | .pendingCal c => p.atExpiry c.silenceTimer fun p => p.endCal c (.calSilent c.counted (p.now - c.start))
  | _ => p

/-- The timeout expiry (R182). -/
def calTimeoutEnd (p : Part) : Part :=
  match p.slot with
  | .pendingCal c => p.atExpiry c.timeoutTimer fun p => p.endCal c (.calTimeout c.counted (p.now - c.start))
  | _ => p

/-- STOP CAL (R183). -/
def takeStopCal (p : Part) : Part × Answer :=
  if p.slot.isCal then accept (p.abortCal .stopCal) else refusal .wrongState p

/-! ### OPERATION STATUS -/

/-- What OPERATION STATUS says of a calibration dose: counted pulses, after-run pulses, elapsed time, fast rate and abort
cause (R199). -/
def OpResult.calFields : OpResult → Nat × Nat × Nat × Nat × Nat
  | .calDone n a t r => (n, a, t, r, 0)
  | .calSilent n t => (n, 0, t, 0, 0)
  | .calTimeout n t => (n, 0, t, 0, 0)
  | .calAborted c n a t => (n, a, t, 0, c.code)
  | .testDone _ | .testAborted | .saveDone | .saveFault => (0, 0, 0, 0, 0)

/-- The heads with a live coil kind in a result (R199). -/
def OpResult.headSet : OpResult → Nat
  | .testDone s => s.toNat
  | _ => 0

/-- The fields of the slot that follow its state, kind and result in OPERATION STATUS (R199). R177 gives a CAL DOSE in
progress the ms elapsed since its acceptance, and says that two requests with no event of the slot between them return
the same reply: here the first is followed, and the elapsed ms move on with the clock (log entry 33). -/
def Part.slotFields (p : Part) : List Byte :=
  match p.slot with
  | .pendingCal c =>
    [byteOf c.head.val, byteOf c.phase.code] ++ leBytes 4 c.counted ++ leBytes 4 c.after ++ leBytes 4 (p.now - c.start)
      ++ leBytes 4 0 ++ [0] ++ leBytes 8 0
  | .finished r =>
    let (n, a, t, rate, cause) := r.calFields
    [0, 0] ++ leBytes 4 n ++ leBytes 4 a ++ leBytes 4 t ++ leBytes 4 rate ++ [byteOf cause] ++ leBytes 8 r.headSet
  | .empty | .pendingTest | .pendingSave _ => List.replicate 27 0

/-- The contents of the OPERATION STATUS reply (R177, R199). -/
def Part.operationReply (p : Part) : List Byte :=
  [byteOf (slotCode p.slot), byteOf (opKindCode p.slot.kind), byteOf (resultCode p.slot)] ++ p.slotFields

/-- OPERATION STATUS (R177). -/
def takeOperationStatus (p : Part) : Part × Answer := (p, ⟨.ok, p.operationReply⟩)

/-! ### The meanings -/

/-- CAL_SETTLE_EXPIRY (R181). -/
def execCalSettleExpiry (s : State) : Host.Outcome State Fault Refusal := .next { s with part := calSettleEnd s.part }

/-- CAL_SILENCE_EXPIRY (R182). -/
def execCalSilenceExpiry (s : State) : Host.Outcome State Fault Refusal := .next { s with part := calSilenceEnd s.part }

/-- CAL_TIMEOUT_EXPIRY (R182). -/
def execCalTimeoutExpiry (s : State) : Host.Outcome State Fault Refusal := .next { s with part := calTimeoutEnd s.part }

/-- CAL_DOSE (R178). -/
def execCalDose (head pCal pFine : Nat) (s : State) : Host.Outcome State Fault Refusal :=
  .next { s with part := s.part.request (.calDose head pCal pFine) .line 0x21 (takeCalDose head pCal pFine) }

/-- STOP_CAL (R183). -/
def execStopCal (s : State) : Host.Outcome State Fault Refusal :=
  .next { s with part := s.part.request .stopCal .line 0x22 takeStopCal }

/-- OPERATION_STATUS (R177). -/
def execOperationStatus (s : State) : Host.Outcome State Fault Refusal :=
  .next { s with part := s.part.request .operationStatus .line 0x02 takeOperationStatus }

end Sys2Proof.Machine
end

