-- ==== Sys2Proof/Machine/Carousel.lean ====
section
/-! DEFINITION. The Carousel Tracker (spec/01): quadrature steps, position and lag, sector angles and boundary pointers,
crossings, the zero mark, speed and standstill. -/

namespace Sys2Proof.Machine

open Sys2Proof

/-- Change the Tracker's state. -/
def Part.modCarousel (f : Carousel → Carousel) (p : Part) : Part := { p with carousel := f p.carousel }

/-! ### Angles (R9, R10) -/

/-- The head offset of a position (R9). -/
def headOffset (m : MachineConfig) (h : HeadNo) : Nat := h.val * m.nInc / m.nPos

/-- The furthest forward position: the position plus the lag, modulo N_inc (section 1.2). -/
def Part.furthest (p : Part) : Nat := (p.carousel.position + p.carousel.lag) % p.machine.nInc

/-- The furthest angle of a head (R9). -/
def Part.furthestAngle (p : Part) (h : HeadNo) : Nat :=
  (p.furthest + p.machine.nInc - headOffset p.machine h) % p.machine.nInc

/-- The angle of a boundary (R10). -/
def boundaryAngle (m : MachineConfig) : Boundary → Nat
  | .infeed => 0
  | .press => m.aPress
  | .fill => m.aFill
  | .fillend => m.aFillend
  | .relief => m.aRelief
  | .dis => m.aDis

/-- The next boundary in the order of R10; after DIS comes INFEED (R12). -/
def Boundary.next : Boundary → Boundary
  | .infeed => .press
  | .press => .fill
  | .fill => .fillend
  | .fillend => .relief
  | .relief => .dis
  | .dis => .infeed

/-- The first boundary whose angle is strictly greater than a furthest angle; INFEED from a_dis on (R11). -/
def aimAt (m : MachineConfig) (angle : Nat) : Boundary :=
  if angle < m.aPress then .press
  else if angle < m.aFill then .fill
  else if angle < m.aFillend then .fillend
  else if angle < m.aRelief then .relief
  else if angle < m.aDis then .dis
  else .infeed

/-- The pointers exist while the position is REFERENCED and the machine configuration is valid (R11). -/
def Part.pointersLive (p : Part) : Bool := p.carousel.zero.isSome && !p.configBad

/-- Aim every pointer afresh; the pointers that do not exist are absent (R11). -/
def Part.aimPointers (p : Part) : Part :=
  { p with heads := Vector.ofFn fun h =>
      let x := p.head h
      { x with pointer :=
          if p.pointersLive && p.fitted h then some (aimAt p.machine (p.furthestAngle h)) else none } }

/-! ### Crossings (R12, R13) -/

/-- A head whose furthest angle is that of the boundary its pointer names crosses it; the pointer then moves on. -/
def Part.crossIfDue (h : HeadNo) (p : Part) : Part :=
  match (p.head h).pointer with
  | none => p
  | some b =>
    if p.furthestAngle h = boundaryAngle p.machine b then
      (p.crossing h b).modHead h fun x => { x with pointer := some b.next }
    else p

/-- One head is examined at one increment; the same angle is looked at again after a crossing, for a fill end that shares
its angle with the relief (R13). -/
def Part.examine (h : HeadNo) (p : Part) : Part := (p.crossIfDue h).crossIfDue h

/-- The furthest forward position has advanced by one increment: every fitted head is examined (R12). -/
def Part.examineAll (p : Part) : Part := if p.pointersLive then forEach p.crossingOrder Part.examine p else p

/-! ### Steps (R4 to R6) -/

/-- The position after a forward step (R4). -/
def positionUp (nInc position : Nat) : Nat := if position + 1 = nInc then 0 else position + 1

/-- The position after a backward step (R4). -/
def positionDown (nInc position : Nat) : Nat := if position = 0 then nInc - 1 else position - 1

/-- The position moves forward by one increment. -/
def Part.positionForward (p : Part) : Part :=
  p.modCarousel fun c => { c with position := positionUp p.machine.nInc c.position }

/-- A forward step on position and lag (R5). -/
def Part.stepForward (p : Part) : Part :=
  if 0 < p.carousel.lag then p.positionForward.modCarousel fun c => { c with lag := c.lag - 1 }
  else p.positionForward.examineAll

/-- The production states in which reverse motion is a fault (R6). -/
def Prod.barsReverse : Prod → Bool
  | .production | .hold | .stopping => true
  | .config | .standby | .drain | .safe => false

/-- A backward step on position and lag, and reverse motion (R5, R6). -/
def Part.stepBackward (p : Part) : Part :=
  let q := p.modCarousel fun c =>
    { c with
      position := positionDown p.machine.nInc c.position
      lag := if c.lag < p.machine.reverseLimit then c.lag + 1 else c.lag }
  if p.carousel.lag < p.machine.reverseLimit then q
  else if p.control.prod.barsReverse then q.raiseSafe .reverse else q

/-- What a step in a direction does before position and lag: direction, speed count and standstill; the change of the
standstill indication from true to false ends a CAL DOSE (R3, R7, R8, R183). -/
def Part.noteStep (d : Direction) (p : Part) : Part :=
  let q := p.modCarousel fun c =>
    { c with
      direction := some d
      net := match d with
        | .forward => c.net + 1
        | .backward => c.net - 1
      standstill := false
      standTimer := p.startTimer 100 }
  if p.carousel.standstill then q.abortCal .motion else q

/-- The step that a change of the channels makes: forward when channel A leads channel B after the edge; none when no
channel or both changed (R3; log entry 7). -/
def quadrature (a b a' b' : Bool) : Option Direction :=
  if a' != a && b' == b then some (if a' != b' then .forward else .backward)
  else if a' == a && b' != b then some (if a' == b' then .forward else .backward)
  else none

/-- The Tracker takes a step (R3 to R8). -/
def Part.takeStep (d : Direction) (p : Part) : Part :=
  match d with
  | .forward => (p.noteStep .forward).stepForward
  | .backward => (p.noteStep .backward).stepBackward

/-- An edge on the encoder's channels; before the completion of the load and during a full reset the levels alone are
taken over (R3, R204). -/
def Part.encoderEdge (a b infeed : Bool) (p : Part) : Part :=
  let q := { p with pins := { p.pins with chanA := a, chanB := b, infeed := infeed } }
  if p.phase = .running then
    match quadrature p.pins.chanA p.pins.chanB a b with
    | none => q
    | some d => q.takeStep d
  else q

/-! ### The zero mark (R14 to R17) -/

/-- A correction: back by some increments, or forward by some, and whether it is matched (R14). -/
structure Correction where
  forward : Nat
  matched : Bool
deriving DecidableEq, Repr

/-- The correction for a position at an arrival; `forward` is 0 for a backward correction, which sets the position to 0
(R14). -/
def correctionOf (nInc position : Nat) : Correction :=
  if position ≤ 4 then ⟨0, true⟩
  else if nInc - 4 ≤ position then ⟨nInc - position, true⟩
  else if position ≤ nInc / 2 then ⟨0, false⟩
  else ⟨nInc - position, false⟩

/-- Step the furthest forward position forward, one increment at a time, the lag kept (R15). -/
def correctForward : Nat → Part → Part
  | 0, p => p
  | n + 1, p => correctForward n p.positionForward.examineAll

/-- Apply a correction to a REFERENCED position: a forward one by increments, a backward one at once (R15). -/
def Part.applyCorrection (c : Correction) (p : Part) : Part :=
  if 0 < c.forward then correctForward c.forward p else p.modCarousel fun x => { x with position := 0 }

/-- Set the zero-mark check state. -/
def Part.setZero (z : ZeroCheck) : Part → Part := Part.modCarousel fun c => { c with zero := some z }

/-- A zero mark arrival in forward motion (R14, R15, R17). -/
def Part.takeZeroMark (p : Part) : Part :=
  let c := correctionOf p.machine.nInc p.carousel.position
  match p.carousel.zero with
  | none => ((p.modCarousel fun x => { x with position := 0 }).setZero .clear).aimPointers
  | some z =>
    let q := p.applyCorrection c
    if c.matched then q.setZero .clear
    else
      match z with
      | .clear => q.setZero .pending
      | .pending => q.raiseSafe .zeroLost

/-- A zero mark arrival: taken when the part runs and the last step was forward (R14). -/
def Part.zeroMark (infeed : Bool) (p : Part) : Part :=
  let q := { p with pins := { p.pins with infeed := infeed } }
  if p.phase = .running ∧ p.carousel.direction = some .forward then q.takeZeroMark else q

/-! ### Speed and standstill (R7, R8) -/

/-- A speed sample joins the history and the next period begins (R7). -/
def speedSample (p : Part) : Part :=
  match p.carousel.sampleTimer with
  | .stopped => p
  | .running due =>
    (p.clockTo due).modCarousel fun c =>
      { c with
        history := Vector.ofFn fun i => if h : i.val < 7 then c.history[i.val + 1] else c.net
        net := 0
        sampleTimer := .running (due + 10) }

/-- The carousel speed in increments per second, signed (R7). -/
def Carousel.speed (c : Carousel) : Int := roundInt (c.history.toList.sum * 25) 2

/-- The standstill expiry (R8). -/
def standstillEnd (p : Part) : Part :=
  p.atExpiry p.carousel.standTimer fun p =>
    p.modCarousel fun c => { c with standstill := true, standTimer := .stopped }

/-! ### The meanings -/

/-- ENCODER_STEP (R3 to R6, R8, R12). -/
def execEncoderStep (chanA chanB infeed : Bool) (s : State) : Host.Outcome State Fault Refusal :=
  .next { s with part := s.part.encoderEdge chanA chanB infeed }

/-- ZERO_MARK_ARRIVAL (R14). -/
def execZeroMarkArrival (infeed : Bool) (s : State) : Host.Outcome State Fault Refusal :=
  .next { s with part := s.part.zeroMark infeed }

/-- SPEED_SAMPLE (R7). -/
def execSpeedSample (s : State) : Host.Outcome State Fault Refusal := .next { s with part := speedSample s.part }

/-- STANDSTILL_EXPIRY (R8). -/
def execStandstillExpiry (s : State) : Host.Outcome State Fault Refusal := .next { s with part := standstillEnd s.part }

end Sys2Proof.Machine
end

