-- ==== Sys2Proof/Machine/Production.lean ====
section
/-! DEFINITION. The State Controller (spec/08): the requests that move the production state, recipes, the hold limit, line
silence, the driver modules' silence, and READ STATUS (R198). -/

namespace Sys2Proof.Machine

open Sys2Proof

/-! ### Production requests (R152 to R162) -/

/-- The warm-up remaining of every fitted head in service is set (R87). -/
def Part.startWarmup (w : Nat) : Part → Part :=
  forFitted fun h p => if (p.record h).stored.inService then p.modRecord h fun x => { x with warm := w } else p

/-- START (R152). -/
def takeStart (p : Part) : Part × Answer :=
  if p.control.prod ≠ .standby then refusal .wrongState p
  else if p.configBad then refusal .wrongState p
  else
    match p.activeRecipe with
    | none => refusal .wrongState p
    | some sr =>
      if p.slot.isCal then refusal .wrongState p
      else accept ((p.setProd .production).startWarmup sr.fields.warmup)

/-- Set or stop the hold-limit timer. -/
def Part.setHoldTimer (t : Timer) (p : Part) : Part := { p with control := { p.control with holdTimer := t } }

/-- The hold-limit timer of a HOLD taken now: stopped for a hold limit of 0 (R153). -/
def Part.holdTimerFor (p : Part) : Timer :=
  match p.activeRecipe with
  | none => .stopped
  | some sr => if 0 < sr.fields.hold then p.startTimer (sr.fields.hold * 1000) else .stopped

/-- HOLD (R153). -/
def takeHold (p : Part) : Part × Answer :=
  if p.control.prod ≠ .production then refusal .wrongState p
  else accept ((p.setProd .hold).setHoldTimer p.holdTimerFor)

/-- RESUME (R155). -/
def takeResume (p : Part) : Part × Answer :=
  if p.control.prod ≠ .hold then refusal .wrongState p
  else accept ((p.setHoldTimer .stopped).setProd .production)

/-- STOP (R156). -/
def takeStop (p : Part) : Part × Answer :=
  match p.control.prod with
  | .production | .hold =>
    let q := p.setHoldTimer .stopped
    accept (q.setProd (if q.contextCount = 0 then .standby else .stopping))
  | .config | .standby | .stopping | .drain | .safe => refusal .wrongState p

/-- ENTER SAFE (R159). -/
def takeEnterSafe (p : Part) : Part × Answer := accept (p.raiseSafe .command)

/-- Whether any head is in RELIEF or in VENT (R162). -/
def Part.anyVenting (p : Part) : Bool :=
  allHeads.any fun h => (p.entry h).state == .relief || (p.entry h).state == .vent

/-- RECOVER (R162). -/
def takeRecover (p : Part) : Part × Answer :=
  if p.control.prod ≠ .safe then refusal .wrongState p
  else if p.contextCount ≠ 0 then refusal .wrongState p
  else if p.anyVenting then refusal .wrongState p
  else if p.anySilent then refusal .wrongState p
  else accept ({ p with control := { p.control with firstCause := none, causes := 0 } }.setProd .standby)

/-! ### Cleaning (R163 to R165) -/

/-- The drain pulse total of every head record becomes 0 (R90). -/
def Part.clearDrainTotals (p : Part) : Part :=
  { p with heads := Vector.ofFn fun h =>
      let x := p.head h
      { x with record := { x.record with drainPulses := 0 } } }

/-- CLEAN BEGIN (R163). -/
def takeCleanBegin (p : Part) : Part × Answer :=
  if p.control.prod ≠ .standby then refusal .wrongState p
  else if p.contextCount ≠ 0 then refusal .wrongState p
  else if p.slot.isCal then refusal .wrongState p
  else accept (p.clearDrainTotals.setProd .drain)

/-- Set the clean command. -/
def Part.setClean (opened : Bool) (p : Part) : Part := { p with control := { p.control with cleanOpened := opened } }

/-- The clean valves of one head in service are commanded open; a head in TESTING waits for the end of its test (R41). -/
def Part.openCleanAt (h : HeadNo) (p : Part) : Part :=
  if (p.record h).stored.inService then
    match (p.entry h).state with
    | .rest | .skip => p.modEntry h Entry.openClean
    | .testing => p.modEntry h fun e => { e with cleanWaiting := true }
    | _ => p
  else p

/-- CLEAN OPEN (R164). -/
def takeCleanOpen (p : Part) : Part × Answer :=
  if p.control.prod ≠ .drain then refusal .wrongState p
  else accept (forFitted Part.openCleanAt (p.setClean true))

/-- CLEAN CLOSE (R164). -/
def takeCleanClose (p : Part) : Part × Answer :=
  if p.control.prod ≠ .drain then refusal .wrongState p
  else accept (p.setClean false).closeCleanValves

/-- CLEAN END (R165). -/
def takeCleanEnd (p : Part) : Part × Answer :=
  if p.control.prod ≠ .drain then refusal .wrongState p
  else accept ((p.setClean false).closeCleanValves.setProd .standby)

/-! ### Recipes (R166 to R170) -/

/-- The slot of a number 0..7. -/
def slotOf (n : Nat) : Option SlotNo := if h : n < 8 then some ⟨n, h⟩ else none

/-- Each fitted head in TIMED moves to OUT, its cause kept, when the active recipe does not allow TIMED (R84). -/
def Part.dropTimed : Part → Part :=
  forFitted fun h p =>
    if (p.record h).method = .timed ∧ p.activeRecipe.any (fun sr => sr.fields.timedAllowed) = false then
      p.setMethod h .out (p.record h).cause
    else p

/-- What a new active recipe changes: the pressure request, the TIMED heads and the advisory (R167, R168). -/
def Part.recipeChanged (p : Part) : Part := p.recomputePressure.dropTimed.recomputeAdvisory

/-- SELECT RECIPE (R167). -/
def takeSelectRecipe (slot : Nat) (p : Part) : Part × Answer :=
  if p.control.prod ≠ .standby then refusal .wrongState p
  else
    match slotOf slot with
    | none => refusal .range p
    | some i =>
      if p.recipes[i].isNone then refusal .wrongState p
      else accept { p with control := { p.control with activeSlot := some i } }.recipeChanged

/-- Write a recipe slot. -/
def Part.setRecipe (i : SlotNo) (r : StoredRecipe) (p : Part) : Part := { p with recipes := p.recipes.set i (some r) }

/-- WRITE RECIPE (R168). -/
def takeWriteRecipe (slot : Nat) (f : RecipeFields) (p : Part) : Part × Answer :=
  match slotOf slot, recipeOfFields f with
  | some i, some r =>
    let active : Bool := p.control.activeSlot = some i
    if active ∧ p.control.prod ≠ .standby then refusal .wrongState p
    else
      let q := p.setRecipe i ⟨0, r⟩
      accept (if active then q.recipeChanged else q)
  | _, _ => refusal .range p

/-- ADJUST RECIPE (R169). -/
def takeAdjustRecipe (f : AdjustFields) (p : Part) : Part × Answer :=
  match p.control.activeSlot, p.activeRecipe with
  | some i, some sr =>
    let r := adjustRecipe f sr.fields
    if adjustOk f = false ∨ r.gross ≤ r.deadband then refusal .range p
    else if adjustEmpty f then accept p
    else
      let q := (p.setRecipe i ⟨(sr.revision + 1) % 256, r⟩).recomputePressure
      accept (if f.v.isSome || f.speed.isSome then q.recomputeAdvisory else q)
  | _, _ => refusal .wrongState p

/-- The 25 bytes of a recipe's fields, from V to speed margin (R191). -/
def recipeBytes (r : Recipe) : List Byte := joinFields (recipeSizes.zip (recipeToList (recipeToFields r)))

/-- A recipe's revision and fields; 0 for an EMPTY slot (R199, R206). -/
def storedRecipeBytes : Option StoredRecipe → List Byte
  | none => List.replicate 26 0
  | some sr => byteOf sr.revision :: recipeBytes sr.fields

/-- The contents of the READ RECIPE reply (R170, R199). -/
def Part.recipeReply (p : Part) (i : SlotNo) : List Byte :=
  [byteOf i.val, byteOf (flagByte [p.recipes[i].isSome, decide (p.control.activeSlot = some i)])]
    ++ storedRecipeBytes p.recipes[i]

/-- READ RECIPE (R170). -/
def takeReadRecipe (slot : Nat) (p : Part) : Part × Answer :=
  match slotOf slot with
  | none => refusal .range p
  | some i => (p, ⟨.ok, p.recipeReply i⟩)

/-! ### Hold limit, line silence, driver modules -/

/-- HELD_LONG is added to every context present (R46, R154). -/
def Part.markHeldLong (p : Part) : Part :=
  { p with heads := Vector.ofFn fun h =>
      let x := p.head h
      { x with context := x.context.map (Context.flag .heldLong) } }

/-- The hold-limit expiry (R154). -/
def holdLimitEnd (p : Part) : Part :=
  p.atExpiry p.control.holdTimer fun p => (p.setHoldTimer .stopped).markHeldLong

/-- The production states in which line silence is a SAFE cause (R161). -/
def Prod.barsSilence : Prod → Bool
  | .production | .hold | .stopping | .drain => true
  | .config | .standby | .safe => false

/-- The line-silence expiry (R161). -/
def lineSilenceEnd (p : Part) : Part :=
  p.atExpiry p.lineTimer fun p =>
    let q := { p with lineTimer := .stopped, control := { p.control with lineQuiet := true } }
    if p.control.prod.barsSilence then q.raiseSafe .lineSilent else q

/-- A status report of a driver module; during a full reset it is not taken (R160, R204). -/
def moduleReport (m : ModuleNo) (p : Part) : Part := if p.phase = .inReset then p else p.moduleAnswers m

/-- A watched module has not answered for 5 ms: it becomes silent and raises HEAD_BUS (R160). -/
def moduleSilence (m : ModuleNo) (p : Part) : Part :=
  if p.watched m = true ∧ p.modules[m].silent = false then
    p.atExpiry p.modules[m].timer fun p =>
      { p with modules := p.modules.set m ⟨true, .stopped⟩ }.raiseSafe .headBus
  else p

/-! ### READ STATUS (R198, R199) -/

/-- The number of fitted heads with a method (R81). -/
def Part.methodCount (p : Part) (m : Method) : Nat :=
  (allHeads.filter fun h => p.fitted h && (p.record h).method == m).length

/-- The silent modules as bits (R199). -/
def Part.silentBits (p : Part) : BitVec 8 := bitsOf 8 allModules Fin.val p.moduleSilent

/-- The contents of the READ STATUS reply (R199). -/
def Part.statusReply (p : Part) : List Byte :=
  let c := p.control
  [byteOf c.prod.code, byteOf (causeCode c.firstCause), byteOf c.causes.toNat, byteOf p.silentBits.toNat,
    byteOf (flagByte [p.configBad, c.lineQuiet, p.carousel.zero.isSome, p.carousel.standstill]),
    byteOf (zeroCode p.carousel.zero)]
  ++ leBytes 4 (unsignedOf 4 p.carousel.speed) ++ leBytes 4 p.advisory
  ++ [byteOf p.inhibitBits, byteOf (slotCode p.slot), byteOf (opKindCode p.slot.kind), byteOf (resultCode p.slot),
    byteOf (p.methodCount .flow), byteOf (p.methodCount .timed), byteOf (p.methodCount .out)]
  ++ leBytes 4 c.admitted ++ leBytes 4 c.discharged
  ++ [byteOf (startSlotCode c.activeSlot), byteOf ((p.activeRecipe.map (·.revision)).getD 0)]

/-- READ STATUS (R198). -/
def takeReadStatus (p : Part) : Part × Answer := (p, ⟨.ok, p.statusReply⟩)

/-! ### The meanings -/

/-- START (R152). -/
def execStart (s : State) : Host.Outcome State Fault Refusal :=
  .next { s with part := s.part.request .start .line 0x03 takeStart }

/-- HOLD (R153). -/
def execHold (s : State) : Host.Outcome State Fault Refusal :=
  .next { s with part := s.part.request .hold .line 0x04 takeHold }

/-- RESUME (R155). -/
def execResume (s : State) : Host.Outcome State Fault Refusal :=
  .next { s with part := s.part.request .resume .line 0x05 takeResume }

/-- STOP (R156). -/
def execStop (s : State) : Host.Outcome State Fault Refusal :=
  .next { s with part := s.part.request .stop .line 0x06 takeStop }

/-- ENTER_SAFE (R159). -/
def execEnterSafe (s : State) : Host.Outcome State Fault Refusal :=
  .next { s with part := s.part.request .enterSafe .line 0x07 takeEnterSafe }

/-- RECOVER (R162). -/
def execRecover (s : State) : Host.Outcome State Fault Refusal :=
  .next { s with part := s.part.request .recover .line 0x08 takeRecover }

/-- CLEAN_BEGIN (R163). -/
def execCleanBegin (s : State) : Host.Outcome State Fault Refusal :=
  .next { s with part := s.part.request .cleanBegin .line 0x0A takeCleanBegin }

/-- CLEAN_OPEN (R164). -/
def execCleanOpen (s : State) : Host.Outcome State Fault Refusal :=
  .next { s with part := s.part.request .cleanOpen .line 0x0B takeCleanOpen }

/-- CLEAN_CLOSE (R164). -/
def execCleanClose (s : State) : Host.Outcome State Fault Refusal :=
  .next { s with part := s.part.request .cleanClose .line 0x0C takeCleanClose }

/-- CLEAN_END (R165). -/
def execCleanEnd (s : State) : Host.Outcome State Fault Refusal :=
  .next { s with part := s.part.request .cleanEnd .line 0x0D takeCleanEnd }

/-- SELECT_RECIPE (R167). -/
def execSelectRecipe (slot : Nat) (s : State) : Host.Outcome State Fault Refusal :=
  .next { s with part := s.part.request (.selectRecipe slot) .line 0x10 (takeSelectRecipe slot) }

/-- WRITE_RECIPE (R168). -/
def execWriteRecipe (slot : Nat) (r : RecipeFields) (s : State) : Host.Outcome State Fault Refusal :=
  .next { s with part := s.part.request (.writeRecipe slot r) .line 0x11 (takeWriteRecipe slot r) }

/-- ADJUST_RECIPE (R169). -/
def execAdjustRecipe (f : AdjustFields) (s : State) : Host.Outcome State Fault Refusal :=
  .next { s with part := s.part.request (.adjustRecipe f) .line 0x12 (takeAdjustRecipe f) }

/-- READ_RECIPE (R170). -/
def execReadRecipe (slot : Nat) (s : State) : Host.Outcome State Fault Refusal :=
  .next { s with part := s.part.request (.readRecipe slot) .line 0x13 (takeReadRecipe slot) }

/-- READ_STATUS (R198). -/
def execReadStatus (s : State) : Host.Outcome State Fault Refusal :=
  .next { s with part := s.part.request .readStatus .line 0x01 takeReadStatus }

/-- HOLD_LIMIT_EXPIRY (R154). -/
def execHoldLimitExpiry (s : State) : Host.Outcome State Fault Refusal := .next { s with part := holdLimitEnd s.part }

/-- LINE_SILENCE_EXPIRY (R161). -/
def execLineSilenceExpiry (s : State) : Host.Outcome State Fault Refusal := .next { s with part := lineSilenceEnd s.part }

/-- MODULE_STATUS_REPORT (R160). -/
def execModuleStatusReport (m : ModuleNo) (s : State) : Host.Outcome State Fault Refusal :=
  .next { s with part := moduleReport m s.part }

/-- MODULE_SILENT (R160). -/
def execModuleSilent (m : ModuleNo) (s : State) : Host.Outcome State Fault Refusal :=
  .next { s with part := moduleSilence m s.part }

end Sys2Proof.Machine
end

