-- ==== Sys2Proof/Machine/HeadTable.lean ====
section
/-! DEFINITION. The requests to the Head Table and to the Diagnostics Monitor: WRITE HEAD, READ HEAD, RESTORE HEAD, CLEAR
FAULTS, CLEAR TOTALS, SET DIAGNOSTICS and TEST COILS (R72 to R77, R86, R90, R125, R128, R130, R131). -/

namespace Sys2Proof.Machine

open Sys2Proof

/-! ### WRITE HEAD -/

/-- The record after a write of K, A or R (R73). -/
def HeadRecord.writeCal (f : HeadFields) (x : HeadRecord) : HeadRecord :=
  { x with
    stored := { x.stored with
      k := f.k.getD x.stored.k
      a := f.a.getD x.stored.a
      r := f.r.getD x.stored.r }
    gen := if f.k.isSome || f.a.isSome || f.r.isSome then (x.gen + 1) % 256 else x.gen
    outlierRun := if f.a.isSome then 0 else x.outlierRun }

/-- The effect of K, A and R; a written R changes the speed advisory (R73). -/
def Part.writeHeadCal (h : HeadNo) (f : HeadFields) (p : Part) : Part :=
  let q := p.modRecord h (HeadRecord.writeCal f)
  if f.r.isSome then q.recomputeAdvisory else q

/-- The effect of T (R74). -/
def Part.writeHeadTrim (h : HeadNo) (t : Option Int) (p : Part) : Part :=
  match t with
  | none => p
  | some t => p.changeTrim h t

/-- Write the field TIMED allowed for head. -/
def HeadRecord.setTimedAllowed (b : Bool) (x : HeadRecord) : HeadRecord :=
  { x with stored := { x.stored with timedAllowed := b } }

/-- Write the in-service field. -/
def HeadRecord.setInService (b : Bool) (x : HeadRecord) : HeadRecord :=
  { x with stored := { x.stored with inService := b } }

/-- The effect of TIMED allowed for head (R76). -/
def Part.writeHeadTimed (h : HeadNo) (v : Option Bool) (p : Part) : Part :=
  match v with
  | none => p
  | some b =>
    let q := p.modRecord h (HeadRecord.setTimedAllowed b)
    if b = false ∧ (q.record h).method = .timed then q.setMethod h .out (q.record h).cause else q

/-- A head leaves service (R75): its clean valves close in DRAIN, its test mark is removed, and a CAL DOSE on it ends. -/
def Part.leaveService (h : HeadNo) (p : Part) : Part :=
  let q := p.modRecord h fun x => { x.setInService false with warm := 0 }
  let q := q.setMethod h .out none
  let q := if q.control.prod = .drain then q.modEntry h Entry.closeClean else q
  (q.removeMark h).abortCalOn h .headWithdrawn

/-- The warm-up remaining of a head put into service (R75). -/
def Part.serviceWarmup (p : Part) : Nat :=
  if p.control.prod.doses then (p.activeRecipe.map (·.fields.warmup)).getD 0 else 0

/-- A head enters service (R75): with no warm-up the Monitor decides the kinds that are live. -/
def Part.enterService (h : HeadNo) (p : Part) : Part :=
  let q := p.modRecord h fun x => { x.setInService true with warm := p.serviceWarmup }
  let q := q.setMethod h .flow none
  if p.serviceWarmup = 0 then q.decideLive h else q

/-- The effect of in service: only a change of the field acts (R75). -/
def Part.writeHeadService (h : HeadNo) (v : Option Bool) (p : Part) : Part :=
  match v, (p.record h).stored.inService with
  | some false, true => p.leaveService h
  | some true, false => p.enterService h
  | _, _ => p

/-- An accepted WRITE HEAD: K, A and R, then T, then TIMED allowed, then in service (R72; log entry 29). -/
def Part.writeHead (h : HeadNo) (f : HeadFields) (p : Part) : Part :=
  (((p.writeHeadCal h f).writeHeadTrim h f.t).writeHeadTimed h (f.timedAllowed.bind yesNoOf)).writeHeadService h
    (f.inService.bind yesNoOf)

/-- WRITE HEAD (R72). -/
def takeWriteHead (head : Nat) (f : HeadFields) (p : Part) : Part × Answer :=
  match p.fittedHead head with
  | none => refusal .unknownHead p
  | some h => if headFieldsOk f then accept (p.writeHead h f) else refusal .range p

/-! ### READ HEAD (R77, R199) -/

/-- The contents of the READ HEAD reply. -/
def Part.headReply (p : Part) (h : HeadNo) : List Byte :=
  let x := p.record h
  let d := p.diag h
  [byteOf h.val, byteOf (flagByte [x.stored.inService, x.stored.timedAllowed, x.trimFrom.isSome])]
    ++ leBytes 2 x.stored.k ++ leBytes 2 x.stored.a ++ leBytes 2 x.stored.r ++ leBytes 2 (unsignedOf 2 x.stored.t)
    ++ [byteOf x.gen] ++ leBytes 2 (x.trimFrom.getD 0)
    ++ [byteOf x.method.code, byteOf (kindCode x.cause), byteOf x.promo, byteOf x.warm, byteOf x.outlierRun]
    ++ leBytes 4 x.doses ++ leBytes 4 x.rejects ++ leBytes 4 x.drainPulses ++ leBytes 4 x.uninspected
    ++ [byteOf (p.entry h).state.code] ++ leBytes 2 d.live.toNat ++ leBytes 2 d.held.toNat
    ++ [byteOf d.openDetail.toNat, byteOf d.shortDetail.toNat, byteOf p.machine.window, byteOf (deviantCount d.window)]
    ++ leBytes 4 (p.head h).runaway.count

/-- READ HEAD (R77). -/
def takeReadHead (head : Nat) (p : Part) : Part × Answer :=
  match p.fittedHead head with
  | none => refusal .unknownHead p
  | some h => (p, ⟨.ok, p.headReply h⟩)

/-! ### RESTORE HEAD (R86) -/

/-- The first meter kind that is live, in the order of R86. -/
def Diag.firstMeter (d : Diag) : Option FaultKind := meterKinds.find? d.isLive

/-- The method and cause that RESTORE HEAD gives: TIMED for a live meter kind where TIMED is allowed, otherwise FLOW. -/
def Part.restoreHead (h : HeadNo) (p : Part) : Part :=
  let q := p.modDiag h Diag.clearHeld
  match (q.diag h).firstMeter with
  | none => q.setMethod h .flow none
  | some k => if q.timedOk h then q.setMethod h .timed (some k) else q.setMethod h .flow none

/-- RESTORE HEAD (R86). -/
def takeRestoreHead (head : Nat) (p : Part) : Part × Answer :=
  match p.fittedHead head with
  | none => refusal .unknownHead p
  | some h =>
    if (p.record h).stored.inService = false then refusal .wrongState p
    else if (p.diag h).isLive .coilOpen || (p.diag h).isLive .coilShort then refusal .stillFaulty p
    else accept (p.restoreHead h)

/-! ### CLEAR FAULTS and CLEAR TOTALS -/

/-- CLEAR FAULTS: one fitted head, or every fitted head for 0xFF (R131). -/
def takeClearFaults (head : Nat) (p : Part) : Part × Answer :=
  if head = 255 then accept (forFitted (fun h => Part.modDiag h Diag.clearHeld) p)
  else
    match p.fittedHead head with
    | none => refusal .unknownHead p
    | some h => accept (p.modDiag h Diag.clearHeld)

/-- A record with its four totals at 0 (R90). -/
def HeadRecord.clearTotals (x : HeadRecord) : HeadRecord :=
  { x with doses := 0, rejects := 0, drainPulses := 0, uninspected := 0 }

/-- CLEAR TOTALS: one fitted head, or all 64 records for 0xFF (R90). -/
def takeClearTotals (head : Nat) (p : Part) : Part × Answer :=
  if head = 255 then accept (forEach allHeads (fun h => Part.modRecord h HeadRecord.clearTotals) p)
  else
    match p.fittedHead head with
    | none => refusal .unknownHead p
    | some h => accept (p.modRecord h HeadRecord.clearTotals)

/-! ### SET DIAGNOSTICS (R125, R130) -/

/-- Every window keeps its newest entries, as many as N, and RATE_DEVIATION is evaluated in head order (R125). -/
def Part.applyWindow (p : Part) : Part :=
  let n := p.machine.window
  let q := { p with heads := Vector.ofFn fun h =>
    let x := p.head h
    { x with diag := { x.diag with window := windowNewest n x.diag.window } } }
  forFitted Part.evaluateRate q

/-- The kinds whose action select was changed to DEGRADE or OUT, in table order. -/
def changedKinds (old new : MachineConfig) : List FaultKind :=
  allKinds.filter fun k => decide (actionFor old k ≠ actionFor new k) && decide (actionFor new k ≠ .report)

/-- The kinds whose action select was changed are decided where they are live and out of the warm-up, in head order and
then table order (R130). -/
def Part.applyActions (ks : List FaultKind) : Part → Part :=
  forFitted fun h p =>
    ks.foldl (fun q k => if (q.diag h).isLive k ∧ (q.record h).warm = 0 then q.decideKind h k else q) p

/-- What a change of N, of the action selects and of the coil test mode does, in this order, the new configuration being
in place (R125, R130). -/
def Part.applyDiag (old : MachineConfig) (p : Part) : Part :=
  let q := if old.window ≠ p.machine.window then p.applyWindow else p
  let q := q.applyActions (changedKinds old p.machine)
  if old.mode ≠ .off ∧ p.machine.mode = .off then q.removeAllMarks else q

/-- SET DIAGNOSTICS (R130). -/
def takeSetDiagnostics (f : DiagFields) (p : Part) : Part × Answer :=
  if diagFieldsOk f = false then refusal .range p
  else
    let m := machineWithDiag f p.machine
    if m.window < p.machine.window ∧ p.control.prod ≠ .standby then refusal .wrongState p
    else accept ({ p with machine := m }.applyDiag p.machine)

/-! ### TEST COILS (R128) -/

/-- A head in service is marked; in REST its test begins at once. -/
def Part.markHead (h : HeadNo) (p : Part) : Part :=
  if (p.record h).stored.inService then
    let q := p.modDiag h fun d => { d with mark := true }
    if (q.entry h).state = .rest then q.beginTest h else q
  else p

/-- TEST COILS (R128, R129). -/
def takeTestCoils (p : Part) : Part × Answer :=
  if p.control.prod.barsTests || p.machine.mode == .off then refusal .wrongState p
  else if p.slot.isPending then refusal .busy p
  else accept (forFitted Part.markHead { p with slot := .pendingTest, coilTest := .running }).checkTestCoils

/-! ### The meanings -/

/-- WRITE_HEAD (R72). -/
def execWriteHead (head : Nat) (f : HeadFields) (s : State) : Host.Outcome State Fault Refusal :=
  .next { s with part := s.part.request (.writeHead head f) .line 0x18 (takeWriteHead head f) }

/-- READ_HEAD (R77). -/
def execReadHead (head : Nat) (s : State) : Host.Outcome State Fault Refusal :=
  .next { s with part := s.part.request (.readHead head) .line 0x19 (takeReadHead head) }

/-- RESTORE_HEAD (R86). -/
def execRestoreHead (head : Nat) (s : State) : Host.Outcome State Fault Refusal :=
  .next { s with part := s.part.request (.restoreHead head) .line 0x1A (takeRestoreHead head) }

/-- CLEAR_FAULTS (R131). -/
def execClearFaults (head : Nat) (s : State) : Host.Outcome State Fault Refusal :=
  .next { s with part := s.part.request (.clearFaults head) .line 0x1B (takeClearFaults head) }

/-- CLEAR_TOTALS (R90). -/
def execClearTotals (head : Nat) (s : State) : Host.Outcome State Fault Refusal :=
  .next { s with part := s.part.request (.clearTotals head) .line 0x1C (takeClearTotals head) }

/-- SET_DIAGNOSTICS (R130). -/
def execSetDiagnostics (f : DiagFields) (s : State) : Host.Outcome State Fault Refusal :=
  .next { s with part := s.part.request (.setDiagnostics f) .line 0x1D (takeSetDiagnostics f) }

/-- TEST_COILS (R128). -/
def execTestCoils (s : State) : Host.Outcome State Fault Refusal :=
  .next { s with part := s.part.request .testCoils .line 0x20 takeTestCoils }

end Sys2Proof.Machine
end

