-- ==== Sys2Proof/Machine/Store.lean ====
section
/-! DEFINITION. The Configuration Store (spec/11): full resets, the memory's contents and its load, start-up, RESTART,
WRITE MACHINE, READ MACHINE and SAVE. -/

namespace Sys2Proof.Machine

open Sys2Proof

/-! ### The contents of the memory (R206) -/

/-- The 49 bytes of the machine configuration (R191, R206). -/
def machineBytes (m : MachineConfig) : List Byte := joinFields (machineSizes.zip (machineToList (machineToFields m)))

/-- The 27 bytes of a recipe section: the slot's state, its revision and its fields. -/
def recipeSection (r : Option StoredRecipe) : List Byte := byteOf (yesNoCode r.isSome) :: storedRecipeBytes r

/-- The 10 bytes of a head section. -/
def headSection (s : StoredHead) : List Byte :=
  [byteOf (yesNoCode s.inService), byteOf (yesNoCode s.timedAllowed)] ++ leBytes 2 s.k ++ leBytes 2 s.a ++ leBytes 2 s.r
    ++ leBytes 2 (unsignedOf 2 s.t)

/-- The sections of the working copies in the order of R206. -/
def Part.sections (p : Part) : List Byte :=
  machineBytes p.machine ++ p.recipes.toList.flatMap recipeSection
    ++ allHeads.flatMap fun h => headSection (p.record h).stored

/-- The bytes a SAVE writes behind the signature: the sections and their CRC, low byte first. -/
def Part.image (p : Part) : List Byte :=
  p.sections ++ [crcLowByte (crc16 p.sections), crcHighByte (crc16 p.sections)]

/-- Bytes with their addresses, from an address on. -/
def addressed : Nat → List Byte → List (Nat × Byte)
  | _, [] => []
  | a, b :: bs => (a, b) :: addressed (a + 1) bs

/-- The byte writes of a SAVE in their order: steps 1, 2 and 3 of R213. -/
def saveWrites (image : List Byte) : List (Nat × Byte) :=
  [(0, 0), (1, 0)] ++ addressed 2 image ++ [(0, 0x5A), (1, 0xC3)]

/-! ### The load (R207, R208) -/

/-- What a good memory holds. -/
structure Loaded where
  machine : MachineConfig
  recipes : Vector (Option StoredRecipe) 8
  stored : Vector StoredHead 64
deriving DecidableEq, Repr

/-- The machine section of the memory, when its fields are valid. -/
def machineAt (mem : List Host.Cell) : Option MachineConfig :=
  ((splitFields machineSizes (memReadRange mem 2 49)).bind machineOfList).bind machineOfFields

/-- The recipe of a DEFINED section, when it is valid. -/
def definedRecipe (revision : Byte) (bs : List Byte) : Option StoredRecipe :=
  (((splitFields recipeSizes bs).bind recipeOfList).bind recipeOfFields).map fun r => ⟨revision.toNat, r⟩

/-- The recipe section of a slot, when its state is EMPTY or DEFINED and a DEFINED recipe is valid. -/
def recipeAt (mem : List Host.Cell) (i : SlotNo) : Option (Option StoredRecipe) :=
  match memReadRange mem (51 + 27 * i.val) 27 with
  | st :: revision :: fields =>
    if st = 0 then some none else if st = 1 then (definedRecipe revision fields).map some else none
  | _ => none

/-- The stored fields that the fields of a head section give, when they are valid. -/
def storedOfList : List Nat → Option StoredHead
  | [s, m, k, a, r, t] =>
    match yesNoOf s, yesNoOf m with
    | some s, some m =>
      let x : StoredHead := ⟨s, m, k, a, r, signed16 t⟩
      if storedHeadOk x then some x else none
    | _, _ => none
  | _ => none

/-- The head section of a position, when its fields are valid. -/
def storedAt (mem : List Host.Cell) (h : HeadNo) : Option StoredHead :=
  (splitFields [1, 1, 2, 2, 2, 2] (memReadRange mem (267 + 10 * h.val) 10)).bind storedOfList

/-- The signature is that of a memory written in full. -/
def signatureOk (mem : List Host.Cell) : Bool := memRead mem 0 == 0x5A && memRead mem 1 == 0xC3

/-- The stored CRC equals the CRC of the sections. -/
def storedCrcOk (mem : List Host.Cell) : Bool :=
  let c := crc16 (memReadRange mem 2 905)
  memRead mem 907 == crcLowByte c && memRead mem 908 == crcHighByte c

/-- The judgement of the memory: what it holds when it is good, none when it is bad (R207). -/
def loadMemory (mem : List Host.Cell) : Option Loaded :=
  if signatureOk mem && storedCrcOk mem then
    match machineAt mem with
    | none => none
    | some m =>
      if (List.finRange 8).all (fun i => (recipeAt mem i).isSome) && allHeads.all (fun h => (storedAt mem h).isSome) then
        some {
          machine := m
          recipes := Vector.ofFn fun i => (recipeAt mem i).getD none
          stored := Vector.ofFn fun h => (storedAt mem h).getD defaultStored }
      else none
  else none

/-- The working copies after a bad load (R208). -/
def defaultLoaded : Loaded := ⟨defaultMachine, Vector.replicate 8 none, Vector.replicate 64 defaultStored⟩

/-- The working copies are set, the head entries created and the run-time fields reset (R208, steps before 2). -/
def Part.setCopies (l : Loaded) (bad : Bool) (p : Part) : Part :=
  { p with
    phase := .running
    machine := l.machine
    configBad := bad
    recipes := l.recipes
    heads := Vector.ofFn fun h => blankHead (freshRecord (l.machine.fitted.getLsbD h) l.stored[h]) }

/-- The recipe at start becomes active when its slot is DEFINED (R171). -/
def Part.startSlot (p : Part) : Option SlotNo :=
  match p.machine.startSlot with
  | none => none
  | some i => if p.recipes[i].isSome then some i else none

/-- Every module is taken as answering, and the 5 ms of each watched one begin (R160; log entry 16). -/
def Part.startModules (p : Part) : Part :=
  { p with modules := Vector.ofFn fun m => ⟨false, if p.watched m then p.startTimer 5 else .stopped⟩ }

/-- Decoding, the speed samples and the demand period start (R3, R7, R147). -/
def Part.startPeriods (p : Part) : Part :=
  { p with
    carousel := { p.carousel with sampleTimer := p.startTimer 10 }
    supply := { p.supply with demandTimer := p.startTimer 1000 } }

/-- What follows the load and the acceptance of RESTART: the active slot, the pressure request, the advisory, the periods
and the vent sweep (R205, R208). -/
def Part.startUp (p : Part) : Part :=
  let p := { p with control := { p.control with activeSlot := p.startSlot } }
  p.recomputePressure.recomputeAdvisory.startPeriods.startModules.ventSweep

/-- The completion of the load (R207, R208). -/
def loadEnd (acknowledged : Bool) (p : Part) : Part :=
  if p.phase = .loading then
    match if acknowledged then loadMemory p.memory else none with
    | some l => (p.setCopies l false).startUp
    | none => (p.setCopies defaultLoaded true).startUp
  else p

/-! ### Full resets (R204, R214) -/

/-- A full reset ends a SAVE where it stands: how far the write had reached, and the byte being written, are not known
(R214; log entry 10). -/
def Part.cutSave (p : Part) : Part :=
  match p.slot with
  | .pendingSave image =>
    let ws := saveWrites image
    let k := min (Config.saveReached p.freeCount) ws.length
    let mem := memWriteAll p.memory (ws.take k)
    { p with
      memory :=
        match Config.saveTorn p.freeCount, ws[k]? with
        | true, some w => memWrite mem w.1 (Config.undeterminedByte p.freeCount)
        | _, _ => mem
      freeCount := p.freeCount + 1 }
  | _ => p

/-- Every state of the part is cleared; the clock, the pins and the memory are not the part's (R204). -/
def Part.clearAll (p : Part) : Part :=
  { resetPart with
    now := p.now
    phase := .inReset
    firstHead := p.firstHead
    freeCount := p.freeCount
    pins := p.pins
    memory := p.memory }

/-- A cause of a full reset appears (R204). -/
def fullReset (p : Part) : Part := p.cutSave.clearAll

/-- A brownout is a full reset when it lasts more than 1 ms (R204; log entry 12). -/
def brownout (micros : Nat) (p : Part) : Part := if 1000 < micros then fullReset p else p

/-- Every cause has gone: the load begins (R204). -/
def fullResetEnd (p : Part) : Part := if p.phase = .inReset then { p with phase := .loading } else p

/-! ### RESTART (R205) -/

/-- Every block takes the RESTART column of its reset table (R19, R43, R68, R70, R112, R133, R149, R173, R185, R203). -/
def Part.clearRun (p : Part) : Part :=
  { p with
    carousel := blankCarousel
    heads := Vector.ofFn fun h =>
      blankHead { freshRecord (p.fitted h) (p.record h).stored with gen := (p.record h).gen }
    track := []
    nextNumber := 0
    coilTest := .idle
    supply := blankSupply
    control := blankControl
    slot := .empty
    lineTimer := .stopped
    supplyTimer := .stopped }

/-- RESTART (R205). -/
def takeRestart (p : Part) : Part × Answer :=
  if p.control.prod ≠ .standby ∧ p.control.prod ≠ .safe then refusal .wrongState p
  else if p.slot.isSave then refusal .busy p
  else accept p.clearRun.startUp

/-! ### WRITE MACHINE and READ MACHINE (R210, R211) -/

/-- The heads that leave the fitted set. -/
def leavingHeads (old new : MachineConfig) (l : List HeadNo) : List HeadNo :=
  l.filter fun h => old.fitted.getLsbD h && !new.fitted.getLsbD h

/-- The heads that join the fitted set. -/
def joiningHeads (old new : MachineConfig) (l : List HeadNo) : List HeadNo :=
  l.filter fun h => !old.fitted.getLsbD h && new.fitted.getLsbD h

/-- What a head that leaves the fitted set does before the configuration is replaced: its container is completed, and a
CAL DOSE on it ends (R24, R183). -/
def Part.withdrawHead (h : HeadNo) (p : Part) : Part :=
  let q := if (p.context h).isSome then p.completeContainer h else p
  q.abortCalOn h .headWithdrawn

/-- A head that has left the fitted set loses its entry, its mark, its diagnostic entry and its counts; its method is OUT
(R43, R68, R71, R127, R132, R147). -/
def Part.dropHead (h : HeadNo) (p : Part) : Part :=
  let q := (p.removeMark h).setMethod h .out none
  q.modHead h fun x => blankHead x.record

/-- A head that joins the fitted set (R43, R68, R71, R132, R147). -/
def Part.joinHead (h : HeadNo) : Part → Part :=
  Part.modHead h fun x => blankHead { freshRecord true x.record.stored with gen := x.record.gen }

/-- The Tracker's part of a WRITE MACHINE (R18). -/
def Part.retrack (old : MachineConfig) (p : Part) : Part :=
  if sameGeometry old p.machine then p.modCarousel fun c => { c with lag := min c.lag p.machine.reverseLimit }
  else
    { p with
      carousel := { p.carousel with position := 0, lag := 0, zero := none }
      heads := Vector.ofFn fun h => { p.head h with pointer := none } }

/-- The modules that become watched are taken as answering for 5 ms; those no longer watched are not silent (R160). -/
def Part.rewatch (old : MachineConfig) (p : Part) : Part :=
  { p with modules := Vector.ofFn fun m =>
      if p.watched m then
        if watchedBy old.fitted m then p.modules[m] else ⟨false, p.startTimer 5⟩
      else ⟨false, .stopped⟩ }

/-- An accepted WRITE MACHINE (R211; log entry 20). -/
def Part.writeMachine (new : MachineConfig) (p : Part) : Part :=
  let old := p.machine
  let order := allHeads.map (p.firstHead + ·)
  let q := forEach (leavingHeads old new order) Part.withdrawHead p
  let q := { q with machine := new, configBad := false }
  let q := q.retrack old
  let q := forEach (leavingHeads old new allHeads) Part.dropHead q
  let q := forEach (joiningHeads old new allHeads) Part.joinHead q
  let q := ageExcess q.track.length q
  let q := (q.rewatch old).recomputeAdvisory
  q.applyDiag old

/-- WRITE MACHINE (R210). -/
def takeWriteMachine (f : MachineFields) (p : Part) : Part × Answer :=
  if p.control.prod ≠ .standby then refusal .wrongState p
  else
    match machineOfFields f with
    | none => refusal .range p
    | some new => accept (p.writeMachine new)

/-- READ MACHINE (R210). -/
def takeReadMachine (p : Part) : Part × Answer := (p, ⟨.ok, machineBytes p.machine⟩)

/-! ### SAVE (R212 to R214) -/

/-- SAVE (R212). -/
def takeSave (p : Part) : Part × Answer :=
  if p.configBad then refusal .wrongState p
  else if p.slot.isPending then refusal .busy p
  else accept { p with slot := .pendingSave p.image }

/-- The memory after a SAVE that failed (R213; log entry 11). The writes before one that was not acknowledged are done and
it is not, so that a failure of the very first leaves the old memory whole and good: there R213 says both that the memory
holds what the write had reached and that it is bad while step 3 is not completed, and the first is followed. A read-back
not acknowledged leaves the memory as steps 1 to 3 wrote it; a byte that differs is undetermined. -/
def Part.failedMemory (p : Part) (image : List Byte) : SaveFault → List Host.Cell
  | .unwritten n => memWriteAll p.memory ((saveWrites image).take n)
  | .unread _ => memWriteAll p.memory (saveWrites image)
  | .differs addr => memWrite (memWriteAll p.memory (saveWrites image)) addr (Config.undeterminedByte p.freeCount)

/-- The completion of a SAVE (R213). -/
def saveEnd (fault : Option SaveFault) (p : Part) : Part :=
  match p.slot, fault with
  | .pendingSave image, none => { p with memory := memWriteAll p.memory (saveWrites image) }.finish .saveDone
  | .pendingSave image, some f =>
    { p with memory := p.failedMemory image f, freeCount := p.freeCount + 1 }.finish .saveFault
  | _, _ => p

/-! ### The meanings -/

/-- POWER_ON (R204). -/
def execPowerOn (s : State) : Host.Outcome State Fault Refusal := .next { s with part := fullReset s.part }

/-- BROWNOUT (R204). -/
def execBrownout (micros : Nat) (s : State) : Host.Outcome State Fault Refusal :=
  .next { s with part := brownout micros s.part }

/-- RESET_INPUT (R204). -/
def execResetInput (s : State) : Host.Outcome State Fault Refusal := .next { s with part := fullReset s.part }

/-- FULL_RESET_END (R204). -/
def execFullResetEnd (s : State) : Host.Outcome State Fault Refusal := .next { s with part := fullResetEnd s.part }

/-- LOAD_COMPLETION (R208). -/
def execLoadCompletion (acknowledged : Bool) (s : State) : Host.Outcome State Fault Refusal :=
  .next { s with part := loadEnd acknowledged s.part }

/-- RESTART (R205). -/
def execRestart (s : State) : Host.Outcome State Fault Refusal :=
  .next { s with part := s.part.request .restart .line 0x09 takeRestart }

/-- WRITE_MACHINE (R210). -/
def execWriteMachine (m : MachineFields) (s : State) : Host.Outcome State Fault Refusal :=
  .next { s with part := s.part.request (.writeMachine m) .line 0x14 (takeWriteMachine m) }

/-- READ_MACHINE (R210). -/
def execReadMachine (s : State) : Host.Outcome State Fault Refusal :=
  .next { s with part := s.part.request .readMachine .line 0x15 takeReadMachine }

/-- SAVE (R212). -/
def execSave (s : State) : Host.Outcome State Fault Refusal :=
  .next { s with part := s.part.request .save .line 0x23 takeSave }

/-- SAVE_COMPLETION (R213). -/
def execSaveCompletion (fault : Option SaveFault) (s : State) : Host.Outcome State Fault Refusal :=
  .next { s with part := saveEnd fault s.part }

end Sys2Proof.Machine
end

