-- ==== Sys2Proof/Machine/Link.lean ====
section
/-! DEFINITION. The Link Interface on the wire (spec/10): the receivers, the taking of good frames, held frames and the
transmit queues. -/

namespace Sys2Proof.Machine

open Sys2Proof

/-- A request read from a frame is served by its owner (R191, R193); a command that is no request is never read. -/
def Part.serveCommand (c : Instr) (p : Part) : Part :=
  match c with
  | .readStatus => p.serve .line 0x01 takeReadStatus
  | .operationStatus => p.serve .line 0x02 takeOperationStatus
  | .start => p.serve .line 0x03 takeStart
  | .hold => p.serve .line 0x04 takeHold
  | .resume => p.serve .line 0x05 takeResume
  | .stop => p.serve .line 0x06 takeStop
  | .enterSafe => p.serve .line 0x07 takeEnterSafe
  | .recover => p.serve .line 0x08 takeRecover
  | .restart => p.serve .line 0x09 takeRestart
  | .cleanBegin => p.serve .line 0x0A takeCleanBegin
  | .cleanOpen => p.serve .line 0x0B takeCleanOpen
  | .cleanClose => p.serve .line 0x0C takeCleanClose
  | .cleanEnd => p.serve .line 0x0D takeCleanEnd
  | .selectRecipe slot => p.serve .line 0x10 (takeSelectRecipe slot)
  | .writeRecipe slot r => p.serve .line 0x11 (takeWriteRecipe slot r)
  | .adjustRecipe f => p.serve .line 0x12 (takeAdjustRecipe f)
  | .readRecipe slot => p.serve .line 0x13 (takeReadRecipe slot)
  | .writeMachine m => p.serve .line 0x14 (takeWriteMachine m)
  | .readMachine => p.serve .line 0x15 takeReadMachine
  | .writeHead h f => p.serve .line 0x18 (takeWriteHead h f)
  | .readHead h => p.serve .line 0x19 (takeReadHead h)
  | .restoreHead h => p.serve .line 0x1A (takeRestoreHead h)
  | .clearFaults h => p.serve .line 0x1B (takeClearFaults h)
  | .clearTotals h => p.serve .line 0x1C (takeClearTotals h)
  | .setDiagnostics f => p.serve .line 0x1D (takeSetDiagnostics f)
  | .testCoils => p.serve .line 0x20 takeTestCoils
  | .calDose h n m => p.serve .line 0x21 (takeCalDose h n m)
  | .stopCal => p.serve .line 0x22 takeStopCal
  | .save => p.serve .line 0x23 takeSave
  | .measurement n m => p.serve .inspection 0x30 (takeMeasurement n m)
  | .supplyData t c q v => p.serve .supply 0x40 (takeSupplyData t c q v)
  | .powerOn | .brownout _ | .resetInput | .fullResetEnd | .loadCompletion _ | .encoderStep _ _ _
  | .zeroMarkArrival _ | .speedSample | .standstillExpiry | .pressuriseExpiry _ | .settleExpiry _ | .reliefExpiry _
  | .ventExpiry _ | .coilTestExpiry _ | .coilTestReport _ _ _ | .flowmeterPulse _ | .timedOpenExpiry _
  | .meterSilenceExpiry _ | .sealDrop _ | .coilReport _ _ _ | .moduleStatusReport _ | .moduleSilent _
  | .holdLimitExpiry | .lineSilenceExpiry | .supplySilenceExpiry | .bowlDeterminationExpiry | .demandPeriodEnd
  | .calSilenceExpiry | .calTimeoutExpiry | .calSettleExpiry | .saveCompletion _ | .byteArrival _ _ _
  | .frameTimerExpiry _ | .frameSent _ | .sealInputRise _ => p

/-- The taking of a good frame (R193, R194): NOT_OWNER and FORMAT are answered here, a request is served. -/
def Part.takeFrame (port : Port) (kind : Byte) (payload : List Byte) (p : Part) : Part :=
  match decodeRequest port kind payload with
  | .notOwner => p.enqueue port ⟨true, 0xFF, [byteOf Status.notOwner.code, kind]⟩
  | .format => p.reply port kind.toNat (refuse .format)
  | .request c => p.serveCommand c

/-- What becomes of a good frame received byte by byte (R190). -/
def Part.goodFrame (port : Port) (kind : Byte) (payload : List Byte) (p : Part) : Part :=
  p.arrive port (kind, payload) (Part.takeFrame port kind payload)

/-- The frame in progress is discarded (R189). -/
def Part.dropFrame (port : Port) (p : Part) : Part :=
  p.setPort port { p.port port with rx := .hunt, timer := .stopped }

/-- The receiver moves on within a frame. -/
def Part.setRx (port : Port) (rx : Receiver) (p : Part) : Part := p.setPort port { p.port port with rx := rx }

/-- The CRC of a received frame. -/
def frameCrc (kind : Byte) (payload : List Byte) : BitVec 16 := crc16 (kind :: byteOf payload.length :: payload)

/-- A byte without byte error reaches a receiver that is not in HUNT (R188). -/
def Part.frameByte (port : Port) (b : Byte) (p : Part) : Part :=
  match (p.port port).rx with
  | .hunt => p
  | .kind => p.setRx port (.length b)
  | .length kind =>
    if b = 0 then p.setRx port (.crcLow kind [])
    else if b.toNat ≤ 200 then p.setRx port (.payload kind b.toNat [])
    else p.dropFrame port
  | .payload kind len got =>
    if got.length + 1 = len then p.setRx port (.crcLow kind (got ++ [b]))
    else p.setRx port (.payload kind len (got ++ [b]))
  | .crcLow kind got => p.setRx port (.crcHigh kind got b)
  | .crcHigh kind got low =>
    let q := p.dropFrame port
    if low = crcLowByte (frameCrc kind got) ∧ b = crcHighByte (frameCrc kind got) then q.goodFrame port kind got else q

/-- The bytes a receiver has kept of a frame since its start byte. -/
def Receiver.kept : Receiver → Nat
  | .hunt | .kind => 0
  | .length _ => 1
  | .payload _ _ got | .crcLow _ got => 2 + got.length
  | .crcHigh _ got _ => 3 + got.length

/-- A byte takes 10 µs or more on the wire (R186), so that one behind 200 bytes of a frame comes after the 2 ms of the frame
timer: the frame is discarded before it, as every frame with L of 197..200 is (R188; log entry 23). -/
def Part.outlast (port : Port) (p : Part) : Part := if 200 ≤ (p.port port).rx.kept then p.dropFrame port else p

/-- A byte arrives at a port (R188); a byte that arrives during a full reset is lost (R203). -/
def byteIn (port : Port) (b : Byte) (byteError : Bool) (p : Part) : Part :=
  if p.phase = .inReset then p
  else
    let q := p.outlast port
    if (q.port port).rx = .hunt then
      if byteError = false ∧ b = 0xA5 then q.setPort port { q.port port with rx := .kind, timer := q.startTimer 2 } else q
    else if byteError then q.dropFrame port
    else q.frameByte port b

/-- The frame timer runs out (R188). -/
def frameTimerEnd (port : Port) (p : Part) : Part :=
  p.atExpiry (p.port port).timer fun p => p.dropFrame port

/-- The last byte of the oldest frame has been sent: it leaves the queue, and a held frame is taken when no reply is left
(R190, R195). -/
def frameSentEnd (port : Port) (p : Part) : Part :=
  match (p.port port).queue with
  | [] => p
  | _ :: rest =>
    let s := { p.port port with queue := rest }
    match s.held with
    | some (kind, payload) =>
      if s.hasReply then p.setPort port s else (p.setPort port { s with held := none }).takeFrame port kind payload
    | none => p.setPort port s

/-! ### The meanings -/

/-- BYTE_ARRIVAL (R188). -/
def execByteArrival (port : Port) (b : Byte) (byteError : Bool) (s : State) : Host.Outcome State Fault Refusal :=
  .next { s with part := byteIn port b byteError s.part }

/-- FRAME_TIMER_EXPIRY (R188). -/
def execFrameTimerExpiry (port : Port) (s : State) : Host.Outcome State Fault Refusal :=
  .next { s with part := frameTimerEnd port s.part }

/-- FRAME_SENT (R195). -/
def execFrameSent (port : Port) (s : State) : Host.Outcome State Fault Refusal :=
  .next { s with part := frameSentEnd port s.part }

end Sys2Proof.Machine
end

