-- ==== Sys2Proof/Machine/Dispatch.lean ====
section
/-! DEFINITION. The meaning of every command: one arm per constructor of `Instr`, one direct call of a meaning. -/

namespace Sys2Proof.Machine

open Sys2Proof

/-- The effect of a command on everything but the queue. -/
def exec (i : Instr) (s : State) : Host.Outcome State Fault Refusal :=
  match i with
  | .powerOn => Sys2Proof.Machine.execPowerOn s
  | .brownout micros => Sys2Proof.Machine.execBrownout micros s
  | .resetInput => Sys2Proof.Machine.execResetInput s
  | .fullResetEnd => Sys2Proof.Machine.execFullResetEnd s
  | .loadCompletion acknowledged => Sys2Proof.Machine.execLoadCompletion acknowledged s
  | .encoderStep chanA chanB infeed => Sys2Proof.Machine.execEncoderStep chanA chanB infeed s
  | .zeroMarkArrival infeed => Sys2Proof.Machine.execZeroMarkArrival infeed s
  | .speedSample => Sys2Proof.Machine.execSpeedSample s
  | .standstillExpiry => Sys2Proof.Machine.execStandstillExpiry s
  | .pressuriseExpiry h => Sys2Proof.Machine.execPressuriseExpiry h s
  | .settleExpiry h => Sys2Proof.Machine.execSettleExpiry h s
  | .reliefExpiry h => Sys2Proof.Machine.execReliefExpiry h s
  | .ventExpiry h => Sys2Proof.Machine.execVentExpiry h s
  | .coilTestExpiry h => Sys2Proof.Machine.execCoilTestExpiry h s
  | .coilTestReport h v r => Sys2Proof.Machine.execCoilTestReport h v r s
  | .flowmeterPulse h => Sys2Proof.Machine.execFlowmeterPulse h s
  | .timedOpenExpiry h => Sys2Proof.Machine.execTimedOpenExpiry h s
  | .meterSilenceExpiry h => Sys2Proof.Machine.execMeterSilenceExpiry h s
  | .sealDrop h => Sys2Proof.Machine.execSealDrop h s
  | .coilReport h v c => Sys2Proof.Machine.execCoilReport h v c s
  | .moduleStatusReport m => Sys2Proof.Machine.execModuleStatusReport m s
  | .moduleSilent m => Sys2Proof.Machine.execModuleSilent m s
  | .holdLimitExpiry => Sys2Proof.Machine.execHoldLimitExpiry s
  | .lineSilenceExpiry => Sys2Proof.Machine.execLineSilenceExpiry s
  | .supplySilenceExpiry => Sys2Proof.Machine.execSupplySilenceExpiry s
  | .bowlDeterminationExpiry => Sys2Proof.Machine.execBowlDeterminationExpiry s
  | .demandPeriodEnd => Sys2Proof.Machine.execDemandPeriodEnd s
  | .calSilenceExpiry => Sys2Proof.Machine.execCalSilenceExpiry s
  | .calTimeoutExpiry => Sys2Proof.Machine.execCalTimeoutExpiry s
  | .calSettleExpiry => Sys2Proof.Machine.execCalSettleExpiry s
  | .saveCompletion fault => Sys2Proof.Machine.execSaveCompletion fault s
  | .byteArrival p b byteError => Sys2Proof.Machine.execByteArrival p b byteError s
  | .frameTimerExpiry p => Sys2Proof.Machine.execFrameTimerExpiry p s
  | .frameSent p => Sys2Proof.Machine.execFrameSent p s
  | .readStatus => Sys2Proof.Machine.execReadStatus s
  | .operationStatus => Sys2Proof.Machine.execOperationStatus s
  | .start => Sys2Proof.Machine.execStart s
  | .hold => Sys2Proof.Machine.execHold s
  | .resume => Sys2Proof.Machine.execResume s
  | .stop => Sys2Proof.Machine.execStop s
  | .enterSafe => Sys2Proof.Machine.execEnterSafe s
  | .recover => Sys2Proof.Machine.execRecover s
  | .restart => Sys2Proof.Machine.execRestart s
  | .cleanBegin => Sys2Proof.Machine.execCleanBegin s
  | .cleanOpen => Sys2Proof.Machine.execCleanOpen s
  | .cleanClose => Sys2Proof.Machine.execCleanClose s
  | .cleanEnd => Sys2Proof.Machine.execCleanEnd s
  | .selectRecipe slot => Sys2Proof.Machine.execSelectRecipe slot s
  | .writeRecipe slot r => Sys2Proof.Machine.execWriteRecipe slot r s
  | .adjustRecipe f => Sys2Proof.Machine.execAdjustRecipe f s
  | .readRecipe slot => Sys2Proof.Machine.execReadRecipe slot s
  | .writeMachine m => Sys2Proof.Machine.execWriteMachine m s
  | .readMachine => Sys2Proof.Machine.execReadMachine s
  | .writeHead head f => Sys2Proof.Machine.execWriteHead head f s
  | .readHead head => Sys2Proof.Machine.execReadHead head s
  | .restoreHead head => Sys2Proof.Machine.execRestoreHead head s
  | .clearFaults head => Sys2Proof.Machine.execClearFaults head s
  | .clearTotals head => Sys2Proof.Machine.execClearTotals head s
  | .setDiagnostics f => Sys2Proof.Machine.execSetDiagnostics f s
  | .testCoils => Sys2Proof.Machine.execTestCoils s
  | .calDose head pCal pFine => Sys2Proof.Machine.execCalDose head pCal pFine s
  | .stopCal => Sys2Proof.Machine.execStopCal s
  | .save => Sys2Proof.Machine.execSave s
  | .measurement number volume => Sys2Proof.Machine.execMeasurement number volume s
  | .supplyData temperature carbonation pressure level => Sys2Proof.Machine.execSupplyData temperature carbonation pressure level s
  | .sealInputRise h => Sys2Proof.Machine.execSealInputRise h s

end Sys2Proof.Machine
end

