-- ==== Sys2Proof/Machine/Step.lean ====
section
/-! DEFINITION. One step of the machine: the command at the front of the queue is taken; on an empty queue a millisecond
passes. -/

namespace Sys2Proof.Machine

open Sys2Proof

/-- One step (log entry 1). -/
def step (s : State) : Host.Outcome State Fault Refusal :=
  match s.pending with
  | [] => .next { s with part := s.part.idleTick }
  | c :: rest => exec c { s with pending := rest }

/-- The state with the command that a word spells in front of the queue; the table spells none (log entry 24). -/
def State.withFetchWord (s : State) (nbits w : Nat) : State :=
  match decodeTableWord nbits w with
  | none => s
  | some c => { s with pending := c :: s.pending }

end Sys2Proof.Machine
end

