-- ==== Sys2Proof/Safety.lean ====
section
/-! DEFINITION. The words the claims are written in: what a request does, and the invariants of the part. -/

namespace Sys2Proof.Machine

open Sys2Proof

/-- A good frame that arrives at a port is taken at once: no frame is held there and no reply is unsent (R190). -/
abbrev Part.portFree (p : Part) (port : Port) : Prop := (p.port port).held = none ∧ (p.port port).hasReply = false

/-- A request reaches its owner at once: no full reset lasts, the part is out of CONFIG and the request's port is free
(R190, R193, R204). -/
abbrev Part.takes (p : Part) (port : Port := .line) : Prop :=
  p.phase ≠ .inReset ∧ p.control.prod ≠ .config ∧ p.portFree port

/-- The part after a request of the line link has been accepted: `change` is the owner's work, which finds the
line-silence timer restarted and LINE_QUIET false, and the reply is OK without contents (R193, R194, R196). -/
def Part.accepts (p : Part) (kind : Nat) (change : Part → Part) : Part :=
  (change (p.crcPassed .line)).reply .line kind answerOk

/-- The part after a request of the line link has been refused with a status (R193, R194). -/
def Part.refuses (p : Part) (kind : Nat) (s : Status) : Part := (p.crcPassed .line).reply .line kind (refuse s)

/-- The working machine configuration is valid: every field in its range and every action select permitted (R209, R210). -/
def validMachine (m : MachineConfig) : Bool :=
  machineRangesOk m && allKinds.all fun k => permitted k (actionFor m k)

/-- A DEFINED recipe slot is valid: its revision is a byte and its fields are in their ranges (R166). -/
def validRecipe (r : StoredRecipe) : Bool := decide (r.revision < 256) && recipeRangesOk r.fields

/-- The working copies can be stored and read back: machine configuration, recipes and stored head fields are valid
(R207). -/
def Part.storable (p : Part) : Bool :=
  validMachine p.machine && (p.recipes.toList.all fun r => r.all validRecipe)
    && allHeads.all fun h => storedHeadOk (p.record h).stored

/-- The recipe at start is active when it names a DEFINED slot (R171). -/
def startActive (m : MachineConfig) (recipes : Vector (Option StoredRecipe) 8) : Option SlotNo :=
  match m.startSlot with
  | none => none
  | some i => if recipes[i].isSome then some i else none

/-- Whether the vent sweep finds a head to vent: a fitted head whose seal input reads true (R42). -/
def ventsNeeded (fitted : BitVec 64) (seals : Vector Bool 64) : Bool :=
  allHeads.any fun h => fitted.getLsbD h && seals[h]

/-- A head entry at the start of the vent sweep (R42). -/
def sweepEntry (now : Nat) (vents : Bool) : Entry :=
  if vents then { blankEntry with state := .vent, relief := true, timer := .running (now + 1500) } else blankEntry

/-! ### The rungs of the method ladder -/

/-- The rung a head is on once a kind with an action has been decided for it: an OUT moves FLOW and TIMED to OUT, a DEGRADE
moves FLOW to TIMED, or to OUT where TIMED is not allowed, and TIMED to OUT for three kinds; each move names its cause and
sets the promotion count to 0 (R81 to R83, R120). -/
def HeadRecord.decided (action : Action) (timedOk : Bool) (k : FaultKind) (x : HeadRecord) : HeadRecord :=
  let moved := fun (m : Method) => { x with method := m, cause := some k, promo := 0 }
  match action, x.method with
  | .out, .flow | .out, .timed => moved .out
  | .degrade, .flow => moved (if timedOk then .timed else .out)
  | .degrade, .timed => if k = .coilOpen ∨ k = .coilShort ∨ k = .windowOverrun then moved .out else x
  | .report, _ | _, .out => x

/-- The rung after every kind of a set has been decided in the order of the table of R120: each against the rung the
earlier ones left, and RATE_DEVIATION no more once an earlier one has moved the head to TIMED (R121, R123, R124). -/
def HeadRecord.decidedAll (m : MachineConfig) (timedOk : Bool) (live : FaultKind → Bool) (x : HeadRecord) : HeadRecord :=
  allKinds.foldl (fun y k =>
    if live k && !(k == .rateDeviation && y.method == .timed && x.method != .timed) then
      y.decided (actionFor m k) timedOk k
    else y) x

/-- The record after a detection of a kind: a rise out of the warm-up is decided (R114, R120). -/
def Part.rungAfter (p : Part) (h : HeadNo) (k : FaultKind) : HeadRecord :=
  let x := p.record h
  if (p.diag h).isLive k = true ∨ 0 < x.warm then x else x.decided (actionFor p.machine k) (p.timedOk h) k

/-- The rung after a discharge whose context has a shadow judgement: only a TIMED head whose cause is a meter kind takes it;
with the re-promotion count reached and no meter kind live the head is FLOW again (R85). -/
def HeadRecord.judged (j : Option Judgement) (promos : Nat) (meterLive : Bool) (x : HeadRecord) : HeadRecord :=
  if x.method = .timed ∧ x.cause ∈ [some .meterSilent, some .meterRunaway, some .rateDeviation] then
    match j with
    | none => x
    | some .implausible => { x with promo := 0 }
    | some .plausible =>
      let promo := min 15 (x.promo + 1)
      if 0 < promos ∧ promos ≤ promo ∧ meterLive = false then { x with method := .flow, cause := none, promo := 0 }
      else { x with promo := promo }
  else x

/-! ### The contents of the replies, as numbers written out from the tables of R199 and R191 -/

/-- The bytes of a number, low byte first, each still to be cut to 8 bits. -/
def lowFirst (size n : Nat) : List Nat := (List.range size).map fun i => n / 256 ^ i

/-- The number whose bits are given from bit 0 upward. -/
def bitSum (l : List Bool) : Nat := l.foldr (fun b n => (if b then 1 else 0) + 2 * n) 0

/-- Slot state, operation kind and result of the Operation Slot. -/
def Slot.codes : Slot → List Nat
  | .empty => [0, 0, 0]
  | .pendingCal _ => [1, 1, 0]
  | .pendingTest => [1, 2, 0]
  | .pendingSave _ => [1, 3, 0]
  | .finished (.calDone _ _ _ _) => [2, 1, 1]
  | .finished (.calSilent _ _) => [2, 1, 2]
  | .finished (.calTimeout _ _) => [2, 1, 3]
  | .finished (.calAborted _ _ _ _) => [2, 1, 4]
  | .finished (.testDone _) => [2, 2, 1]
  | .finished .testAborted => [2, 2, 4]
  | .finished .saveDone => [2, 3, 1]
  | .finished .saveFault => [2, 3, 5]

/-- READ STATUS, taken with LINE_QUIET false. -/
def Part.statusContents (p : Part) : List Nat :=
  let c := p.control
  let inMethod := fun (m : Method) => ((List.finRange 64).filter fun h => p.fitted h && (p.record h).method == m).length
  [[Prod.config, .standby, .production, .hold, .stopping, .drain, .safe].idxOf c.prod,
    [none, some Cause.command, some .lineSilent, some .reverse, some .zeroLost, some .headBus].idxOf c.firstCause,
    c.causes.toNat, bitSum ((List.finRange 8).map fun m => p.watched m && p.modules[m].silent),
    bitSum [p.configBad, false, p.carousel.zero.isSome, p.carousel.standstill],
    [none, some ZeroCheck.clear, some .pending].idxOf p.carousel.zero]
  ++ lowFirst 4 (p.carousel.speed % 4294967296).toNat ++ lowFirst 4 p.advisory
  ++ [bitSum [p.supply.watch = .low, p.supply.record.any (·.level = .low), p.supply.freshness ≠ .fresh]]
  ++ p.slot.codes ++ [inMethod .flow, inMethod .timed, inMethod .out]
  ++ lowFirst 4 c.admitted ++ lowFirst 4 c.discharged
  ++ [(c.activeSlot.map Fin.val).getD 255, (p.activeRecipe.map (·.revision)).getD 0]

/-- OPERATION STATUS. -/
def Part.operationContents (p : Part) : List Nat :=
  let cal := fun (head phase counted after elapsed rate cause : Nat) =>
    [head, phase] ++ lowFirst 4 counted ++ lowFirst 4 after ++ lowFirst 4 elapsed ++ lowFirst 4 rate ++ [cause] ++ lowFirst 8 0
  p.slot.codes ++ match p.slot with
    | .pendingCal c =>
      cal c.head.val (1 + [CalPhase.fast, .fine, .settle].idxOf c.phase) c.counted c.after (p.now - c.start) 0 0
    | .finished (.calDone n a t r) => cal 0 0 n a t r 0
    | .finished (.calSilent n t) | .finished (.calTimeout n t) => cal 0 0 n 0 t 0 0
    | .finished (.calAborted cause n a t) =>
      cal 0 0 n a t 0 (1 + [AbortCause.stopCal, .safe, .motion, .coil, .headWithdrawn].idxOf cause)
    | .finished (.testDone heads) => List.replicate 19 0 ++ lowFirst 8 heads.toNat
    | _ => List.replicate 27 0

/-- READ MACHINE. -/
def MachineConfig.contents (m : MachineConfig) : List Nat :=
  [m.nPos] ++ lowFirst 8 m.fitted.toNat ++ lowFirst 2 m.nInc ++ lowFirst 2 m.aPress ++ lowFirst 2 m.aFill
  ++ lowFirst 2 m.aFillend ++ lowFirst 2 m.aRelief ++ lowFirst 2 m.aDis ++ lowFirst 2 m.reverseLimit
  ++ lowFirst 2 m.lineSilence ++ lowFirst 2 m.supplySilence ++ [m.inspection] ++ lowFirst 2 m.meterSilence
  ++ lowFirst 2 m.runawayLimit ++ lowFirst 2 m.outlierLimit
  ++ [m.window, [CoilMode.off, .onRequest, .everyRev].idxOf m.mode]
  ++ m.actions.toList.map (fun a => [Action.report, .degrade, .out].idxOf a)
  ++ lowFirst 2 m.bowlTime ++ [(m.startSlot.map Fin.val).getD 255]

/-- READ RECIPE of a slot. -/
def Part.recipeContents (p : Part) (i : SlotNo) : List Nat :=
  [i.val, bitSum [p.recipes[i].isSome, p.control.activeSlot = some i]] ++ match p.recipes[i] with
    | none => List.replicate 26 0
    | some ⟨revision, r⟩ =>
      [revision] ++ lowFirst 2 r.v ++ lowFirst 2 r.b ++ lowFirst 2 r.press ++ lowFirst 2 r.settle ++ lowFirst 2 r.relief
      ++ lowFirst 2 r.carb ++ lowFirst 2 r.margin ++ [r.gain, r.deadband] ++ lowFirst 2 r.gross
      ++ [r.warmup, if r.timedAllowed then 1 else 0, r.promo, r.dev] ++ lowFirst 2 r.hold ++ [r.speed]

/-- READ HEAD of a head. -/
def Part.headContents (p : Part) (h : HeadNo) : List Nat :=
  let x := p.record h
  let d := p.diag h
  [h.val, bitSum [x.stored.inService, x.stored.timedAllowed, x.trimFrom.isSome]]
  ++ lowFirst 2 x.stored.k ++ lowFirst 2 x.stored.a ++ lowFirst 2 x.stored.r ++ lowFirst 2 (x.stored.t % 65536).toNat
  ++ [x.gen] ++ lowFirst 2 (x.trimFrom.getD 0)
  ++ [1 + [Method.flow, .timed, .out].idxOf x.method, (x.cause.map fun k => 1 + allKinds.idxOf k).getD 0, x.promo,
    x.warm, x.outlierRun]
  ++ lowFirst 4 x.doses ++ lowFirst 4 x.rejects ++ lowFirst 4 x.drainPulses ++ lowFirst 4 x.uninspected
  ++ [[HeadState.rest, .testing, .skip, .sealing, .pressurize, .waitFill, .fillFast, .fillFine, .settle, .waitRelief,
    .relief, .waitDischarge, .vent].idxOf (p.entry h).state]
  ++ lowFirst 2 d.live.toNat ++ lowFirst 2 d.held.toNat
  ++ [d.openDetail.toNat, d.shortDetail.toNat, p.machine.window, (d.window.filter id).length]
  ++ lowFirst 4 (p.head h).runaway.count

/-! ### Invariants of the part -/

/-- The relief valve of an entry is commanded open in RELIEF and VENT alone, and never with the gas valve or a liquid
valve (R21). -/
def Entry.reliefOk (e : Entry) : Bool :=
  (e.relief == (e.state == .relief || e.state == .vent)) && !(e.relief && (e.gas || e.fast || e.fine))

/-- The relief interlock holds at every head (R21). -/
def Part.ReliefInterlock (p : Part) : Prop := ∀ h, (p.entry h).reliefOk = true

/-- The clean valves of a head may stand open: it is fitted and in service, in DRAIN with the clean command OPENED (R41). -/
def Part.cleans (p : Part) (h : HeadNo) : Bool :=
  p.fitted h && (p.record h).stored.inService && p.control.cleanOpened && decide (p.control.prod = .drain)

/-- A head is the subject of a CAL DOSE between its start and its settle (R179, R180). -/
def Part.calDoses (p : Part) (h : HeadNo) : Bool := (p.calOn h).any fun c => decide (c.phase ≠ .settle)

/-- The liquid interlock: a fast or fine valve is commanded open only in FILL_FAST or FILL_FINE, or on a head in service in
DRAIN with the clean valves opened, or during a CAL DOSE (R21); a head that is not fitted has neither a container nor
anything in its entry (R24, R43), the note of R41 stands only where the clean valves may open, and the settle timer of a
CAL DOSE runs in its settle alone. -/
def Part.LiquidInterlock (p : Part) : Prop :=
  (∀ h, (p.entry h).fast = true ∨ (p.entry h).fine = true →
    (p.entry h).state.isFill = true ∨ p.cleans h = true ∨ p.calDoses h = true) ∧
  (∀ h, p.fitted h = false → p.context h = none ∧ p.entry h = blankEntry) ∧
  (∀ h, (p.entry h).cleanWaiting = true → p.cleans h = true) ∧
  ∀ h, p.calDoses h = true → (p.calOn h).all (fun c => decide (c.settleTimer = .stopped)) = true

/-- A head record lies in its ranges (R69). -/
def HeadRecord.inRange (x : HeadRecord) : Bool :=
  storedHeadOk x.stored && decide (x.gen < 256) && x.trimFrom.all (· < 65536) && decide (x.promo ≤ 15)
    && decide (x.warm ≤ 15) && decide (x.outlierRun ≤ 3) && decide (x.doses ≤ totalMax) && decide (x.rejects ≤ totalMax)
    && decide (x.drainPulses ≤ totalMax) && decide (x.uninspected ≤ totalMax)

/-- A diagnostic entry: every live kind is held, a detail names valves only while its kind is held, and the deviation
window holds at most `n` entries (R113, R114, R117, R123). -/
def Diag.inRange (n : Nat) (d : Diag) : Bool :=
  (d.live &&& ~~~ d.held == 0) && (d.isHeld .coilOpen || d.openDetail == 0) && (d.isHeld .coilShort || d.shortDetail == 0)
    && decide (d.window.length ≤ n)

/-- Head records, diagnostic entries and recipe slots lie in their ranges (R69, R113, R166). -/
def Part.RecordsInRange (p : Part) : Prop :=
  (4 ≤ p.machine.window ∧ p.machine.window ≤ 32) ∧ p.nextNumber < 65536 ∧
  (∀ h, (p.record h).inRange = true ∧ (p.diag h).inRange p.machine.window = true) ∧
  ∀ i : SlotNo, (p.recipes[i]).all validRecipe = true

/-- The states of a head that holds a context (R20, R44). -/
def HeadState.holds : HeadState → Bool
  | .rest | .testing | .skip | .vent => false
  | .sealing | .pressurize | .waitFill | .fillFast | .fillFine | .settle | .waitRelief | .relief | .waitDischarge => true

/-- The Container Track agrees with the heads: a head holds a context in the states from SEALING to WAIT_DISCHARGE, it has
one ON_CAROUSEL record with the context's number then and none otherwise, a head that is not fitted holds none (R24),
every DISCHARGED record stands before every ON_CAROUSEL one, and at most D + 12 are DISCHARGED (R44, R93). Out of the
running phase there is neither. -/
def Part.TrackAgrees (p : Part) : Prop :=
  (∀ h, (p.context h).isSome = (p.entry h).state.holds) ∧
  (∀ h, (p.track.filter (TrackRecord.standsOn h)).map (·.number) = (p.context h).toList.map (·.number)) ∧
  (∀ h, p.fitted h = false → p.context h = none) ∧
  p.track.Pairwise (fun a b => a.isDischarged = true ∨ b.isDischarged = false) ∧
  dischargedCount p.track ≤ p.machine.inspection + 12 ∧
  (p.phase ≠ .running → p.track = [] ∧ ∀ h, p.context h = none)

/-- The machine fault record belongs to SAFE, the hold-limit timer to HOLD and an opened clean command to DRAIN (R154,
R157, R163). -/
def Part.FaultRecordFits (p : Part) : Prop :=
  (match p.control.firstCause with
    | none => p.control.prod ≠ .safe ∧ p.control.causes = 0
    | some c => p.control.prod = .safe ∧ p.control.causes.getLsbD (c.code - 1) = true) ∧
  (p.control.holdTimer ≠ .stopped → p.control.prod = .hold) ∧
  (p.control.cleanOpened = true → p.control.prod = .drain)

/-- The Supply Monitor's values lie in their ranges and its timers run when its states say so (R134, R136 to R138, R142,
R147), no transmit queue holds more than 80 frames, at most one of them a reply, which is all that the line and supply
queues hold, a frame is held only behind a reply (R190, R195), and the memory is in canonical form. -/
def Part.SupplyAndLinksInRange (p : Part) : Prop :=
  (1000 ≤ p.supply.setpoint ∧ p.supply.setpoint ≤ 6000) ∧ p.supply.demand ≤ 1000000 ∧
  (p.supply.record.all fun r => decide (-50 ≤ r.temperature) && decide (r.temperature ≤ 400)
    && decide (r.carbonation ≤ 800) && decide (r.pressure ≤ 8000)) = true ∧
  (p.supply.freshness = .absent ↔ p.supply.record = none) ∧ (p.supply.freshness = .fresh ↔ p.supplyTimer ≠ .stopped) ∧
  (p.supply.watch = .timing ↔ p.supply.watchTimer ≠ .stopped) ∧
  (∀ port, (p.port port).queue.length ≤ 80 ∧ ((p.port port).queue.filter (·.reply)).length ≤ 1 ∧
    (port ≠ .inspection → ∀ f ∈ (p.port port).queue, f.reply = true) ∧
    ((p.port port).held.isSome → (p.port port).hasReply = true)) ∧
  Memory.wf p.memory = true

/-- The Carousel Tracker's values lie in their ranges, and every fitted head has a boundary pointer while the position is
referenced and the configuration valid, no other head has one, and CONFIG_BAD says that the configuration is not valid
(R4, R5, R11, R209). Before the load has completed the position is 0 and unreferenced. -/
def Part.TrackerInRange (p : Part) : Prop :=
  p.carousel.position < p.machine.nInc ∧ p.carousel.lag ≤ p.machine.reverseLimit ∧
  (∀ h, (p.head h).pointer.isSome = (p.pointersLive && p.fitted h)) ∧
  (p.configBad = true → sectorOk p.machine = false) ∧
  (p.phase = .running → p.configBad = false → validMachine p.machine = true) ∧
  (p.phase ≠ .running → p.carousel.position = 0 ∧ p.carousel.lag = 0 ∧ p.carousel.zero = none)

end Sys2Proof.Machine
end

