-- ==== Sys2Proof/WellFormed.lean ====
section
/-! DEFINITION. Which commands are well-formed: every field of a request fits the bytes the catalogue gives it (R191,
R192, R201, R202), and a SAVE fails at one of its byte writes or at an address of its read-back (R206, R213). A field
outside its RANGE is well-formed; its owner refuses it (R191). -/

namespace Sys2Proof

/-- A value of a field of `n` bytes. -/
def fits (n x : Nat) : Bool := x < 256 ^ n

/-- A value of a signed field of two bytes. -/
def fitsSigned (x : Int) : Bool := decide (-32768 ≤ x) && decide (x < 32768)

/-- A field that is absent or fits. -/
def fitsOpt (n : Nat) (x : Option Nat) : Bool := x.all (fits n)

/-- The fields of a recipe fit their bytes. -/
def RecipeFields.wf (r : RecipeFields) : Bool :=
  fits 2 r.v && fits 2 r.b && fits 2 r.press && fits 2 r.settle && fits 2 r.relief && fits 2 r.carb && fits 2 r.margin
    && fits 1 r.gain && fits 1 r.deadband && fits 2 r.gross && fits 1 r.warmup && fits 1 r.timedAllowed && fits 1 r.promo
    && fits 1 r.dev && fits 2 r.hold && fits 1 r.speed

/-- The fields of an adjustment fit their bytes. -/
def AdjustFields.wf (f : AdjustFields) : Bool :=
  fitsOpt 2 f.v && fitsOpt 2 f.b && fitsOpt 1 f.gain && fitsOpt 1 f.deadband && fitsOpt 2 f.gross && fitsOpt 2 f.margin
    && fitsOpt 2 f.hold && fitsOpt 1 f.speed

/-- The fields of a machine configuration fit their bytes. -/
def MachineFields.wf (m : MachineFields) : Bool :=
  fits 1 m.nPos && fits 2 m.nInc && fits 2 m.aPress && fits 2 m.aFill && fits 2 m.aFillend && fits 2 m.aRelief
    && fits 2 m.aDis && fits 2 m.reverseLimit && fits 2 m.lineSilence && fits 2 m.supplySilence && fits 1 m.inspection
    && fits 2 m.meterSilence && fits 2 m.runawayLimit && fits 2 m.outlierLimit && fits 1 m.window && fits 1 m.mode
    && m.actions.toList.all (fits 1) && fits 2 m.bowlTime && fits 1 m.startSlot

/-- The fields of a head write fit their bytes. -/
def HeadFields.wf (f : HeadFields) : Bool :=
  fitsOpt 2 f.k && fitsOpt 2 f.a && fitsOpt 2 f.r && f.t.all fitsSigned && fitsOpt 1 f.inService
    && fitsOpt 1 f.timedAllowed

/-- The fields of a diagnostics write fit their bytes. -/
def DiagFields.wf (f : DiagFields) : Bool :=
  fitsOpt 1 f.window && fitsOpt 1 f.mode && f.actions.toList.all (fitsOpt 1)

/-- A failure at one of the 911 byte writes of a SAVE, or at one of the 909 addresses of its read-back (R206, R213). -/
def SaveFault.wf : SaveFault → Bool
  | .unwritten n => n < 911
  | .unread addr | .differs addr => addr < 909

/-- A well-formed command. -/
def Instr.wf : Instr → Bool
  | .selectRecipe slot => fits 1 slot
  | .writeRecipe slot r => fits 1 slot && RecipeFields.wf r
  | .adjustRecipe f => AdjustFields.wf f
  | .readRecipe slot => fits 1 slot
  | .writeMachine m => MachineFields.wf m
  | .writeHead h f => fits 1 h && HeadFields.wf f
  | .readHead h => fits 1 h
  | .restoreHead h => fits 1 h
  | .clearFaults h => fits 1 h
  | .clearTotals h => fits 1 h
  | .setDiagnostics f => DiagFields.wf f
  | .calDose h n m => fits 1 h && fits 4 n && fits 4 m
  | .saveCompletion fault => fault.all SaveFault.wf
  | .measurement n m => fits 2 n && fits 2 m
  | .supplyData t c q v => fitsSigned t && fits 2 c && fits 2 q && fits 1 v
  | .powerOn | .brownout _ | .resetInput | .fullResetEnd | .loadCompletion _ | .encoderStep _ _ _
  | .zeroMarkArrival _ | .speedSample | .standstillExpiry | .pressuriseExpiry _ | .settleExpiry _ | .reliefExpiry _
  | .ventExpiry _ | .coilTestExpiry _ | .coilTestReport _ _ _ | .flowmeterPulse _ | .timedOpenExpiry _
  | .meterSilenceExpiry _ | .sealDrop _ | .coilReport _ _ _ | .moduleStatusReport _ | .moduleSilent _
  | .holdLimitExpiry | .lineSilenceExpiry | .supplySilenceExpiry | .bowlDeterminationExpiry | .demandPeriodEnd
  | .calSilenceExpiry | .calTimeoutExpiry | .calSettleExpiry | .byteArrival _ _ _
  | .frameTimerExpiry _ | .frameSent _ | .readStatus | .operationStatus | .start | .hold | .resume | .stop | .enterSafe
  | .recover | .restart | .cleanBegin | .cleanOpen | .cleanClose | .cleanEnd | .readMachine | .testCoils | .stopCal
  | .save | .sealInputRise _ => true

end Sys2Proof
end

