-- ==== Sys2Proof/Certificates/Slice0/Obligations.lean ====
section
/-! DEFINITION. The statements for the provers. A docstring names the log entries (notes/assumptions) on which a statement
rests where the spec leaves a point to the model. -/

open Sys2Proof Sys2Proof.Machine

/-! ### The queue of commands and the links -/

/-- A step runs the command at the front of the queue on the rest of the queue; on an empty queue, which is the model's
choice of log entry 1, the clock moves on by one millisecond and nothing else changes. -/
def Obligations.StepRunsTheFrontCommand : Prop :=
  (∀ (c : Instr) (rest : List Instr) (p : Part), step ⟨c :: rest, p⟩ = exec c ⟨rest, p⟩) ∧
  ∀ p : Part, step ⟨[], p⟩ = .next ⟨[], { p with now := p.now + 1 }⟩

/-- Every command answers a next state: it leaves the queue and the free choice of the crossing order alone and never
moves the clock back. The model's choices in it: log entries 1, 2, 9 and 28. -/
def Obligations.EveryCommandCompletes : Prop :=
  ∀ (c : Instr) (s : State), ∃ p : Part,
    exec c s = .next ⟨s.pending, p⟩ ∧ s.part.now ≤ p.now ∧ p.firstHead = s.part.firstHead

/-- Every well-formed request is read back from the kind and payload that the catalogue gives it. -/
def Obligations.RequestsDecodeAsEncoded : Prop :=
  ∀ (c : Instr) (port : Port) (kind : Byte) (payload : List Byte), c.wf = true →
    encodeRequest c = some (port, kind, payload) → decodeRequest port kind payload = .request c

/-- A kind and payload that read as a request are those the catalogue gives that request, and it is well-formed: no two
payloads of a kind mean one request and no bit of a payload is dropped. -/
def Obligations.DecodedRequestsEncodeBack : Prop :=
  ∀ (c : Instr) (port : Port) (kind : Byte) (payload : List Byte),
    decodeRequest port kind payload = .request c → encodeRequest c = some (port, kind, payload) ∧ c.wf = true

/-- Frames written out from R187, R191 and R192: READ STATUS with its five bytes, and payloads of CAL DOSE, WRITE HEAD
(T = -3 and in service = yes), ADJUST RECIPE (g and hold limit), MEASUREMENT and SUPPLY DATA. -/
def Obligations.WrittenFramesAreRead : Prop :=
  frameBytes ⟨false, 0x01, []⟩ = [0xA5, 0x01, 0x00, 0x3E, 0x2E] ∧
  decodeRequest .line 0x01 [] = .request .readStatus ∧
  decodeRequest .line 0x21 [0x05, 0xC0, 0x30, 0x00, 0x00, 0xE0, 0x01, 0x00, 0x00] = .request (.calDose 5 12480 480) ∧
  decodeRequest .line 0x18 [0x07, 0x18, 0xFD, 0xFF, 0x01] =
    .request (.writeHead 7 ⟨none, none, none, some (-3), some 1, none⟩) ∧
  decodeRequest .line 0x12 [0x44, 0x05, 0x58, 0x02] =
    .request (.adjustRecipe ⟨none, none, some 5, none, none, none, some 600, none⟩) ∧
  decodeRequest .inspection 0x30 [0x2C, 0x03, 0x88, 0x13] = .request (.measurement 812 5000) ∧
  decodeRequest .supply 0x40 [0xF6, 0xFF, 0xA4, 0x01, 0x34, 0x08, 0x02] = .request (.supplyData (-10) 420 2100 2) ∧
  decodeRequest .inspection 0x40 [0x00, 0x00, 0x00, 0x00, 0x00, 0x00, 0x00] = .notOwner ∧
  decodeRequest .line 0x13 [] = .format

/-- A whole frame that arrives byte by byte at a port whose receiver is in HUNT does what the request does as a command,
whether it is taken at once, held behind an unsent reply or discarded behind a held frame: its bytes are the start
byte, the kind, the length, the payload and the CRC. The model's choices in it: log entries 3 and 23. -/
def Obligations.WholeFrameRunsItsCommand : Prop :=
  ∀ (c : Instr) (port : Port) (kind : Byte) (payload : List Byte) (p : Part), c.wf = true →
    encodeRequest c = some (port, kind, payload) → p.phase ≠ .inReset → (p.port port).rx = .hunt →
    (p.port port).timer = .stopped →
    let frame := frameBytes ⟨false, kind, payload⟩
    Sys2Proof.core.run frame.length (⟨frame.map (Instr.byteArrival port · false), p⟩ : State) = exec c ⟨[], p⟩

/-- A frame in progress is discarded by a byte with byte error, by a length above 200, by a CRC that does not compare
equal, and by the expiry of its frame timer: the receiver returns to HUNT, the frame timer stops, and nothing else
changes but that the expiry brings the clock to its time. A byte that is not the start byte changes nothing in HUNT. A
byte behind 200 bytes of a frame comes after its frame timer: the frame is gone, as every frame with L of 197..200 is,
and the byte is hunted. The model's choices in it: log entries 2 and 23. -/
def Obligations.DiscardedFrameLeavesNoTrace : Prop :=
  ∀ (s : State) (port : Port) (b : Byte) (e : Bool) (kind low : Byte) (len : Nat) (got : List Byte) (due : Nat),
    let p := s.part
    let gone := { p.port port with rx := .hunt, timer := .stopped }
    let hunted := if e = false ∧ b = 0xA5 then { gone with rx := .kind, timer := .running (p.now + 2) } else gone
    p.phase ≠ .inReset →
    ((p.port port).rx ≠ .hunt → exec (.byteArrival port b true) s = .next { s with part := p.setPort port gone }) ∧
    ((p.port port).rx = .length kind → 200 < b.toNat →
      exec (.byteArrival port b false) s = .next { s with part := p.setPort port gone }) ∧
    ((p.port port).rx = .crcHigh kind got low → got.length ≤ 196 →
      b ++ low ≠ crc16 (kind :: BitVec.ofNat 8 got.length :: got) →
      exec (.byteArrival port b false) s = .next { s with part := p.setPort port gone }) ∧
    ((p.port port).rx = .payload kind len got ∧ 198 ≤ got.length ∨ (p.port port).rx = .crcLow kind got ∧ 198 ≤ got.length ∨
        (p.port port).rx = .crcHigh kind got low ∧ 197 ≤ got.length →
      exec (.byteArrival port b e) s = .next { s with part := p.setPort port hunted }) ∧
    ((p.port port).timer = .running due →
      exec (.frameTimerExpiry port) s =
        .next { s with part := { p with now := max p.now due }.setPort port gone }) ∧
    ((p.port port).rx = .hunt → (e = true ∨ b ≠ 0xA5) → exec (.byteArrival port b e) s = .next s)

/-- What becomes of a good frame. Behind an unsent reply it is held, behind a held frame it is discarded; on the line
link it restarts the line-silence timer all the same. Taken at once, a kind that its link may not send is answered
with kind 0xFF, status NOT_OWNER and the kind, and a payload of the wrong length with FORMAT. The model's choices in
it: log entry 23. -/
def Obligations.GoodFrameIsTakenHeldOrAnswered : Prop :=
  ∀ (s : State) (port : Port) (b low kind : Byte) (got : List Byte),
    let p := s.part
    let q := (p.setPort port { p.port port with rx := .hunt, timer := .stopped }).crcPassed port
    let held := (p.port port).held
    let unsent := (p.port port).queue.any (·.reply)
    p.phase ≠ .inReset → (p.port port).rx = .crcHigh kind got low → got.length ≤ 196 →
    b ++ low = crc16 (kind :: BitVec.ofNat 8 got.length :: got) →
    (held.isSome → exec (.byteArrival port b false) s = .next { s with part := q }) ∧
    (held = none → unsent = true →
      exec (.byteArrival port b false) s =
        .next { s with part := q.setPort port { q.port port with held := some (kind, got) } }) ∧
    (held = none → unsent = false → decodeRequest port kind got = .notOwner →
      exec (.byteArrival port b false) s = .next { s with part := q.enqueue port ⟨true, 0xFF, [3, kind]⟩ }) ∧
    (held = none → unsent = false → decodeRequest port kind got = .format →
      exec (.byteArrival port b false) s =
        .next { s with part := q.enqueue port ⟨true, kind + 0x80, [4]⟩ })

/-- FRAME_SENT takes the oldest frame from the queue; a held frame is then taken when no reply is left unsent, and stays
held otherwise. With an empty queue nothing happens. -/
def Obligations.SentFrameLeavesItsQueue : Prop :=
  ∀ (s : State) (port : Port) (f : OutFrame) (rest : List OutFrame) (kind : Byte) (payload : List Byte),
    let p := s.part
    let st := p.port port
    (st.queue = [] → exec (.frameSent port) s = .next s) ∧
    (st.queue = f :: rest → st.held = none ∨ rest.any (·.reply) = true →
      exec (.frameSent port) s = .next { s with part := p.setPort port { st with queue := rest } }) ∧
    (st.queue = f :: rest → st.held = some (kind, payload) → rest.any (·.reply) = false →
      exec (.frameSent port) s =
        .next { s with part :=
          (p.setPort port { st with queue := rest, held := none }).takeFrame port kind payload })

/-- In CONFIG every request but READ STATUS, at a port with no frame held and no reply unsent, is refused with
WRONG_STATE and reaches no owner; on the line link it restarts no timer but makes LINE_QUIET false. While a full reset
lasts, a request does nothing at all. The model's choices in it: log entries 3 and 25. -/
def Obligations.RequestsInConfigAreRefused : Prop :=
  ∀ (c : Instr) (port : Port) (kind : Byte) (payload : List Byte) (s : State),
    encodeRequest c = some (port, kind, payload) →
    (s.part.phase = .inReset → exec c s = .next s) ∧
    (s.part.phase ≠ .inReset → s.part.portFree port → s.part.control.prod = .config → c ≠ .readStatus →
      let p := s.part
      let q := { p with control := { p.control with lineQuiet := if port = Port.line then false else p.control.lineQuiet } }
      exec c s = .next { s with part := q.enqueue port ⟨true, kind + 0x80, [2]⟩ })

/-- Every request that its port takes is answered with one reply of kind request plus 0x80, which joins its link's queue
after the owner's work and is lost only when 80 frames wait there; the owner's work touches no frame of that link, and
a request refused with any status but OK has changed nothing but the line-silence timer and LINE_QUIET. Behind an
unsent reply a request is held, and behind a held frame it is discarded; on the line link it restarts the line-silence
timer all the same. The model's choices in it: log entries 3 and 25. -/
def Obligations.EveryRequestIsAnsweredOnce : Prop :=
  ∀ (c : Instr) (port : Port) (kind : Byte) (payload : List Byte) (s : State),
    encodeRequest c = some (port, kind, payload) → s.part.phase ≠ .inReset →
    let st := s.part.port port
    let passed := s.part.crcPassed port
    (st.held.isSome → exec c s = .next { s with part := passed }) ∧
    (st.held = none → st.queue.any (·.reply) = true →
      exec c s = .next { s with part := passed.setPort port { st with held := some (kind, payload) } }) ∧
    (st.held = none → st.queue.any (·.reply) = false →
    ∃ (q : Part) (status : Status) (contents : List Byte),
      exec c s = .next { s with part := q.enqueue port ⟨true, kind + 0x80, byteOf status.code :: contents⟩ } ∧
      q.port port = s.part.port port ∧
      (status ≠ .ok → contents = [] ∧ q = s.part.crcPassed port) ∧
      ((q.port port).queue.length < 80 →
        ((q.enqueue port ⟨true, kind + 0x80, byteOf status.code :: contents⟩).port port).queue =
          (s.part.port port).queue ++ [⟨true, kind + 0x80, byteOf status.code :: contents⟩]))

/-- READ STATUS in every state, and out of CONFIG OPERATION STATUS, READ RECIPE of a slot 0..7, READ MACHINE and READ
HEAD of a fitted head, change nothing but to hand over the reply: status OK and, field by field at its offset, the
contents of the tables of R199 and R191, in 31, 30, 28, 49 and 47 bytes. READ RECIPE of any other slot is refused with
RANGE and READ HEAD of any other head with UNKNOWN_HEAD. The model's choices in it: log entries 3, 26, 30 and 33. -/
def Obligations.ReadsChangeNothing : Prop :=
  ∀ (s : State) (n : Nat) (i : SlotNo) (h : HeadNo),
    let p := s.part.crcPassed .line
    let answers := fun (c : Instr) (kind : Byte) (length : Nat) (contents : List Nat) => contents.length = length ∧
      exec c s =
        .next { s with part := p.enqueue .line ⟨true, kind, 0 :: contents.map fun x => BitVec.ofNat 8 x⟩ }
    s.part.phase ≠ .inReset → s.part.portFree .line →
    answers .readStatus 0x81 31 s.part.statusContents ∧
    (s.part.control.prod ≠ .config →
      answers .operationStatus 0x82 30 s.part.operationContents ∧
      answers .readMachine 0x95 49 s.part.machine.contents ∧
      answers (.readRecipe i.val) 0x93 28 (s.part.recipeContents i) ∧
      (8 ≤ n → exec (.readRecipe n) s = .next { s with part := p.enqueue .line ⟨true, 0x93, [5]⟩ }) ∧
      (s.part.fitted h = true → answers (.readHead h.val) 0x99 47 (s.part.headContents h)) ∧
      (s.part.machine.fitted.getLsbD n = false →
        exec (.readHead n) s = .next { s with part := p.enqueue .line ⟨true, 0x99, [6]⟩ }))

/-! ### Full resets, the memory, RESTART and WRITE MACHINE -/

/-- Power-on, the reset input and a brownout of more than 1 ms clear every state of the part; what stays is the
model's clock and free fields, the pins and the memory. A dip of 1 ms or less touches nothing. At the end of the full
reset the memory load begins. The working copies of the cleared part are those of log entry 4, and the microseconds of
BROWNOUT those of log entry 12. The model's other choices in it: log entries 6, 25 and 28. -/
def Obligations.FullResetClearsThePart : Prop :=
  ∀ (s : State) (micros : Nat),
    let p := s.part
    let cleared : Part := { resetPart with
      now := p.now, phase := .inReset, firstHead := p.firstHead, freeCount := p.freeCount, pins := p.pins,
      memory := p.memory }
    (p.slot.isSave = false →
      exec .powerOn s = .next { s with part := cleared } ∧ exec .resetInput s = .next { s with part := cleared } ∧
      (1000 < micros → exec (.brownout micros) s = .next { s with part := cleared })) ∧
    (micros ≤ 1000 → exec (.brownout micros) s = .next s) ∧
    (p.phase = .inReset → exec .fullResetEnd s = .next { s with part := { p with phase := .loading } }) ∧
    (p.phase ≠ .inReset → exec .fullResetEnd s = .next s)

/-- A full reset during a SAVE ends the write where it stands: some first writes of its sequence are done, at most one more
byte is undetermined, and the slot is empty. How far it came is free (log entry 10). -/
def Obligations.FullResetCutsASave : Prop :=
  ∀ (s : State) (image : List Byte) (c : Instr), s.part.slot = .pendingSave image →
    (c = .powerOn ∨ c = .resetInput ∨ ∃ micros, 1000 < micros ∧ c = .brownout micros) →
    ∃ (t : Part) (k : Nat), exec c s = .next { s with part := t } ∧ t.phase = .inReset ∧ t.slot = .empty ∧
      k ≤ (saveWrites image).length ∧
      let done := memWriteAll s.part.memory ((saveWrites image).take k)
      (t.memory = done ∨ ∃ (w : Nat × Byte) (b : Byte), (saveWrites image)[k]? = some w ∧ t.memory = memWrite done w.1 b)

/-- A SAVE cut off after its first byte write and before its last leaves a bad memory, whatever the memory held before
and whatever the byte being written has become while another write was still to come. The model's choices in it: log
entries 5 and 10. -/
def Obligations.CutSaveLeavesABadMemory : Prop :=
  ∀ (m : List Host.Cell) (image : List Byte) (k : Nat), Memory.wf m = true → image.length = 907 → 1 ≤ k → k ≤ 910 →
    let done := memWriteAll m ((saveWrites image).take k)
    loadMemory done = none ∧
    ∀ (w : Nat × Byte) (b : Byte), k ≤ 909 → (saveWrites image)[k]? = some w → loadMemory (memWrite done w.1 b) = none

/-- The memory that a SAVE has written in full loads as the working copies it was taken from, whatever the memory held
before: machine configuration, recipe slots with their revisions, and the stored fields of all 64 heads. The model's
choices in it: log entry 5. -/
def Obligations.SavedMemoryLoadsTheSnapshot : Prop :=
  ∀ (p : Part) (m : List Host.Cell), p.storable = true → Memory.wf m = true →
    loadMemory (memWriteAll m (saveWrites p.image)) =
      some ⟨p.machine, p.recipes, Vector.ofFn fun h => (p.record h).stored⟩

/-- SAVE is refused with WRONG_STATE while CONFIG_BAD is true, with BUSY while an operation is pending, and otherwise
takes its snapshot; it ends DONE with the whole image written behind the signature 0x5A, 0xC3, or STORE_FAULT: with the
writes before one not acknowledged and none from it on; with all of them after a read-back not acknowledged; and with
all of them but the byte that differs after a read-back that does not match. The working copies are not touched. The
model's choices in it: log entries 3 and 11. -/
def Obligations.SaveWritesItsSnapshot : Prop :=
  ∀ (s : State) (image : List Byte) (k : Nat) (fault : SaveFault),
    let p := s.part
    let written := memWriteAll p.memory (saveWrites image)
    let fails := fun (f : SaveFault) (m : List Host.Cell) =>
      exec (.saveCompletion (some f)) s =
        .next { s with part := { p with memory := m, freeCount := p.freeCount + 1, slot := .finished .saveFault } }
    (p.takes →
      (p.configBad = true → exec .save s = .next { s with part := p.refuses 0x23 .wrongState }) ∧
      (p.configBad = false → p.slot.isPending = true → exec .save s = .next { s with part := p.refuses 0x23 .busy }) ∧
      (p.configBad = false → p.slot.isPending = false →
        exec .save s =
          .next { s with part := p.accepts 0x23 fun q => { q with slot := .pendingSave p.image } })) ∧
    saveWrites image = [(0, 0), (1, 0)] ++ addressed 2 image ++ [(0, 0x5A), (1, 0xC3)] ∧
    (p.slot = .pendingSave image →
      exec (.saveCompletion none) s =
        .next { s with part := { p with memory := written, slot := .finished .saveDone } } ∧
      fails (.unwritten k) (memWriteAll p.memory ((saveWrites image).take k)) ∧
      fails (.unread k) written ∧
      fails (.differs k) (p.failedMemory image (.differs k)) ∧
      (Memory.wf p.memory = true →
        ∀ a, a ≠ k → memRead (p.failedMemory image (.differs k)) a = memRead written a)) ∧
    (p.slot.isSave = false →
      exec (.saveCompletion none) s = .next s ∧ exec (.saveCompletion (some fault)) s = .next s)

/-- After a full reset, a memory that is bad or does not acknowledge every byte leaves the defaults: CONFIG_BAD, no
head fitted, every recipe slot empty, and the part in STANDBY with its periods and the line-silence timer started. The
model's choices in it: log entries 4 and 5. -/
def Obligations.BadMemoryLoadsTheDefaults : Prop :=
  ∀ (queue : List Instr) (now free : Nat) (first : HeadNo) (pins : Pins) (memory : List Host.Cell) (acknowledged : Bool),
    acknowledged = false ∨ loadMemory memory = none →
    let fresh : Part := { resetPart with
      now := now, firstHead := first, freeCount := free, pins := pins, memory := memory }
    exec (.loadCompletion acknowledged) ⟨queue, fresh⟩ = .next ⟨queue, { fresh with
      phase := .running
      configBad := true
      carousel := { blankCarousel with sampleTimer := .running (now + 10) }
      supply := { blankSupply with demandTimer := .running (now + 1000) }
      control := { blankControl with prod := .standby }
      lineTimer := .running (now + 100) }⟩

/-- A good memory becomes the working copies. The recipe at start is active when its slot is DEFINED, every head
record has its run-time fields reset, and the vent sweep opens the relief valve of each fitted head whose seal input
reads true for 1500 ms; with no such head the part is in STANDBY at once. The model's choices in it: log entries 4, 5
and 16. -/
def Obligations.GoodMemoryIsLoaded : Prop :=
  ∀ (s : State) (l : Loaded), s.part.phase = .loading → s.part.control.prod = .config →
    loadMemory s.part.memory = some l →
    ∃ t : Part, exec (.loadCompletion true) s = .next { s with part := t } ∧
      t.phase = .running ∧ t.configBad = false ∧ t.machine = l.machine ∧ t.recipes = l.recipes ∧
      t.memory = s.part.memory ∧ t.control.activeSlot = startActive l.machine l.recipes ∧
      (∀ h, t.context h = none ∧ t.record h = freshRecord (l.machine.fitted.getLsbD h) l.stored[h] ∧
        t.diag h = blankDiag ∧
        t.entry h = sweepEntry s.part.now (l.machine.fitted.getLsbD h && s.part.pins.seals[h])) ∧
      t.control.prod = (if ventsNeeded l.machine.fitted s.part.pins.seals then .config else .standby)

/-- RESTART, at a free port, is refused out of STANDBY and SAFE and, with BUSY, while a SAVE is pending. Accepted, it
keeps the working copies, the calibration generations, the memory, the pins and the links, drops contexts, records,
counters, faults and the operation in progress, and begins the vent sweep. The model's choices in it: log entries 3 and
16. -/
def Obligations.RestartKeepsTheWorkingCopies : Prop :=
  ∀ s : State, let p := s.part
    p.phase = .running → p.portFree .line →
    (p.control.prod ∉ [Prod.config, .standby, .safe] →
      exec .restart s = .next { s with part := p.refuses 0x09 .wrongState }) ∧
    (p.control.prod ∈ [Prod.standby, .safe] → p.slot.isSave = true →
      exec .restart s = .next { s with part := p.refuses 0x09 .busy }) ∧
    (p.control.prod ∈ [Prod.standby, .safe] → p.slot.isSave = false →
      ∃ t : Part, exec .restart s = .next { s with part := t.reply .line 0x09 answerOk } ∧
        t.now = p.now ∧ t.machine = p.machine ∧ t.configBad = p.configBad ∧ t.recipes = p.recipes ∧
        t.memory = p.memory ∧ t.pins = p.pins ∧ t.links = p.links ∧
        t.carousel = { blankCarousel with sampleTimer := .running (p.now + 10) } ∧
        t.track = [] ∧ t.nextNumber = 0 ∧ t.slot = .empty ∧ t.coilTest = .idle ∧ t.supply.record = none ∧
        t.control.firstCause = none ∧ t.control.causes = 0 ∧ t.control.admitted = 0 ∧ t.control.discharged = 0 ∧
        t.control.activeSlot = startActive p.machine p.recipes ∧
        (∀ h, t.context h = none ∧ t.diag h = blankDiag ∧
          t.record h = { freshRecord (p.fitted h) (p.record h).stored with gen := (p.record h).gen } ∧
          t.entry h = sweepEntry p.now (p.fitted h && p.pins.seals[h])) ∧
        t.control.prod = (if ventsNeeded p.machine.fitted p.pins.seals then .config else .standby))

/-- WRITE MACHINE is refused out of STANDBY, and with RANGE when a field is not valid. Accepted, the new configuration
replaces the working copy and CONFIG_BAD becomes false; heads that leave the fitted set lose context and entry and are
OUT, heads that join begin in REST; a new geometry makes the position 0 and unreferenced, and the same one only cuts
the lag to the reverse limit; stored head fields, recipes and the memory stay. The model's choices in it: log entries
3, 9 and 20. -/
def Obligations.WriteMachineReplacesTheConfiguration : Prop :=
  ∀ (s : State) (f : MachineFields), let p := s.part
    p.takes →
    (p.control.prod ≠ .standby → exec (.writeMachine f) s = .next { s with part := p.refuses 0x14 .wrongState }) ∧
    (p.control.prod = .standby → machineOfFields f = none →
      exec (.writeMachine f) s = .next { s with part := p.refuses 0x14 .range }) ∧
    ∀ m, p.control.prod = .standby → machineOfFields f = some m →
      ∃ t : Part, exec (.writeMachine f) s = .next { s with part := t.reply .line 0x14 answerOk } ∧
        t.machine = m ∧ t.configBad = false ∧ t.recipes = p.recipes ∧ t.memory = p.memory ∧
        t.control.prod = .standby ∧ t.control.activeSlot = p.control.activeSlot ∧
        t.carousel = (if sameGeometry p.machine m then { p.carousel with lag := min p.carousel.lag m.reverseLimit }
          else { p.carousel with position := 0, lag := 0, zero := none }) ∧
        dischargedCount t.track ≤ m.inspection + 12 ∧
        ∀ h, (t.record h).stored = (p.record h).stored ∧ (t.record h).gen = (p.record h).gen ∧
          (p.fitted h = true → m.fitted.getLsbD h = false →
            t.context h = none ∧ t.entry h = blankEntry ∧ (t.record h).method = .out) ∧
          (p.fitted h = false → m.fitted.getLsbD h = true →
            t.context h = none ∧ t.entry h = blankEntry ∧ t.diag h = blankDiag ∧
            (t.record h).method = if (p.record h).stored.inService then .flow else .out)

/-! ### The Carousel Tracker -/

/-- Steps that advance no furthest forward position. A forward step with a lag takes 1 from it, a backward step below the
reverse limit adds 1, and a backward step at the limit keeps it and, in PRODUCTION, HOLD or STOPPING, raises REVERSE. Each
sets direction, speed count and standstill. A step of either direction out of standstill ends a CAL DOSE with MOTION,
its valves closed, and is then the step of a part without the dose. A change of both channels, and every edge before
the load's completion, changes the pins alone. The order of the channel levels in forward motion is that of log entry
7. -/
def Obligations.StepsBehindTheFurthestPosition : Prop :=
  (quadrature false false true false = some .forward ∧ quadrature true false true true = some .forward ∧
    quadrature true true false true = some .forward ∧ quadrature false true false false = some .forward) ∧
  ∀ (s : State) (a b infeed : Bool) (k : CalRecord),
    let p := s.part
    let c := p.carousel
    let ended := { p.modHead k.head fun x => { x with
        entry := { p.entry k.head with gas := false, fast := false, fine := false } } with
      slot := .finished (.calAborted .motion k.counted k.after (p.now - k.start)) }
    let pins := { p.pins with chanA := a, chanB := b, infeed := infeed }
    let up := if c.position + 1 = p.machine.nInc then 0 else c.position + 1
    let down := if c.position = 0 then p.machine.nInc - 1 else c.position - 1
    let moved := fun (d : Direction) (net : Int) (position lag : Nat) => ({ p with
      pins := pins
      carousel := { c with
        direction := some d, net := net, position := position, lag := lag, standstill := false,
        standTimer := .running (p.now + 100) } } : Part)
    let step := quadrature p.pins.chanA p.pins.chanB a b
    (p.phase ≠ .running ∨ step = none → exec (.encoderStep a b infeed) s = .next { s with part := { p with pins := pins } }) ∧
    (p.phase = .running → c.standstill = true → p.slot = .pendingCal k → step ≠ none →
      exec (.encoderStep a b infeed) s = exec (.encoderStep a b infeed) { s with part := ended }) ∧
    (p.phase = .running → c.standstill = false ∨ p.slot.isCal = false →
      (step = some .forward → 0 < c.lag →
        exec (.encoderStep a b infeed) s = .next { s with part := moved .forward (c.net + 1) up (c.lag - 1) }) ∧
      (step = some .backward → c.lag < p.machine.reverseLimit →
        exec (.encoderStep a b infeed) s = .next { s with part := moved .backward (c.net - 1) down (c.lag + 1) }) ∧
      (step = some .backward → p.machine.reverseLimit ≤ c.lag →
        p.control.prod ∈ [Prod.config, .standby, .drain, .safe] →
        exec (.encoderStep a b infeed) s = .next { s with part := moved .backward (c.net - 1) down c.lag }) ∧
      (step = some .backward → p.machine.reverseLimit ≤ c.lag →
        p.control.prod ∈ [Prod.production, .hold, .stopping] →
        ∃ t : Part, exec (.encoderStep a b infeed) s = .next { s with part := t } ∧
          t.carousel = (moved .backward (c.net - 1) down c.lag).carousel ∧ t.control.prod = .safe ∧
          t.control.firstCause = some .reverse ∧ t.control.causes = addCause 0 .reverse))

/-- A forward step with no lag advances the furthest forward position. A fitted head whose furthest angle is then that
of the boundary its pointer names crosses it, and the pointer moves to the next boundary; when that lies at the same
angle, it is crossed too. With no head at its boundary, or no pointers, the position alone moves on. The model's
choices in it: log entries 7 and 9. -/
def Obligations.ForwardStepCrossesBoundaries : Prop :=
  ∀ (s : State) (a b infeed : Bool),
    let p := s.part
    let c := p.carousel
    let q := { p with
      pins := { p.pins with chanA := a, chanB := b, infeed := infeed }
      carousel := { c with
        direction := some .forward, net := c.net + 1
        position := if c.position + 1 = p.machine.nInc then 0 else c.position + 1
        standstill := false, standTimer := .running (p.now + 100) } }
    let due := fun (h : HeadNo) (x : Boundary) =>
      q.fitted h = true ∧ (q.head h).pointer = some x ∧ q.furthestAngle h = boundaryAngle q.machine x
    p.phase = .running → quadrature p.pins.chanA p.pins.chanB a b = some .forward → c.lag = 0 →
    c.standstill = false ∨ p.slot.isCal = false →
    (q.pointersLive = false ∨ (∀ h x, ¬ due h x) → exec (.encoderStep a b infeed) s = .next { s with part := q }) ∧
    ∀ (h : HeadNo) (x : Boundary), q.pointersLive = true → due h x → (∀ g y, g ≠ h → ¬ due g y) →
      let crossed := (q.crossing h x).modHead h fun y => { y with pointer := some x.next }
      (boundaryAngle q.machine x.next ≠ boundaryAngle q.machine x →
        exec (.encoderStep a b infeed) s = .next { s with part := crossed }) ∧
      (boundaryAngle q.machine x.next = boundaryAngle q.machine x →
        let again := (crossed.crossing h x.next).modHead h fun y => { y with pointer := some x.next.next }
        exec (.encoderStep a b infeed) s = .next { s with part := again })

/-- A zero mark is taken in forward motion alone. The first one references the position and aims every pointer at the
first boundary beyond its head's furthest angle. Later ones set the position to 0: within 4 increments it is matched
and the check state is CLEAR; a mismatch makes it PENDING, and a second mismatch raises ZERO_LOST. The lag is kept. A
position of half a revolution or less goes back at once with no crossing. A larger one goes forward one increment at a
time: at each, a head whose furthest angle is that of the boundary its pointer names crosses it, and one that shares
its angle with the next crosses both. The model's choices in it: log entries 8 and 9. -/
def Obligations.ZeroMarkCorrectsThePosition : Prop :=
  (∀ (m : MachineConfig) (angle : Nat), sectorOk m = true →
    (aimAt m angle ≠ .infeed → angle < boundaryAngle m (aimAt m angle)) ∧
    ∀ y, angle < boundaryAngle m y → aimAt m angle ≠ .infeed ∧ boundaryAngle m (aimAt m angle) ≤ boundaryAngle m y) ∧
  (∀ (p : Part) (k : Nat),
    let c := p.carousel
    let q := { p with carousel := { c with
      position := if c.position + 1 = p.machine.nInc then 0 else c.position + 1 } }
    let due := fun (h : HeadNo) (x : Boundary) =>
      q.fitted h = true ∧ (q.head h).pointer = some x ∧ q.furthestAngle h = boundaryAngle q.machine x
    correctForward 0 p = p ∧ correctForward (k + 1) p = correctForward k (correctForward 1 p) ∧
    (q.pointersLive = false ∨ (∀ h x, ¬ due h x) → correctForward 1 p = q) ∧
    ∀ (h : HeadNo) (x : Boundary), q.pointersLive = true → due h x → (∀ g y, g ≠ h → ¬ due g y) →
      let crossed := (q.crossing h x).modHead h fun y => { y with pointer := some x.next }
      (boundaryAngle q.machine x.next ≠ boundaryAngle q.machine x → correctForward 1 p = crossed) ∧
      (boundaryAngle q.machine x.next = boundaryAngle q.machine x → correctForward 1 p =
        (crossed.crossing h x.next).modHead h fun y => { y with pointer := some x.next.next })) ∧
  ∀ (s : State) (infeed : Bool),
    let p := s.part
    let c := p.carousel
    let n := p.machine.nInc
    let q := { p with pins := { p.pins with infeed := infeed } }
    let at0 := fun (z : ZeroCheck) => ({ c with position := 0, zero := some z } : Carousel)
    let forward := correctForward (n - c.position) q
    (p.phase ≠ .running ∨ c.direction ≠ some .forward → exec (.zeroMarkArrival infeed) s = .next { s with part := q }) ∧
    (p.phase = .running → c.direction = some .forward →
      (c.zero = none →
        exec (.zeroMarkArrival infeed) s = .next { s with part := { q with carousel := at0 .clear }.aimPointers }) ∧
      (c.zero ≠ none → c.position ≤ 4 →
        exec (.zeroMarkArrival infeed) s = .next { s with part := { q with carousel := at0 .clear } }) ∧
      (c.zero ≠ none → 4 < c.position → n - 4 ≤ c.position → c.position < n →
        ∃ t : Part, exec (.zeroMarkArrival infeed) s = .next { s with part := t } ∧ t.carousel = at0 .clear ∧
          t = { forward with carousel := at0 .clear }) ∧
      (c.zero = some .clear → 4 < c.position → c.position < n - 4 →
        ∃ t : Part, exec (.zeroMarkArrival infeed) s = .next { s with part := t } ∧ t.carousel = at0 .pending ∧
          (c.position ≤ n / 2 → t = { q with carousel := at0 .pending }) ∧
          (n / 2 < c.position → t = { forward with carousel := at0 .pending })) ∧
      (c.zero = some .pending → 4 < c.position → c.position < n - 4 →
        ∃ t : Part, exec (.zeroMarkArrival infeed) s = .next { s with part := t } ∧ t.carousel = at0 .pending ∧
          t = Part.raiseSafe .zeroLost
            { (if c.position ≤ n / 2 then q else forward) with carousel := at0 .pending } ∧
          (p.control.prod ∉ [Prod.config, .safe] →
            t.control.prod = .safe ∧ t.control.firstCause = some .zeroLost ∧
              t.control.causes = addCause 0 .zeroLost)))

/-- A speed sample moves the net count into the history of eight and starts the next 10 ms; the speed is the sum of
the eight samples times 25/2, rounded to nearest, halves away from zero. The standstill expiry sets the indication
true. A timer that does not run expires without effect. The model's choices in it: log entries 2 and 27. -/
def Obligations.SpeedSamplesAndStandstill : Prop :=
  (∀ c : Carousel,
    let n := c.history.toList.sum * 25
    (2 * c.speed - n).natAbs ≤ 1 ∧ n.natAbs ≤ (2 * c.speed).natAbs) ∧
  ∀ (s : State) (due : Nat),
    let p := s.part
    let c := p.carousel
    (c.sampleTimer = .stopped → exec .speedSample s = .next s) ∧
    (c.sampleTimer = .running due →
      ∃ history : Vector Int 8, history.toList = c.history.toList.drop 1 ++ [c.net] ∧
        exec .speedSample s = .next { s with part := { p with
          now := max p.now due
          carousel := { c with history := history, net := 0, sampleTimer := .running (due + 10) } } }) ∧
    (c.standTimer = .stopped → exec .standstillExpiry s = .next s) ∧
    (c.standTimer = .running due →
      exec .standstillExpiry s = .next { s with part := { p with
        now := max p.now due
        carousel := { c with standstill := true, standTimer := .stopped } } })

/-! ### The timers of a head -/

/-- At the pressurise expiry the head waits for its fill start, unless the fill-start crossing has come and the
fill-end crossing has not: then HOLD and the fill inhibit causes refuse the fill, in this order, and otherwise the
valves of the dose open and its counts begin. The model's choices in it: log entries 2 and 13. -/
def Obligations.PressuriseExpiryStartsOrWaits : Prop :=
  ∀ (s : State) (h : HeadNo) (due : Nat) (c : Context),
    let p := s.part
    let e := p.entry h
    let q := { p with now := max p.now due }
    let refused := fun f => q.modHead h fun x => { x with
      entry := { e with state := .waitRelief, timer := .stopped, gas := false }
      context := some { c with flags := addFlag c.flags f } }
    let both := decide (c.method = .timed) || decide (0 < c.f)
    (e.state ≠ .pressurize ∨ e.timer = .stopped → exec (.pressuriseExpiry h) s = .next s) ∧
    (e.state = .pressurize → e.timer = .running due → p.context h = some c →
      (e.fillStartNoted = false ∨ e.fillEndNoted = true →
        exec (.pressuriseExpiry h) s =
          .next { s with part := q.modHead h fun x => { x with
            entry := { e with state := .waitFill, timer := .stopped } } }) ∧
      (e.fillStartNoted = true → e.fillEndNoted = false →
        (p.control.prod = .hold → exec (.pressuriseExpiry h) s = .next { s with part := refused .noFillInHold }) ∧
        (p.control.prod ≠ .hold → p.inhibited = true →
          exec (.pressuriseExpiry h) s = .next { s with part := refused .fillInhibited }) ∧
        (p.control.prod ≠ .hold → p.inhibited = false →
          exec (.pressuriseExpiry h) s = .next { s with part := q.modHead h fun x => { x with
            entry := { e with
              state := if both then .fillFast else .fillFine, timer := .stopped, fast := both, fine := true }
            context := some { c with
              filling := true
              fillStart := some q.now
              openTimer := if c.method = .timed then .running (q.now + c.openTime) else .stopped
              silenceTimer := if c.method = .timed then .stopped else .running (q.now + p.machine.meterSilence) }
            diag := if x.runaway.count ≤ p.machine.runawayLimit then x.diag.fall .meterRunaway else x.diag
            runaway := ⟨0, false, true⟩ } })))

/-- At the settle expiry the head waits for its relief and the after-run count closes. A complete FLOW dose without
WARMUP and METER_LOST whose calibration generation is still the head's teaches the head: the after-run moves a quarter
of the way to the measured one unless that is an outlier, and clears AFTERRUN_OUTLIER; the third outlier in a row, and
each one after it, is a detection of AFTERRUN_OUTLIER, whose rise is decided out of the warm-up, and a first or second
one leaves that kind. The flow rate moves an eighth of the way when the fast phase lasted 100 ms; a shorter one leaves
rate and deviation window. The rate's deviant bit joins the window as its newest, the oldest of a full one leaving. More
than half of N deviant entries make RATE_DEVIATION live, a rise that is decided, against the rung the outlier left, and
may empty the window by a move to TIMED; otherwise it is not live. The speed advisory is recomputed with the rate. The
rungs are said for the action selects that AFTERRUN_OUTLIER may have (R120). The model's choices in it: log entry 2. -/
def Obligations.SettleExpiryTeachesTheHead : Prop :=
  ∀ (s : State) (h : HeadNo) (due : Nat) (c : Context),
    let p := s.part
    let e := p.entry h
    let x := p.record h
    let q := { p with now := max p.now due }
    let closed := { c with afterState := .closed, judgement := c.judge }
    let waiting := { e with state := .waitRelief, timer := .stopped }
    (e.state ≠ .settle ∨ e.timer = .stopped → exec (.settleExpiry h) s = .next s) ∧
    (e.state = .settle → e.timer = .running due → p.context h = some c →
      (c.gives = false ∨ c.snap.map (·.gen) ≠ some x.gen →
        exec (.settleExpiry h) s =
          .next { s with part := q.modHead h fun y => { y with entry := waiting, context := some closed } }) ∧
      ∀ sn : Snapshot, c.gives = true → c.snap = some sn → sn.gen = x.gen →
        let measured := roundNat (c.after * 10000) sn.k
        let far := p.machine.outlierLimit < distance measured x.stored.a
        let run := min 3 (x.outlierRun + 1)
        let first := if far ∧ run = 3 then p.rungAfter h .afterrunOutlier else x
        let onRung := fun (t : Part) (y : HeadRecord) =>
          (t.record h).method = y.method ∧ (t.record h).cause = y.cause ∧ (t.record h).promo = y.promo
        let permits := far → actionFor p.machine .afterrunOutlier ≠ .degrade
        ∃ t : Part, exec (.settleExpiry h) s = .next { s with part := t } ∧
          t.entry h = waiting ∧ t.context h = some closed ∧ (∀ g, g ≠ h → t.head g = p.head g) ∧
          (t.record h).stored.k = x.stored.k ∧ (t.record h).stored.t = x.stored.t ∧ (t.record h).gen = x.gen ∧
          (distance measured x.stored.a ≤ p.machine.outlierLimit →
            (t.record h).stored.a = (limitInt 0 400 (x.stored.a + roundInt ((measured : Int) - x.stored.a) 4)).toNat ∧
            (t.record h).outlierRun = 0 ∧ (t.diag h).isLive .afterrunOutlier = false) ∧
          (far → (t.record h).stored.a = x.stored.a ∧ (t.record h).outlierRun = run) ∧
          (far → run ≠ 3 → (t.diag h).isLive .afterrunOutlier = (p.diag h).isLive .afterrunOutlier) ∧
          (far → run = 3 → (t.diag h).isLive .afterrunOutlier = true ∧
            ((p.diag h).isLive .afterrunOutlier = false → (t.diag h).isHeld .afterrunOutlier = true)) ∧
          (permits → first.method ≠ x.method → t.advisory = t.computeAdvisory) ∧
          (c.f = 0 ∨ c.fillStart = none ∨ c.fastClose = none → (t.record h).stored.r = x.stored.r ∧
            (permits → onRung t first ∧ (t.diag h).window = (p.diag h).window ∧
              (t.diag h).isLive .rateDeviation = (p.diag h).isLive .rateDeviation)) ∧
          ∀ t0 t1, c.fillStart = some t0 → c.fastClose = some t1 → 0 < c.f →
            let rate := roundNat (c.f * 10000000) (sn.k * (t1 - t0))
            let old := (p.diag h).window
            let joined := old.drop (old.length + 1 - p.machine.window) ++
              [decide (sn.dev * sn.r < distance rate sn.r * 100)]
            let deviates := p.machine.window < 2 * (joined.filter id).length
            let y := if (p.diag h).isLive .rateDeviation = true ∨ 0 < x.warm then first else
              first.decided (actionFor p.machine .rateDeviation) (p.timedOk h) .rateDeviation
            (t1 - t0 < 100 → (t.record h).stored.r = x.stored.r ∧
              (¬ far → t.diag h = (p.diag h).fall .afterrunOutlier) ∧
              (permits → onRung t first ∧ (t.diag h).window = old ∧
                (t.diag h).isLive .rateDeviation = (p.diag h).isLive .rateDeviation)) ∧
            (100 ≤ t1 - t0 →
              (t.record h).stored.r = (limitInt 50 5000 (x.stored.r + roundInt ((rate : Int) - x.stored.r) 8)).toNat ∧
              t.advisory = t.computeAdvisory ∧
              (permits → ¬ deviates → (t.diag h).window = joined ∧ (t.diag h).isLive .rateDeviation = false ∧
                onRung t first) ∧
              (permits → deviates →
                ((p.diag h).isLive .rateDeviation = false → (t.diag h).isHeld .rateDeviation = true) ∧ onRung t y ∧
                (y.method = .timed ∧ first.method ≠ .timed →
                  (t.diag h).window = [] ∧ (t.diag h).isLive .rateDeviation = false) ∧
                (y.method ≠ .timed ∨ first.method = .timed →
                  (t.diag h).window = joined ∧ (t.diag h).isLive .rateDeviation = true))))

/-- At the relief expiry the relief valve closes, the note vented becomes yes and the head enters WAIT_DISCHARGE;
nothing else changes but that the clock has reached the expiry. In another state, or with the timer stopped, nothing
happens. The model's choices in it: log entry 2. -/
def Obligations.ReliefExpiryVentsTheHead : Prop :=
  ∀ (s : State) (h : HeadNo) (due : Nat),
    let p := s.part
    let e := p.entry h
    let q := { p with now := max p.now due }
    (e.state = .relief → e.timer = .running due →
      exec (.reliefExpiry h) s = .next { s with part := q.modHead h fun x => { x with
        entry := { e with relief := false, vented := true, timer := .stopped, state := .waitDischarge } } }) ∧
    (e.state ≠ .relief ∨ e.timer = .stopped → exec (.reliefExpiry h) s = .next s)

/-- At the vent expiry the relief valve closes and the head is in REST. In CONFIG, when no head remains in VENT, the
sweep is complete: the part enters STANDBY and the line-silence timer starts, and a silent module then takes it to
SAFE with HEAD_BUS. The model's choices in it: log entry 2. -/
def Obligations.VentExpiryEndsTheSweep : Prop :=
  ∀ (s : State) (h : HeadNo) (due : Nat),
    let p := s.part
    let e := p.entry h
    let q := { p with now := max p.now due }.modHead h fun x => { x with
      entry := { e with relief := false, timer := .stopped, state := .rest } }
    (e.state ≠ .vent ∨ e.timer = .stopped → exec (.ventExpiry h) s = .next s) ∧
    (e.state = .vent → e.timer = .running due →
      (p.control.prod ≠ .config ∨ p.phase ≠ .running ∨ (∃ g, g ≠ h ∧ (p.entry g).state = .vent) →
        exec (.ventExpiry h) s = .next { s with part := q }) ∧
      (p.control.prod = .config → p.phase = .running → (∀ g, g ≠ h → (p.entry g).state ≠ .vent) →
        (p.anySilent = false → (∀ g, (p.diag g).mark = false) →
          exec (.ventExpiry h) s = .next { s with part := { q with
            control := { p.control with prod := .standby, cleanOpened := false }
            lineTimer := .running (q.now + p.machine.lineSilence) } }) ∧
        (p.anySilent = true →
          ∃ t : Part, exec (.ventExpiry h) s = .next { s with part := t } ∧ t.control.prod = .safe ∧
            t.control.firstCause = some .headBus ∧ t.control.causes = addCause 0 .headBus)))

/-- A coil test's report is recorded while the test runs and ignored otherwise. At the expiry the head returns to REST
with no outcome while a report is missing, and with the clean valves opened when CLEAN OPEN waited for it; four GOOD
reports clear both coil kinds and remove the mark; any other outcome makes the kind of each valve reported OPEN or
SHORT live. The model's choices in it: log entries 2, 16, 21 and 31. -/
def Obligations.CoilTestsEndInTheirOutcome : Prop :=
  ∀ (s : State) (h : HeadNo) (v : Valve) (r : TestReport) (due : Nat) (a b c d : TestReport),
    let p := s.part
    let e := p.entry h
    let q := p.moduleAnswers (moduleOf h)
    let rest := { e with state := .rest, timer := .stopped, reports := noReports }
    let now := max p.now due
    (p.phase ≠ .inReset → p.fitted h = true → e.state = .testing →
      exec (.coilTestReport h v r) s =
        .next { s with part := q.modHead h fun x => { x with entry := { e with reports := e.reports.set v r } } }) ∧
    (p.phase ≠ .inReset → p.fitted h = false ∨ e.state ≠ .testing →
      exec (.coilTestReport h v r) s = .next { s with part := q }) ∧
    (e.state ≠ .testing ∨ e.timer = .stopped → exec (.coilTestExpiry h) s = .next s) ∧
    (e.state = .testing → e.timer = .running due → e.reports.all = none →
      let opens := e.cleanWaiting && p.control.cleanOpened && decide (p.control.prod = .drain)
      exec (.coilTestExpiry h) s =
        .next { s with part := { p with now := now }.modHead h fun x => { x with
          entry := if opens then { rest with gas := true, fast := true, fine := true, cleanWaiting := false } else rest } }) ∧
    (e.state = .testing → e.timer = .running due → e.cleanWaiting = false →
      e.reports = ⟨some a, some b, some c, some d⟩ →
      ∃ t : Part, exec (.coilTestExpiry h) s = .next { s with part := t } ∧
        t.entry h = rest ∧ (∀ g, g ≠ h → t.head g = p.head g) ∧ t.context h = p.context h ∧ (t.diag h).mark = false ∧
        ((t.diag h).isLive .coilOpen =
          (decide (.openLoad ∈ [a, b, c, d]) || (p.diag h).isLive .coilOpen && decide (.short ∈ [a, b, c, d]))) ∧
        ((t.diag h).isLive .coilShort =
          (decide (.short ∈ [a, b, c, d]) || (p.diag h).isLive .coilShort && decide (.openLoad ∈ [a, b, c, d]))) ∧
        (t.diag h).openDetail = (p.diag h).openDetail |||
          bitsOf 4 [(Valve.gas, a), (.fast, b), (.fine, c), (.relief, d)] (valveBit ·.1) (·.2 == .openLoad) ∧
        (t.diag h).shortDetail = (p.diag h).shortDetail |||
          bitsOf 4 [(Valve.gas, a), (.fast, b), (.fine, c), (.relief, d)] (valveBit ·.1) (·.2 == .short))

/-- A pulse on a filling FLOW dose adds 1 to the fill count and restarts the meter silence timer. The pulse that
reaches the fine count closes the fast valve, and the one that reaches the close count closes every valve of the dose:
COMPLETE, into SETTLE, with the after-run count open. A first pulse, whatever else it reaches, reports the meter alive
when it comes within the meter silence time of the fill start, which clears METER_SILENT, and not when it comes later.
The model's choices in it: log entry 16. -/
def Obligations.PulsesEndTheFlowDose : Prop :=
  ∀ (s : State) (h : HeadNo) (c : Context),
    let p := s.part
    let e := p.entry h
    let n := min 16777215 (c.fill + 1)
    let q := (p.moduleAnswers (moduleOf h)).modHead h fun x => { x with demandCount := x.demandCount + 1 }
    let first := decide (c.fill = 0) && c.fillStart.any fun t => decide (p.now - t ≤ p.machine.meterSilence)
    let heard := fun (d : Diag) => if first then d.fall .meterSilent else d
    let counted := { c with
      fill := n, silenceTimer := .running (p.now + p.machine.meterSilence), alive := c.alive || first }
    p.phase ≠ .inReset → p.fitted h = true → p.control.prod ∉ [Prod.config, .drain] → p.calOn h = none →
    p.context h = some c → c.filling = true → c.used = .flow →
    (n ≠ c.c → n ≠ c.f →
      exec (.flowmeterPulse h) s = .next { s with part := q.modHead h fun x => { x with
        context := some counted, diag := heard x.diag } }) ∧
    (n ≠ c.c → n = c.f → e.state = .fillFast →
      exec (.flowmeterPulse h) s = .next { s with part := q.modHead h fun x => { x with
        entry := { e with fast := false, state := .fillFine }
        context := some { counted with fastClose := some p.now }
        diag := heard x.diag } }) ∧
    (n = c.c → e.state = .fillFast ∨ e.state = .fillFine →
      exec (.flowmeterPulse h) s = .next { s with part := q.modHead h fun x => { x with
        entry := { e with
          gas := false, fast := false, fine := false, state := .settle, timer := .running (p.now + c.settleTime) }
        context := some { counted with
          fastClose := if n = c.f then some p.now else c.fastClose
          filling := false, openTimer := .stopped, silenceTimer := .stopped, status := .complete,
          afterState := .counting }
        diag := heard x.diag } })

/-- The other places of a pulse: none in CONFIG, for a head that is not fitted, or in a full reset; the drain pulse
total in DRAIN; the shadow count of a dose that is timed, whose first pulse reports the meter of a TIMED context alive
when it comes while the dose fills and within the meter silence time; the after-run count while it is open; and the
runaway count, whose first pulse above the limit in a revolution makes METER_RUNAWAY live, a rise that its action
select decides out of the warm-up. Every pulse but an ignored one enters the demand. The model's choices in it: log
entries 13 and 16. -/
def Obligations.PulsesAreCountedInOnePlace : Prop :=
  ∀ (s : State) (h : HeadNo) (c : Context),
    let p := s.part
    let q := p.moduleAnswers (moduleOf h)
    let counted := fun f => q.modHead h fun x => f { x with demandCount := x.demandCount + 1 }
    (p.phase = .inReset → exec (.flowmeterPulse h) s = .next s) ∧
    (p.phase ≠ .inReset → p.fitted h = false ∨ p.control.prod = .config →
      exec (.flowmeterPulse h) s = .next { s with part := q }) ∧
    (p.phase ≠ .inReset → p.fitted h = true → p.control.prod = .drain →
      exec (.flowmeterPulse h) s = .next { s with part := counted fun x => { x with
        record := { x.record with drainPulses := min 4294967295 (x.record.drainPulses + 1) } } }) ∧
    (p.phase ≠ .inReset → p.fitted h = true → p.control.prod ∉ [Prod.config, .drain] → p.calOn h = none →
      (p.context h = some c → c.used = .flow → c.filling = false → c.afterState = .counting →
        exec (.flowmeterPulse h) s = .next { s with part := counted fun x => { x with
          context := some { c with after := min 16777215 (c.after + 1) } } }) ∧
      (p.context h = some c → c.used = .timed → c.filling = true ∨ c.afterState = .counting →
        let first := decide (c.method = .timed) && c.filling && decide (c.shadow = 0) &&
          c.fillStart.any fun t => decide (p.now - t ≤ p.machine.meterSilence)
        exec (.flowmeterPulse h) s = .next { s with part := counted fun x => { x with
          context := some { c with shadow := min 16777215 (c.shadow + 1), alive := c.alive || first }
          diag := if first then x.diag.fall .meterSilent else x.diag } }) ∧
      (p.context h = none ∨ (∃ d, p.context h = some d ∧ (d.used = .none ∨ d.filling = false ∧ d.afterState ≠ .counting)) →
        let count := min 16777215 ((p.head h).runaway.count + 1)
        let exceeds := decide (p.machine.runawayLimit < count)
        let runaway := { (p.head h).runaway with count := count, reported := (p.head h).runaway.reported || exceeds }
        (exceeds = false ∨ (p.head h).runaway.reported = true →
          exec (.flowmeterPulse h) s = .next { s with part := counted fun x => { x with runaway := runaway } }) ∧
        (exceeds = true → (p.head h).runaway.reported = false →
          ∃ t : Part, exec (.flowmeterPulse h) s = .next { s with part := t } ∧ (t.head h).runaway = runaway ∧
            (t.diag h).isLive .meterRunaway = true ∧
            ((p.diag h).isLive .meterRunaway = false → (t.diag h).isHeld .meterRunaway = true) ∧
            t.context h = p.context h ∧ t.entry h = p.entry h ∧ (∀ g, g ≠ h → t.head g = p.head g) ∧
            t.record h = p.rungAfter h .meterRunaway)))

/-- A TIMED dose ends complete when its timed open timer expires in FILL_FAST or FILL_FINE. A meter silence of a FLOW
dose makes METER_SILENT live and switches the dose to time: METER_LOST, the fill count carried into the shadow count,
and the completion at the fill start plus t, at once when that time has passed; out of the warm-up the action select of
METER_SILENT decides the head's rung. The model's choices in it: log entry 2. -/
def Obligations.DosesEndByTime : Prop :=
  ∀ (s : State) (h : HeadNo) (c : Context) (due : Nat),
    let p := s.part
    let e := p.entry h
    let q := { p with now := max p.now due }
    let fills := e.state = .fillFast ∨ e.state = .fillFine
    let settling := { e with
      gas := false, fast := false, fine := false, state := .settle, timer := .running (q.now + c.settleTime) }
    let complete := fun (d : Context) => { d with
      filling := false, openTimer := .stopped, silenceTimer := .stopped, status := .complete, afterState := .counting }
    (p.context h = none → exec (.timedOpenExpiry h) s = .next s ∧ exec (.meterSilenceExpiry h) s = .next s) ∧
    (p.context h = some c →
      (c.openTimer = .stopped → exec (.timedOpenExpiry h) s = .next s) ∧
      (c.openTimer = .running due → fills →
        exec (.timedOpenExpiry h) s =
          .next { s with part := q.modHead h fun x => { x with entry := settling, context := some (complete c) } }) ∧
      (c.openTimer = .running due → ¬ fills →
        exec (.timedOpenExpiry h) s =
          .next { s with part := q.modHead h fun x => { x with context := some { c with openTimer := .stopped } } }) ∧
      (c.filling = false ∨ c.silenceTimer = .stopped → exec (.meterSilenceExpiry h) s = .next s) ∧
      (c.filling = true → c.silenceTimer = .running due → fills →
        let lost := { c with
          used := .timed, flags := addFlag c.flags .meterLost, shadow := c.fill, silenceTimer := .stopped }
        let close := c.fillStart.getD 0 + c.openTime
        ∃ t : Part, exec (.meterSilenceExpiry h) s = .next { s with part := t } ∧ t.now = q.now ∧
          (t.diag h).isLive .meterSilent = true ∧
          ((p.diag h).isLive .meterSilent = false → (t.diag h).isHeld .meterSilent = true) ∧
          (∀ g, g ≠ h → t.head g = p.head g) ∧
          (q.now < close → t.entry h = e ∧ t.context h = some { lost with openTimer := .running close }) ∧
          (close ≤ q.now → t.entry h = settling ∧ t.context h = some (complete lost)) ∧
          t.record h = p.rungAfter h .meterSilent))

/-- A seal drop from PRESSURIZE to WAIT_RELIEF closes the gas and liquid valves and opens the relief valve for the
context's relief time; SEAL_LOST is added and live, a fill is aborted and a settle's after-run discarded. In RELIEF it
adds SEAL_LOST alone, in every other state and for a head not fitted it changes the pin alone, and so does a rise
everywhere. The model's choices in it: log entries 14, 15 and 16. -/
def Obligations.SealDropRelievesTheHead : Prop :=
  ∀ (s : State) (h : HeadNo) (c : Context),
    let p := s.part
    let e := p.entry h
    let q := (p.setSeal h false).moduleAnswers (moduleOf h)
    p.phase ≠ .inReset →
    exec (.sealInputRise h) s = .next { s with part := (p.setSeal h true).moduleAnswers (moduleOf h) } ∧
    (p.fitted h = false ∨ e.state ∈ [HeadState.rest, .testing, .skip, .sealing, .waitDischarge, .vent] →
      exec (.sealDrop h) s = .next { s with part := q }) ∧
    (p.fitted h = true → p.context h = some c → e.state = .relief ∨
        e.state ∈ [HeadState.pressurize, .waitFill, .fillFast, .fillFine, .settle, .waitRelief] →
      ∃ t : Part, exec (.sealDrop h) s = .next { s with part := t } ∧ t.pins = q.pins ∧ t.modules = q.modules ∧
        (∀ g, g ≠ h → t.head g = p.head g) ∧
        (t.diag h).isLive .sealLost = true ∧
        ((p.diag h).isLive .sealLost = false → (t.diag h).isHeld .sealLost = true) ∧
        (e.state = .relief → t.entry h = e ∧ t.context h = some { c with flags := addFlag c.flags .sealLost }) ∧
        (e.state ≠ .relief →
          t.entry h = { e with
            gas := false, fast := false, fine := false, relief := true, state := .relief,
            timer := .running (p.now + c.reliefTime) } ∧
          t.context h = some (
            let flagged := { c with flags := addFlag c.flags .sealLost }
            if e.state = .fillFast ∨ e.state = .fillFine then
              { flagged with filling := false, openTimer := .stopped, silenceTimer := .stopped, status := .aborted }
            else if e.state = .settle then { flagged with afterState := .discarded } else flagged)))

/-- Every coil report of a fitted head makes its kind live and held and adds the valve to its detail; out of the warm-up
a rise puts the head on the rung that the kind's action select decides. On an open gas, fast or fine valve from
PRESSURIZE to FILL_FINE the report also relieves the head with VALVE_FAULT and aborts a fill; on the relief valve in
RELIEF it withdraws the relief without vented, and in VENT it ends the vent in REST, the last one ending the sweep; on a
valve no longer open, and in REST and SKIP out of DRAIN, it leaves the head alone. On a valve that a CAL DOSE holds open
it ends the dose with COIL, its valves closed, and is then the report of a part without the dose. The model's choices in
it: log entry 16. -/
def Obligations.CoilReportsAreDetections : Prop :=
  ∀ (s : State) (h : HeadNo) (v : Valve) (f : CoilFault) (c : Context) (k : CalRecord),
    let p := s.part
    let e := p.entry h
    let q := p.moduleAnswers (moduleOf h)
    let ended := { p.modHead h fun x => { x with entry := { e with gas := false, fast := false, fine := false } } with
      slot := .finished (.calAborted .coil k.counted k.after (p.now - k.start)) }
    let found := fun (t : Part) => t.modules = q.modules ∧
      (t.diag h).isLive (coilKind f) = true ∧ (t.diag h).openDetail =
        (if f = .openLoad then withBit (p.diag h).openDetail (valveBit v) else (p.diag h).openDetail) ∧
      (t.diag h).shortDetail =
        (if f = .short then withBit (p.diag h).shortDetail (valveBit v) else (p.diag h).shortDetail) ∧
      ((p.diag h).isLive (coilKind f) = false → (t.diag h).isHeld (coilKind f) = true) ∧
      t.record h = p.rungAfter h (coilKind f)
    p.phase ≠ .inReset →
    (p.fitted h = false → exec (.coilReport h v f) s = .next { s with part := q }) ∧
    (p.fitted h = true → p.calOn h = some k → v ≠ .relief → e.isOpen v = true →
      exec (.coilReport h v f) s = exec (.coilReport h v f) { s with part := ended }) ∧
    (p.fitted h = true → p.calOn h = none ∨ v = .relief ∨ e.isOpen v = false → e.state ≠ .vent ∨ v ≠ .relief →
      ∃ t : Part, exec (.coilReport h v f) s = .next { s with part := t } ∧ found t ∧ t.slot = p.slot ∧
        (∀ g, g ≠ h → t.head g = p.head g) ∧
        (p.context h = some c → e.state ∈ [HeadState.pressurize, .waitFill, .fillFast, .fillFine] → v ≠ .relief →
          e.isOpen v = true →
          t.entry h = { e with
            gas := false, fast := false, fine := false, relief := true, state := .relief,
            timer := .running (p.now + c.reliefTime) } ∧
          t.context h = some (
            let flagged := { c with flags := addFlag c.flags .valveFault }
            if e.state = .fillFast ∨ e.state = .fillFine then
              { flagged with filling := false, openTimer := .stopped, silenceTimer := .stopped, status := .aborted }
            else flagged)) ∧
        (e.state = .relief → v = .relief →
          t.entry h = { e with relief := false, timer := .stopped, state := .waitDischarge } ∧
          t.context h = p.context h) ∧
        (e.state ∈ [HeadState.pressurize, .waitFill, .fillFast, .fillFine] → v = .relief ∨ e.isOpen v = false →
          t.entry h = e ∧ t.context h = p.context h) ∧
        (e.state = .relief → v ≠ .relief → t.entry h = e ∧ t.context h = p.context h) ∧
        (e.state ∈ [HeadState.testing, .sealing, .settle, .waitRelief, .waitDischarge, .vent] →
          t.entry h = e ∧ t.context h = p.context h) ∧
        (e.state = .rest ∨ e.state = .skip → p.control.prod = .drain → v ≠ .relief →
          t.entry h = e.withdraw v ∧ t.context h = p.context h) ∧
        (e.state = .rest ∨ e.state = .skip → p.control.prod ≠ .drain ∨ v = .relief →
          t.entry h = e ∧ t.context h = p.context h)) ∧
    (p.fitted h = true → e.state = .vent → v = .relief → (∀ g, (p.diag g).mark = false) → p.slot.isCal = false →
      let last := p.control.prod = .config ∧ p.phase = .running ∧ ∀ g, g ≠ h → (p.entry g).state ≠ .vent
      ∃ t : Part, exec (.coilReport h v f) s = .next { s with part := t } ∧ found t ∧
        t.entry h = { e with relief := false, timer := .stopped, state := .rest } ∧ t.context h = p.context h ∧
        (¬ last ∨ q.anySilent = false → ∀ g, g ≠ h → t.head g = p.head g) ∧
        (¬ last → t.control = p.control ∧ t.lineTimer = p.lineTimer) ∧
        (last → t.lineTimer = .running (p.now + p.machine.lineSilence) ∧
          (q.anySilent = false → t.control = { p.control with prod := .standby, cleanOpened := false }) ∧
          (q.anySilent = true → t.control.prod = .safe ∧ t.control.firstCause = some .headBus ∧
            t.control.causes = addCause 0 .headBus)))

/-- A status report of a watched module makes it answer for another 5 ms. A watched module that has not answered for 5
ms becomes silent, which is the SAFE cause HEAD_BUS: SAFE is entered, or HEAD_BUS joins the causes in SAFE; in CONFIG
nothing more happens. A module that is not watched, or silent already, falls silent no more. The model's choices in
it: log entries 2 and 16. -/
def Obligations.ModulesAnswerOrFallSilent : Prop :=
  ∀ (s : State) (m : ModuleNo) (due : Nat),
    let p := s.part
    let silent := { p with now := max p.now due, modules := p.modules.set m ⟨true, .stopped⟩ }
    (p.phase = .running → p.watched m = true →
      exec (.moduleStatusReport m) s =
        .next { s with part := { p with modules := p.modules.set m ⟨false, .running (p.now + 5)⟩ } }) ∧
    (p.watched m = false → exec (.moduleStatusReport m) s = .next s ∧ exec (.moduleSilent m) s = .next s) ∧
    (p.modules[m].silent = true ∨ p.modules[m].timer = .stopped → exec (.moduleSilent m) s = .next s) ∧
    (p.watched m = true → p.modules[m] = ⟨false, .running due⟩ →
      (p.control.prod = .config → exec (.moduleSilent m) s = .next { s with part := silent }) ∧
      (p.control.prod = .safe →
        exec (.moduleSilent m) s = .next { s with part := { silent with
          control := { p.control with causes := addCause p.control.causes .headBus } } }) ∧
      (p.control.prod ∉ [Prod.config, .safe] →
        ∃ t : Part, exec (.moduleSilent m) s = .next { s with part := t } ∧ t.modules = silent.modules ∧
          t.control.prod = .safe ∧ t.control.firstCause = some .headBus ∧ t.control.causes = addCause 0 .headBus))

/-! ### Crossings -/

/-- An infeed crossing of a head that holds no container. In CONFIG and DRAIN the head is in REST; without a container
at the infeed sensor it is in SKIP; with one it is admitted: the container takes the next number, a record of the
track and a dose context. A coil test is abandoned. A head that still holds a container is discharged first. A CAL DOSE
on the head ends with MOTION, its valves closed, before the crossing. The model's choices in it: log entries 8, 19 and
21. -/
def Obligations.InfeedCrossingAdmits : Prop :=
  ∀ (p : Part) (h : HeadNo) (k : CalRecord),
    let e := p.entry h
    let t := p.crossing h .infeed
    let n := p.nextNumber
    let doses := decide (p.control.prod ∈ [Prod.production, .hold, .stopping])
    let off := if e.state = .testing then { e with timer := .stopped, reports := noReports } else e
    let put := fun (st : HeadState) => p.modHead h fun x => { x with entry := { off with state := st } }
    (p.calOn h = some k →
      let shut := p.modHead h fun x => { x with entry := { e with gas := false, fast := false, fine := false } }
      t = Part.crossing h .infeed
        { shut with slot := .finished (.calAborted .motion k.counted k.after (p.now - k.start)) }) ∧
    (p.calOn h = none →
    (e.state = .vent → t = p) ∧
    (e.state ∈ [HeadState.rest, .testing, .skip] →
      (p.control.prod ∈ [Prod.config, .drain] → e.state ≠ .testing ∨ e.cleanWaiting = false → t = put .rest) ∧
      (p.control.prod ∉ [Prod.config, .drain] → p.pins.infeed = false → t = put .skip) ∧
      (p.control.prod ∉ [Prod.config, .drain] → p.pins.infeed = true →
        t.entry h = { off with
          state := if doses then .sealing else .waitDischarge
          fillStartNoted := false, fillEndNoted := false, pressurised := false, vented := false } ∧
        t.context h = some (p.admissionContext h n) ∧ t.nextNumber = (n + 1) % 65536 ∧
        t.control = { p.control with admitted := (p.control.admitted + 1) % 4294967296 } ∧
        t.track = (p.track.filter fun r =>
            !(r.isDischarged && decide (64 + p.machine.inspection + 12 ≤ (n + 65536 - r.number) % 65536))) ++
          [⟨n, h, if doses && p.activeRecipe.isSome then p.control.activeSlot else none, none⟩] ∧
        (t.record h).trimFrom = (match (p.record h).trimFrom with
          | none => some n
          | some f => if (n + 65536 - f) % 65536 < 32768 then some f else some n) ∧
        ∀ g, g ≠ h → t.entry g = p.entry g ∧ t.context g = p.context g)) ∧
    (e.state.holds = true → t = (p.crossing h .dis).crossing h .infeed))

/-- The dose of an admitted container. A FLOW or TIMED head in service has the effective volume E = V + T - A, at least 1;
the close count C = E K / 10000 rounded, at least 1; the fine count F of V + T - B, between 0 and C; and the timed open
time E 1000 / R rounded, from 1 to 60000. Any other head has no dose, flagged HEAD_UNAVAILABLE, and in STANDBY or SAFE
NOT_PRODUCING. -/
def Obligations.AdmissionComputesTheDose : Prop :=
  ∀ (p : Part) (h : HeadNo) (n : Nat) (sr : StoredRecipe) (x : HeadRecord),
    let st := x.stored
    let r := sr.fields
    let e := (max 1 ((r.v : Int) + st.t - st.a)).toNat
    let c := max 1 ((e * st.k + 5000) / 10000)
    let low := (r.v : Int) + st.t - r.b
    let f := if low ≤ 0 then 0 else min c ((low.toNat * st.k + 5000) / 10000)
    let sn : Snapshot := {
      k := st.k, a := st.a, r := st.r, t := st.t, gen := x.gen, b := r.b, press := r.press, settle := r.settle
      relief := r.relief, dev := r.dev, e := e
      openTime := min 60000 (max 1 ((2 * (e * 1000) + st.r) / (2 * st.r))) }
    let dose := fun (m : DoseMethod) => { newContext n m (some sn) (some sr.revision) (some r.v) c f with
      flags := if 0 < x.warm then addFlag 0 .warmup else 0 }
    p.record h = x →
    (p.control.prod ∈ [Prod.production, .hold, .stopping] → p.activeRecipe = some sr →
      (st.inService = true → x.method = .flow → p.admissionContext h n = dose .flow) ∧
      (st.inService = true → x.method = .timed → p.admissionContext h n = dose .timed) ∧
      (st.inService = false ∨ x.method = .out → p.admissionContext h n =
        { newContext n .none none (some sr.revision) (some r.v) 1 0 with flags := addFlag 0 .headUnavailable }) ∧
      (storedHeadOk st = true → recipeRangesOk r = true →
        (1 ≤ e ∧ e ≤ 30200) ∧ (1 ≤ c ∧ c ≤ 151000) ∧ f ≤ c ∧ 1 ≤ sn.openTime ∧ sn.openTime ≤ 60000)) ∧
    (p.control.prod ∈ [Prod.standby, .safe] → p.admissionContext h n =
      { newContext n .none none none none 1 0 with flags := addFlag 0 .notProducing })

/-- The pressurise crossing of a SEALING head makes its checks in order: a false seal, or a silent module, adds
NOT_SEALED; a context of method NONE waits for its discharge; SAFE adds SAFE_ABORT; otherwise the gas valve opens for
the pressurise time. The fill-start crossing is noted in PRESSURIZE and starts the fill, or refuses it, in WAIT_FILL.
The model's choices in it: log entries 13, 16 and 32. -/
def Obligations.PressuriseAndFillStartCrossings : Prop :=
  ∀ (p : Part) (h : HeadNo) (c : Context),
    let e := p.entry h
    let m := moduleOf h
    let sealed := p.pins.seals[h] && !(p.watched m && p.modules[m].silent)
    let put := fun (x : Entry) (d : Context) => p.modHead h fun y => { y with entry := x, context := some d }
    let waits := { e with state := .waitDischarge }
    let refused := { e with state := .waitRelief, gas := false }
    let both := decide (c.method = .timed) || decide (0 < c.f)
    (e.state ≠ .sealing → p.crossing h .press = p) ∧
    (e.state ∉ [HeadState.pressurize, .waitFill] → p.crossing h .fill = p) ∧
    (e.state = .pressurize →
      p.crossing h .fill = p.modHead h fun x => { x with entry := { e with fillStartNoted := true } }) ∧
    (p.context h = some c →
      (e.state = .sealing →
        (sealed = false → p.crossing h .press = put waits { c with flags := addFlag c.flags .notSealed }) ∧
        (sealed = true → c.method = .none → p.crossing h .press = put waits c) ∧
        (sealed = true → c.method ≠ .none → p.control.prod = .safe →
          p.crossing h .press = put waits { c with flags := addFlag c.flags .safeAbort }) ∧
        (sealed = true → c.method ≠ .none → p.control.prod ≠ .safe →
          p.crossing h .press = put { e with
            gas := true, pressurised := true, state := .pressurize, timer := .running (p.now + c.pressTime) } c)) ∧
      (e.state = .waitFill →
        (p.control.prod = .hold →
          p.crossing h .fill = put refused { c with flags := addFlag c.flags .noFillInHold }) ∧
        (p.control.prod ≠ .hold → p.inhibited = true →
          p.crossing h .fill = put refused { c with flags := addFlag c.flags .fillInhibited }) ∧
        (p.control.prod ≠ .hold → p.inhibited = false →
          p.crossing h .fill = p.modHead h fun x => { x with
            entry := { e with state := if both then .fillFast else .fillFine, fast := both, fine := true }
            context := some { c with
              filling := true
              fillStart := some p.now
              openTimer := if c.method = .timed then .running (p.now + c.openTime) else .stopped
              silenceTimer := if c.method = .timed then .stopped else .running (p.now + p.machine.meterSilence) }
            diag := if x.runaway.count ≤ p.machine.runawayLimit then x.diag.fall .meterRunaway else x.diag
            runaway := ⟨0, false, true⟩ })))

/-- The fill-end crossing aborts a fill that still runs into SETTLE with WINDOW_OVERRUN, and is noted in PRESSURIZE.
The relief crossing opens the relief valve for the relief time: at once in WAIT_RELIEF, after discarding the after-run
in SETTLE, with WINDOW_OVERRUN from PRESSURIZE and WAIT_FILL, and after aborting a fill. In the other states neither
acts. The model's choices in it: log entry 19. -/
def Obligations.FillEndAndReliefCrossings : Prop :=
  ∀ (p : Part) (h : HeadNo) (c : Context),
    let e := p.entry h
    let fills := e.state = .fillFast ∨ e.state = .fillFine
    let flagged := { c with flags := addFlag c.flags .windowOverrun }
    let aborted := { flagged with filling := false, openTimer := .stopped, silenceTimer := .stopped, status := .aborted }
    let relieved := { e with
      gas := false, fast := false, fine := false, relief := true, state := .relief
      timer := .running (p.now + c.reliefTime) }
    let overran := fun (t : Part) =>
      (t.diag h).isLive .windowOverrun = true ∧
      ((p.diag h).isLive .windowOverrun = false → (t.diag h).isHeld .windowOverrun = true) ∧
      (t.record h).stored = (p.record h).stored ∧ ∀ g, g ≠ h → t.head g = p.head g
    let ended := p.crossing h .fillend
    let t := p.crossing h .relief
    (e.state = .pressurize →
      ended = p.modHead h fun x => { x with entry := { e with fillEndNoted := true } }) ∧
    (e.state ∉ [HeadState.pressurize, .fillFast, .fillFine] → ended = p) ∧
    (e.state ∈ [HeadState.rest, .testing, .skip, .sealing, .relief, .waitDischarge, .vent] → t = p) ∧
    (p.context h = some c →
      (fills →
        overran ended ∧ ended.context h = some { aborted with afterState := .counting } ∧
        ended.entry h = { e with
          gas := false, fast := false, fine := false, state := .settle, timer := .running (p.now + c.settleTime) } ∧
        overran t ∧ t.context h = some { aborted with afterState := .discarded } ∧ t.entry h = relieved) ∧
      (e.state = .waitRelief → t = p.modHead h fun x => { x with entry := relieved }) ∧
      (e.state = .settle →
        t.entry h = relieved ∧ t.context h = some { c with afterState := .discarded } ∧
          (t.record h).stored.a = (p.record h).stored.a ∧ ∀ g, g ≠ h → t.head g = p.head g) ∧
      (e.state = .pressurize ∨ e.state = .waitFill →
        overran t ∧ t.entry h = relieved ∧ t.context h = some flagged))

/-- The discharge crossing completes the container: every valve closes, a fill is aborted, a pressurised container that was
not vented is RELIEF_SHORT, the verdict is PASS for a complete dose without the four rejecting flags, CONTAINER RESULT is
handed over, and the head counts the dose, or the reject, and is in REST or in its coil test. A record that is not the
oldest on the carousel leaves uninspected. The shadow judgement may take a TIMED head back to FLOW; the warm-up of a
dose counts down, and at its end the kinds then live decide the head's rung in table order. A RELIEF_SHORT that rises
here with the action OUT puts the head out. The speed advisory is recomputed. -/
def Obligations.DischargeCrossingGivesTheVerdict : Prop :=
  ∀ (p : Part) (h : HeadNo) (c : Context) (r : TrackRecord),
    let e := p.entry h
    let t := p.crossing h .dis
    let closed := { e with gas := false, fast := false, fine := false, relief := false, timer := .stopped }
    let rested := fun (x : Entry) =>
      if (p.record h).stored.inService ∧ p.control.prod ∉ [Prod.config, .drain, .safe] ∧
          (p.machine.mode = .everyRev ∨ (p.diag h).mark = true) then
        { x with state := .testing, timer := .running (p.now + 20), reports := noReports }
      else { x with state := .rest }
    let short := e.pressurised && !e.vented
    let flags := if short then addFlag c.flags .reliefShort else c.flags
    let status := if c.filling then DoseStatus.aborted else c.status
    let bad := hasFlag flags .sealLost || hasFlag flags .reliefShort || hasFlag flags .heldLong || hasFlag flags .valveFault
    let d : Discharged := {
      revision := c.revision, v := c.v, used := c.used, status := status, e := c.snap.map (·.e)
      dosed := match c.used with
        | .flow => some (min 65535 (roundNat ((c.fill + c.after) * 10000) c.k))
        | .timed => if c.shadow = 0 then none else some (min 65535 (roundNat (c.shadow * 10000) c.k))
        | .none => none
      flags := flags
      verdict := if status = .complete ∧ bad = false then .pass else .reject }
    let oldest := (p.track.find? fun x => !x.isDischarged).any fun x => decide (x.head = h)
    let x := p.record h
    let live := (p.diag h).isLive
    let rises := short && !live .reliefShort && decide (x.warm = 0)
    let judged := x.judged c.judgement ((p.activeRecipe.map (·.fields.promo)).getD 0)
      (live .meterSilent || live .meterRunaway || live .rateDeviation)
    let rung := if c.used ≠ .none ∧ x.warm = 1 then
        judged.decidedAll p.machine (p.timedOk h) fun k => match k with
          | .sealLost => live k && hasFlag flags .sealLost
          | .windowOverrun => live k && hasFlag flags .windowOverrun
          | .reliefShort => (live k || short) && hasFlag flags .reliefShort
          | _ => live k
      else judged
    (e.state ∈ [HeadState.rest, .testing, .vent] → t = p) ∧
    (e.state = .skip → p.control.prod ≠ .drain → t.entry h = rested e ∧ ∀ g, g ≠ h → t.head g = p.head g) ∧
    (p.TrackAgrees → e.state.holds = true → p.context h = some c →
      p.track.find? (TrackRecord.standsOn h) = some r →
      t.entry h = rested closed ∧ t.context h = none ∧ (∀ g, g ≠ h → t.entry g = p.entry g ∧ t.context g = p.context g) ∧
      t.links = (p.enqueue .inspection ⟨false, 0xB1, resultPayload r d⟩).links ∧
      t.control.discharged = (p.control.discharged + 1) % 4294967296 ∧
      t.control.prod = (if p.control.prod = .stopping ∧ ∀ g, g ≠ h → p.context g = none then .standby
        else p.control.prod) ∧
      (oldest = true → dischargedCount p.track < p.machine.inspection + 12 →
        t.track = p.track.map fun x => if x.standsOn h then { x with result := some d } else x) ∧
      (oldest = false → t.track = p.track.eraseP (TrackRecord.standsOn h) ∧
        (t.record h).uninspected = totalUp (p.record h).uninspected) ∧
      (t.record h).doses = (if c.used = .none then (p.record h).doses else totalUp (p.record h).doses) ∧
      (t.record h).rejects = (if d.verdict = .reject then totalUp (p.record h).rejects else (p.record h).rejects) ∧
      (short = true → (t.diag h).isLive .reliefShort = true) ∧
      (t.record h).warm = (if c.used = .none then x.warm else x.warm - 1) ∧
      (rises = false ∨ actionFor p.machine .reliefShort = .report →
        (t.record h).method = rung.method ∧ (t.record h).cause = rung.cause ∧ (t.record h).promo = rung.promo) ∧
      (rises = true → actionFor p.machine .reliefShort = .out → (t.record h).method = .out ∧
        (t.record h).cause = if x.method = .out then x.cause else some .reliefShort) ∧
      t.advisory = t.computeAdvisory)

/-! ### The Supply Monitor -/

/-- SUPPLY DATA writes the limited values, makes the record FRESH and restarts the supply-silence timer; the setpoint is the
pressure that holds the larger carbonation at the limited temperature, less 1013 mbar, plus the margin, from 1000 to 6000
and FINAL, or 6000 and PROVISIONAL without a recipe; and the bowl watch takes the pressure. The reply is SUPPLY REPLY.
The model's choices in it: log entry 3. -/
def Obligations.SupplyDataSetsThePressureRequest : Prop :=
  (∀ i d : Nat, i < 6 → d < 50 →
    let s := [1713, 1424, 1194, 1019, 878, 759, 665]
    solubility (50 * i + d) = s.getD i 0 - (s.getD i 0 - s.getD (i + 1) 0) * d / 50) ∧
  solubility 300 = 665 ∧
  ∀ (s : State) (temperature : Int) (carbonation pressure level : Nat),
    let p := s.part
    let temp := max (-50) (min 400 temperature)
    let carb := min 800 carbonation
    let pres := min 8000 pressure
    p.takes .supply →
    ∃ t : Part,
      exec (.supplyData temperature carbonation pressure level) s =
        .next { s with part := t.reply .supply 0x40 ⟨.ok, t.supplyReply⟩ } ∧
      { t with supply := p.supply, supplyTimer := p.supplyTimer } = p ∧
      t.supplyTimer = .running (p.now + p.machine.supplySilence) ∧ t.supply.freshness = .fresh ∧
      t.supply.record = some ⟨temp, carb, pres, if level = 1 then .ok else if level = 2 then .high else .low⟩ ∧
      (t.supply.limited.getLsbD 0 = decide (temp ≠ temperature) ∧ t.supply.limited.getLsbD 1 = decide (carb ≠ carbonation) ∧
        t.supply.limited.getLsbD 2 = decide (pres ≠ pressure) ∧ t.supply.limited.getLsbD 3 = decide (2 < level)) ∧
      t.supply.demand = p.supply.demand ∧ t.supply.demandTimer = p.supply.demandTimer ∧
      (p.activeRecipe = none →
        t.supply.setpoint = 6000 ∧ t.supply.qualifier = .provisional ∧
        t.supply.watch = p.supply.watch ∧ t.supply.watchTimer = p.supply.watchTimer) ∧
      ∀ sr, p.activeRecipe = some sr →
        let sol := solubility (max 0 (min 300 temperature)).toNat
        let low := pres + 200 < t.supply.setpoint
        let state := (t.supply.watch, t.supply.watchTimer)
        (t.supply.setpoint : Int) = max 1000 (min 6000
          (((2 * (max sr.fields.carb carb * 10000) + sol) / (2 * sol) : Nat) - 1013 + (sr.fields.margin : Int))) ∧
        t.supply.qualifier = .final ∧
        (p.supply.watch = .clear → low → state = (.timing, .running (p.now + p.machine.bowlTime))) ∧
        (p.supply.watch = .clear → ¬ low → state = (.clear, p.supply.watchTimer)) ∧
        (p.supply.watch = .timing → low → state = (.timing, p.supply.watchTimer)) ∧
        (p.supply.watch = .timing → ¬ low → state = (.clear, .stopped)) ∧
        (p.supply.watch = .low → t.supply.setpoint ≤ pres + 100 → state = (.clear, p.supply.watchTimer)) ∧
        (p.supply.watch = .low → pres + 100 < t.supply.setpoint → state = (.low, p.supply.watchTimer))

/-- The Supply Monitor's timers. Supply silence makes the record STALE and the request PROVISIONAL at the recipe's own
carbonation and 30.0 degrees; the bowl determination makes the watch LOW; the demand period ends with the demand of
the fitted heads' pulses, at most 1000000, every count at 0 and the next period begun. A stopped timer does nothing.
The model's choices in it: log entries 2 and 27. -/
def Obligations.SupplyTimersExpire : Prop :=
  ∀ (s : State) (due : Nat),
    let p := s.part
    let u := p.supply
    let now := max p.now due
    let setpoint : Int := match p.activeRecipe with
      | none => 6000
      | some sr => max 1000 (min 6000
        (((2 * (sr.fields.carb * 10000) + 665) / 1330 : Nat) - 1013 + (sr.fields.margin : Int)))
    (p.supplyTimer = .stopped → exec .supplySilenceExpiry s = .next s) ∧
    (p.supplyTimer = .running due →
      exec .supplySilenceExpiry s = .next { s with part := { p with
        now := now, supplyTimer := .stopped
        supply := { u with freshness := .stale, setpoint := setpoint.toNat, qualifier := .provisional } } }) ∧
    (u.watchTimer = .stopped → exec .bowlDeterminationExpiry s = .next s) ∧
    (u.watchTimer = .running due →
      exec .bowlDeterminationExpiry s = .next { s with part := { p with
        now := now, supply := { u with watch := .low, watchTimer := .stopped } } }) ∧
    (u.demandTimer = .stopped → exec .demandPeriodEnd s = .next s) ∧
    (u.demandTimer = .running due →
      ∃ t : Part, exec .demandPeriodEnd s = .next { s with part := t } ∧
        { t with heads := p.heads } = { p with now := now, supply := { u with
          demandTimer := .running (due + 1000)
          demand := min 1000000 (((List.finRange 64).filter p.fitted).map fun h =>
            let k := (p.record h).stored.k
            (2 * ((p.head h).demandCount * 10000) + k) / (2 * k)).sum } } ∧
        ∀ h, t.head h = { p.head h with demandCount := 0 })

/-! ### The State Controller -/

/-- START is refused out of STANDBY, with CONFIG_BAD, without an active recipe and during a CAL DOSE; accepted, it
enters PRODUCTION and gives every fitted head in service the recipe's warm-up. HOLD enters HOLD and starts the
hold-limit timer unless the limit is 0; RESUME stops it and enters PRODUCTION. The hold-limit expiry flags every
container HELD_LONG. The model's choices in it: log entries 2, 3 and 19. -/
def Obligations.StartHoldAndResume : Prop :=
  ∀ (s : State) (sr : StoredRecipe) (due : Nat),
    let p := s.part
    let moved := fun (prod : Prod) (timer : Timer) => fun (q : Part) =>
      ({ q with control := { q.control with prod := prod, holdTimer := timer } } : Part)
    p.takes →
    (p.control.prod ≠ .standby ∨ p.configBad = true ∨ p.activeRecipe = none ∨ p.slot.isCal = true →
      exec .start s = .next { s with part := p.refuses 0x03 .wrongState }) ∧
    (p.control.prod = .standby → p.configBad = false → p.activeRecipe = some sr → p.slot.isCal = false →
      ∃ t : Part, exec .start s = .next { s with part := t.reply .line 0x03 answerOk } ∧
        { t with heads := p.heads } =
          { p.crcPassed .line with control := { p.control with prod := .production, lineQuiet := false } } ∧
        ∀ h, t.head h = if p.fitted h ∧ (p.record h).stored.inService then
          { p.head h with record := { p.record h with warm := sr.fields.warmup } } else p.head h) ∧
    (p.control.prod ≠ .production → exec .hold s = .next { s with part := p.refuses 0x04 .wrongState }) ∧
    (p.control.prod = .production → p.activeRecipe = some sr →
      exec .hold s = .next { s with part := p.accepts 0x04 (moved .hold
        (if sr.fields.hold = 0 then .stopped else .running (p.now + 1000 * sr.fields.hold))) }) ∧
    (p.control.prod = .production → p.activeRecipe = none →
      exec .hold s = .next { s with part := p.accepts 0x04 (moved .hold .stopped) }) ∧
    (p.control.prod ≠ .hold → exec .resume s = .next { s with part := p.refuses 0x05 .wrongState }) ∧
    (p.control.prod = .hold →
      exec .resume s = .next { s with part := p.accepts 0x05 (moved .production .stopped) }) ∧
    (p.control.holdTimer = .stopped → exec .holdLimitExpiry s = .next s) ∧
    (p.control.holdTimer = .running due →
      ∃ t : Part, exec .holdLimitExpiry s = .next { s with part := t } ∧
        { t with heads := p.heads } =
          { p with now := max p.now due, control := { p.control with holdTimer := .stopped } } ∧
        ∀ h, t.head h = { p.head h with
          context := (p.context h).map fun c => { c with flags := addFlag c.flags .heldLong } })

/-- STOP, in PRODUCTION and HOLD alone, stops the hold-limit timer and enters STOPPING, or STANDBY when no head holds
a container. RECOVER, in SAFE alone, is refused while a container, a head in RELIEF or VENT, or a silent module
remains; accepted, it clears the fault record and enters STANDBY, where the coil tests of marked heads in REST begin.
The model's choices in it: log entries 3 and 16. -/
def Obligations.StopAndRecover : Prop :=
  ∀ s : State,
    let p := s.part
    let bare := ∀ h, p.context h = none
    let quiet := (∀ h, (p.entry h).state ≠ .relief ∧ (p.entry h).state ≠ .vent) ∧
      ∀ m : ModuleNo, p.watched m = true → p.modules[m].silent = false
    let moved := fun (prod : Prod) => fun (q : Part) => ({ q with control := { q.control with
      prod := prod, holdTimer := .stopped, cleanOpened := if prod = .standby then false else q.control.cleanOpened } } : Part)
    let recovered := fun (q : Part) => ({ q with control := { q.control with
      prod := .standby, cleanOpened := false, firstCause := none, causes := 0 } } : Part)
    p.takes →
    (p.control.prod ∉ [Prod.production, .hold] →
      exec .stop s = .next { s with part := p.refuses 0x06 .wrongState }) ∧
    (p.control.prod ∈ [Prod.production, .hold] → bare →
      exec .stop s = .next { s with part := p.accepts 0x06 (moved .standby) }) ∧
    (p.control.prod ∈ [Prod.production, .hold] → ¬ bare →
      exec .stop s = .next { s with part := p.accepts 0x06 (moved .stopping) }) ∧
    (p.control.prod ≠ .safe ∨ ¬ bare ∨ ¬ quiet →
      exec .recover s = .next { s with part := p.refuses 0x08 .wrongState }) ∧
    (p.control.prod = .safe → bare → quiet →
      ∃ t : Part, exec .recover s = .next { s with part := t.reply .line 0x08 answerOk } ∧
        { t with heads := p.heads } = recovered (p.crcPassed .line) ∧
        ∀ h, t.head h =
          if p.fitted h ∧ (p.record h).stored.inService ∧ (p.diag h).mark ∧ (p.entry h).state = .rest then
            { p.head h with entry := { p.entry h with
              state := .testing, timer := .running (p.now + 20), reports := noReports } }
          else p.head h)

/-- ENTER SAFE and, in PRODUCTION, HOLD, STOPPING and DRAIN, the line silence enter SAFE with their cause as the
machine fault record; in SAFE a cause joins the record. At SAFE entry every fitted head acts by its state: a fill is
aborted and flagged SAFE_ABORT, as are a pressurised head and one waiting for its fill; all these, SETTLE and
WAIT_RELIEF open the relief; the rest stay. DRAIN closes its clean valves, and a CAL DOSE or TEST COILS ends ABORTED.
The model's choices in it: log entries 2, 3 and 19. -/
def Obligations.SafeEntryActsOnEveryHead : Prop :=
  ∀ (s : State) (h : HeadNo) (c : Context) (k : CalRecord) (due : Nat),
    let p := s.part
    let e := p.entry h
    let now := max p.now due
    let entered := fun (t : Part) (cause : Cause) (now : Nat) =>
      let relieved := { e with
        gas := false, fast := false, fine := false, relief := true, state := .relief
        timer := .running (now + c.reliefTime) }
      let flagged := { c with flags := addFlag c.flags .safeAbort }
      t.control.prod = .safe ∧ t.control.firstCause = some cause ∧ t.control.causes = addCause 0 cause ∧
      t.control.holdTimer = .stopped ∧ t.control.cleanOpened = false ∧ (∀ g, (t.diag g).mark = false) ∧
      (p.slot = .pendingCal k →
        t.slot = .finished (.calAborted .safe k.counted k.after (now - k.start)) ∧
        (t.entry k.head).gas = false ∧ (t.entry k.head).fast = false ∧ (t.entry k.head).fine = false) ∧
      (p.slot = .pendingTest → p.coilTest = .running → t.slot = .finished .testAborted ∧ t.coilTest = .idle) ∧
      (p.slot.isSave = true → t.slot = p.slot) ∧
      (p.fitted h = true → p.slot.isCal = false →
        (p.control.prod ≠ .drain → p.context h = some c →
          (e.state = .fillFast ∨ e.state = .fillFine → t.entry h = relieved ∧ t.context h = some { flagged with
            filling := false, openTimer := .stopped, silenceTimer := .stopped, status := .aborted }) ∧
          (e.state = .pressurize ∨ e.state = .waitFill → t.entry h = relieved ∧ t.context h = some flagged) ∧
          (e.state = .settle → t.entry h = relieved ∧ t.context h = some { c with afterState := .discarded }) ∧
          (e.state = .waitRelief → t.entry h = relieved ∧ t.context h = some c)) ∧
        (e.state ∈ [HeadState.sealing, .relief, .waitDischarge, .rest, .skip, .testing, .vent] →
          t.context h = p.context h ∧ t.entry h = if p.control.prod = .drain then
            { e with gas := false, fast := false, fine := false, cleanWaiting := false } else e))
    (p.takes →
      (p.control.prod ≠ .safe →
        ∃ t : Part, exec .enterSafe s = .next { s with part := t.reply .line 0x07 answerOk } ∧ entered t .command p.now) ∧
      (p.control.prod = .safe →
        exec .enterSafe s = .next { s with part := p.accepts 0x07 fun q =>
          { q with control := { q.control with causes := addCause q.control.causes .command } } })) ∧
    (p.lineTimer = .stopped → exec .lineSilenceExpiry s = .next s) ∧
    (p.lineTimer = .running due →
      (p.control.prod ∈ [Prod.config, .standby, .safe] →
        exec .lineSilenceExpiry s = .next { s with part := { p with
          now := now, lineTimer := .stopped, control := { p.control with lineQuiet := true } } }) ∧
      (p.control.prod ∈ [Prod.production, .hold, .stopping, .drain] →
        ∃ t : Part, exec .lineSilenceExpiry s = .next { s with part := t } ∧ t.lineTimer = .stopped ∧
          t.control.lineQuiet = true ∧ entered t .lineSilent now))

/-- CLEAN BEGIN is refused out of STANDBY, with a container on a head and during a CAL DOSE; accepted, it enters DRAIN
with every drain pulse total at 0. In DRAIN, and refused elsewhere, CLEAN OPEN opens the gas and liquid valves of the
heads in service that are in REST or SKIP and lets a head in TESTING wait; CLEAN CLOSE closes the valves of all; CLEAN
END does the same and enters STANDBY, where the coil tests of marked heads in REST begin. The model's choices in it:
log entries 3 and 21. -/
def Obligations.CleaningOpensAndClosesTheValves : Prop :=
  ∀ s : State,
    let p := s.part
    let bare := ∀ h, p.context h = none
    let acts := fun (c : Instr) (kind : Nat) (prod : Prod) (opened : Bool) (head : HeadNo → Head) =>
      ∃ t : Part, exec c s = .next { s with part := t.reply .line kind answerOk } ∧
        { t with heads := p.heads } = { p.crcPassed .line with
          control := { p.control with prod := prod, cleanOpened := opened, lineQuiet := false } } ∧
        ∀ h, t.head h = head h
    let closed := fun (e : Entry) => { e with gas := false, fast := false, fine := false, cleanWaiting := false }
    p.takes →
    (p.control.prod ≠ .standby ∨ ¬ bare ∨ p.slot.isCal = true →
      exec .cleanBegin s = .next { s with part := p.refuses 0x0A .wrongState }) ∧
    (p.control.prod = .standby → bare → p.slot.isCal = false →
      acts .cleanBegin 0x0A .drain false fun h => { p.head h with record := { p.record h with drainPulses := 0 } }) ∧
    (p.control.prod ≠ .drain →
      exec .cleanOpen s = .next { s with part := p.refuses 0x0B .wrongState } ∧
      exec .cleanClose s = .next { s with part := p.refuses 0x0C .wrongState } ∧
      exec .cleanEnd s = .next { s with part := p.refuses 0x0D .wrongState }) ∧
    (p.control.prod = .drain →
      (acts .cleanOpen 0x0B .drain true fun h =>
        let e := p.entry h
        if p.fitted h && (p.record h).stored.inService then
          if e.state = .rest ∨ e.state = .skip then
            { p.head h with entry := { e with gas := true, fast := true, fine := true, cleanWaiting := false } }
          else if e.state = .testing then { p.head h with entry := { e with cleanWaiting := true } }
          else p.head h
        else p.head h) ∧
      (acts .cleanClose 0x0C .drain false fun h =>
        if p.fitted h then { p.head h with entry := closed (p.entry h) } else p.head h) ∧
      (acts .cleanEnd 0x0D .standby false fun h =>
        let e := closed (p.entry h)
        if p.fitted h then
          if (p.record h).stored.inService ∧ (p.diag h).mark = true ∧ e.state = .rest then
            { p.head h with entry := { e with state := .testing, timer := .running (p.now + 20), reports := noReports } }
          else { p.head h with entry := e }
        else p.head h))

/-! ### Recipes, the Head Table and the Diagnostics Monitor -/

/-- SELECT RECIPE, in STANDBY alone, makes a DEFINED slot active. WRITE RECIPE puts valid fields with revision 0 into
a slot, the active one in STANDBY alone. ADJUST RECIPE changes fields of the active recipe and adds 1 to its revision
modulo 256; without fields it changes nothing. A new active recipe recomputes the pressure request and the speed
advisory, and where it does not allow TIMED it puts the TIMED heads OUT, their cause kept. The advisory is the speed of
the slowest fitted head in service in FLOW or TIMED, less the margin, in containers per hour and at most 200000; it is 0
with no such head, no recipe or no valid configuration. The model's choices in it: log entry 3. -/
def Obligations.RecipesAreSelectedWrittenAndAdjusted : Prop :=
  (∀ (p : Part) (h : HeadNo) (sr : StoredRecipe),
    let m := p.machine
    let able := fun (g : HeadNo) => p.fitted g = true ∧ (p.record g).stored.inService = true ∧
      ((p.record g).method = .flow ∨ (p.record g).method = .timed)
    let speed := fun (g : HeadNo) =>
      (m.aFillend - m.aFill) * (p.record g).stored.r / ((sr.fields.v : Int) + (p.record g).stored.t).toNat
    (p.activeRecipe = none ∨ p.configBad = true ∨ (∀ g, ¬ able g) → p.computeAdvisory = 0) ∧
    (p.activeRecipe = some sr → p.configBad = false → able h → (∀ g, able g → speed h ≤ speed g) →
      p.computeAdvisory = min 200000 (speed h * (100 - sr.fields.speed) / 100 * m.nPos * 3600 / m.nInc))) ∧
  ∀ (s : State) (n : Nat) (f : RecipeFields) (a : AdjustFields) (i : SlotNo) (sr : StoredRecipe) (r : Recipe),
    let p := s.part
    let renewed := fun (t : Part) (new : StoredRecipe) =>
      t.supply.setpoint = setpointOf (requestInputs (some new) p.supply).1 (requestInputs (some new) p.supply).2
        new.fields.margin ∧
      t.supply.qualifier = (if p.supply.freshness = .fresh then .final else .provisional) ∧
      t.advisory = t.computeAdvisory ∧
      ∀ h, (t.record h).stored = (p.record h).stored ∧ (t.record h).cause = (p.record h).cause ∧
        (t.record h).method = if p.fitted h ∧ (p.record h).method = .timed ∧ new.fields.timedAllowed = false then .out
          else (p.record h).method
    let sum : Recipe := { sr.fields with
      v := a.v.getD sr.fields.v, b := a.b.getD sr.fields.b, gain := a.gain.getD sr.fields.gain
      deadband := a.deadband.getD sr.fields.deadband, gross := a.gross.getD sr.fields.gross
      margin := a.margin.getD sr.fields.margin, hold := a.hold.getD sr.fields.hold
      speed := a.speed.getD sr.fields.speed }
    let next : StoredRecipe := ⟨(sr.revision + 1) % 256, sum⟩
    p.takes →
    (p.control.prod ≠ .standby → exec (.selectRecipe n) s = .next { s with part := p.refuses 0x10 .wrongState }) ∧
    (p.control.prod = .standby → 8 ≤ n → exec (.selectRecipe n) s = .next { s with part := p.refuses 0x10 .range }) ∧
    (p.control.prod = .standby → p.recipes[i] = none →
      exec (.selectRecipe i.val) s = .next { s with part := p.refuses 0x10 .wrongState }) ∧
    (p.control.prod = .standby → p.recipes[i] = some sr →
      ∃ t : Part, exec (.selectRecipe i.val) s = .next { s with part := t.reply .line 0x10 answerOk } ∧
        t.control = { p.control with activeSlot := some i, lineQuiet := false } ∧ t.recipes = p.recipes ∧ renewed t sr) ∧
    (8 ≤ n ∨ recipeOfFields f = none →
      exec (.writeRecipe n f) s = .next { s with part := p.refuses 0x11 .range }) ∧
    (recipeOfFields f = some r → p.control.activeSlot = some i → p.control.prod ≠ .standby →
      exec (.writeRecipe i.val f) s = .next { s with part := p.refuses 0x11 .wrongState }) ∧
    (recipeOfFields f = some r → p.control.activeSlot ≠ some i →
      exec (.writeRecipe i.val f) s =
        .next { s with part := p.accepts 0x11 fun q => { q with recipes := q.recipes.set i (some ⟨0, r⟩) } }) ∧
    (recipeOfFields f = some r → p.control.activeSlot = some i → p.control.prod = .standby →
      ∃ t : Part, exec (.writeRecipe i.val f) s = .next { s with part := t.reply .line 0x11 answerOk } ∧
        t.recipes = p.recipes.set i (some ⟨0, r⟩) ∧ renewed t ⟨0, r⟩) ∧
    (p.activeRecipe = none → exec (.adjustRecipe a) s = .next { s with part := p.refuses 0x12 .wrongState }) ∧
    (p.control.activeSlot = some i → p.recipes[i] = some sr →
      (adjustOk a = false ∨ sum.gross ≤ sum.deadband →
        exec (.adjustRecipe a) s = .next { s with part := p.refuses 0x12 .range }) ∧
      (adjustOk a = true → sum.deadband < sum.gross →
        ((∀ o ∈ [a.v, a.b, a.gain, a.deadband, a.gross, a.margin, a.hold, a.speed], o = none) →
          exec (.adjustRecipe a) s = .next { s with part := p.accepts 0x12 id }) ∧
        ((∃ o ∈ [a.v, a.b, a.gain, a.deadband, a.gross, a.margin, a.hold, a.speed], o ≠ none) →
          ∃ t : Part, exec (.adjustRecipe a) s = .next { s with part := t.reply .line 0x12 answerOk } ∧
            t.heads = p.heads ∧ t.recipes = p.recipes.set i (some next) ∧
            t.supply.setpoint = setpointOf (requestInputs (some next) p.supply).1
              (requestInputs (some next) p.supply).2 sum.margin ∧
            (a.v = none ∧ a.speed = none → t.advisory = p.advisory) ∧
            (a.v ≠ none ∨ a.speed ≠ none → t.advisory = t.computeAdvisory))))

/-- WRITE HEAD is refused for a head that is not fitted and for a field out of range. Accepted, it writes the stored
fields it carries: K, A or R add 1 to the generation modulo 256 and A sets the outlier run to 0; T removes the
trim-from marker and TRIM_LIMIT follows it; a TIMED head no longer allowed is OUT; leaving service makes the head OUT
without cause, entering service FLOW with the recipe's warm-up, or without a warm-up on the rung that the kinds then live
decide in table order. A written R, and a change of service, recompute the speed advisory. No other head and no context
changes. The model's choices in it: log entries 3 and 29. -/
def Obligations.WriteHeadChangesTheRecord : Prop :=
  ∀ (s : State) (n : Nat) (h : HeadNo) (f : HeadFields) (trim : Int),
    let p := s.part
    let x := p.record h
    let serves := (f.inService.bind yesNoOf).getD x.stored.inService
    let timed := (f.timedAllowed.bind yesNoOf).getD x.stored.timedAllowed
    let writes := f.k.isSome || f.a.isSome || f.r.isSome
    let warm := if p.control.prod ∈ [Prod.production, .hold, .stopping] then
      (p.activeRecipe.map (·.fields.warmup)).getD 0 else 0
    p.takes →
    ((∀ g : HeadNo, g.val = n → p.fitted g = false) →
      exec (.writeHead n f) s = .next { s with part := p.refuses 0x18 .unknownHead }) ∧
    (p.fitted h = true → headFieldsOk f = false →
      exec (.writeHead h.val f) s = .next { s with part := p.refuses 0x18 .range }) ∧
    (p.fitted h = true → headFieldsOk f = true →
      ∃ t : Part, exec (.writeHead h.val f) s = .next { s with part := t.reply .line 0x18 answerOk } ∧
        (∀ g, g ≠ h → t.head g = p.head g) ∧ t.context h = p.context h ∧
        (t.record h).stored =
          ⟨serves, timed, f.k.getD x.stored.k, f.a.getD x.stored.a, f.r.getD x.stored.r, f.t.getD x.stored.t⟩ ∧
        (t.record h).gen = (if writes then (x.gen + 1) % 256 else x.gen) ∧
        (t.record h).outlierRun = (if f.a.isSome then 0 else x.outlierRun) ∧
        (t.record h).trimFrom = (if f.t.isSome then none else x.trimFrom) ∧
        (f.t = some trim → (t.diag h).isLive .trimLimit = decide (trim = 200 ∨ trim = -200)) ∧
        (serves = x.stored.inService → f.t = none →
          (t.record h).warm = x.warm ∧
          (t.record h).method = (if f.timedAllowed = some 0 ∧ x.method = .timed then .out else x.method) ∧
          (t.record h).cause = x.cause ∧ t.entry h = p.entry h ∧ t.slot = p.slot) ∧
        (x.stored.inService = true → serves = false →
          (t.record h).method = .out ∧ (t.record h).cause = none ∧ (t.record h).warm = 0 ∧ (t.diag h).mark = false ∧
          t.calOn h = none) ∧
        (x.stored.inService = false → serves = true →
          (t.record h).warm = warm ∧ t.entry h = p.entry h ∧
          (0 < warm → (t.record h).method = .flow ∧ (t.record h).cause = none) ∧
          (warm = 0 → f.t = none →
            let rung := HeadRecord.decidedAll p.machine (timed && p.activeRecipe.any fun sr => sr.fields.timedAllowed)
              (p.diag h).isLive { x with method := .flow, cause := none, promo := 0 }
            (t.record h).method = rung.method ∧ (t.record h).cause = rung.cause ∧ (t.record h).promo = rung.promo)) ∧
        (f.r.isSome ∨ f.t.isSome ∨ serves ≠ x.stored.inService → t.advisory = t.computeAdvisory))

/-- RESTORE HEAD is refused for a head that is not fitted, out of service, or with a live coil kind; accepted, it
clears the held flags that are not live and makes the head FLOW, or TIMED with the first live meter kind as cause
where TIMED is allowed. CLEAR FAULTS clears held flags, and CLEAR TOTALS the four totals, of one fitted head, or with
0xFF of every fitted head and of every head. The model's choices in it: log entry 3. -/
def Obligations.RestoreAndClearHeads : Prop :=
  ∀ (s : State) (n : Nat) (h : HeadNo),
    let p := s.part
    let x := p.record h
    let d := p.diag h
    let cleared := fun (d : Diag) => { d with
      held := d.held &&& d.live
      openDetail := if d.isLive .coilOpen then d.openDetail else 0
      shortDetail := if d.isLive .coilShort then d.shortDetail else 0 }
    let zeroed := fun (x : HeadRecord) => { x with doses := 0, rejects := 0, drainPulses := 0, uninspected := 0 }
    let meter := [FaultKind.meterSilent, .meterRunaway, .rateDeviation].find? d.isLive
    let timedOk := x.stored.timedAllowed && p.activeRecipe.any fun sr => sr.fields.timedAllowed
    p.takes →
    ((∀ g : HeadNo, g.val = n → p.fitted g = false) →
      exec (.restoreHead n) s = .next { s with part := p.refuses 0x1A .unknownHead } ∧
      (n ≠ 255 → exec (.clearFaults n) s = .next { s with part := p.refuses 0x1B .unknownHead } ∧
        exec (.clearTotals n) s = .next { s with part := p.refuses 0x1C .unknownHead })) ∧
    (p.fitted h = true → x.stored.inService = false →
      exec (.restoreHead h.val) s = .next { s with part := p.refuses 0x1A .wrongState }) ∧
    (p.fitted h = true → x.stored.inService = true → d.isLive .coilOpen = true ∨ d.isLive .coilShort = true →
      exec (.restoreHead h.val) s = .next { s with part := p.refuses 0x1A .stillFaulty }) ∧
    (p.fitted h = true → x.stored.inService = true → d.isLive .coilOpen = false → d.isLive .coilShort = false →
      ∃ t : Part, exec (.restoreHead h.val) s = .next { s with part := t.reply .line 0x1A answerOk } ∧
        (∀ g, g ≠ h → t.head g = p.head g) ∧ t.context h = p.context h ∧ t.entry h = p.entry h ∧
        t.record h = { x with
          promo := 0
          method := if meter.isSome && timedOk then .timed else .flow
          cause := if meter.isSome && timedOk then meter else none } ∧
        (t.diag h).held = d.held &&& d.live) ∧
    (p.fitted h = true →
      exec (.clearFaults h.val) s =
        .next { s with part := p.accepts 0x1B (Part.modHead h fun y => { y with diag := cleared d }) } ∧
      exec (.clearTotals h.val) s =
        .next { s with part := p.accepts 0x1C (Part.modHead h fun y => { y with record := zeroed x }) }) ∧
    (∃ t : Part, exec (.clearFaults 255) s = .next { s with part := t.reply .line 0x1B answerOk } ∧
      { t with heads := p.heads } = p.crcPassed .line ∧
      ∀ g, t.head g = if p.fitted g then { p.head g with diag := cleared (p.diag g) } else p.head g) ∧
    ∃ t : Part, exec (.clearTotals 255) s = .next { s with part := t.reply .line 0x1C answerOk } ∧
      { t with heads := p.heads } = p.crcPassed .line ∧
      ∀ g, t.head g = { p.head g with record := zeroed (p.record g) }

/-- SET DIAGNOSTICS is refused for a field out of range and, out of STANDBY, for a smaller N; accepted, N, the coil
test mode and the action selects change. At a new N every window keeps its newest N entries and RATE_DEVIATION is live
where more than half of N of them are deviant, a rise that is held and decided out of the warm-up and whose move to
TIMED empties the window, and not live elsewhere. A changed action select other than REPORT then decides its kind where
it is live out of the warm-up, and the mode OFF removes every mark. TEST COILS is refused where tests are barred, in mode OFF, and while an
operation is pending; accepted, it marks every fitted head in service, begins the test of those in REST, and ends at
once with none. The model's choices in it: log entry 3. -/
def Obligations.DiagnosticsAndCoilTests : Prop :=
  ∀ (s : State) (f : DiagFields),
    let p := s.part
    let m := p.machine
    let size := f.window.getD m.window
    let mode := (f.mode.bind modeOf).getD m.mode
    let served := fun (h : HeadNo) => p.fitted h && (p.record h).stored.inService
    let barred := p.control.prod ∈ [Prod.config, .drain, .safe] ∨ m.mode = .off
    let coilLive := bitsOf 64 (List.finRange 64) Fin.val fun h =>
      p.fitted h && ((p.diag h).isLive .coilOpen || (p.diag h).isLive .coilShort)
    p.takes →
    (diagFieldsOk f = false → exec (.setDiagnostics f) s = .next { s with part := p.refuses 0x1D .range }) ∧
    (diagFieldsOk f = true → size < m.window → p.control.prod ≠ .standby →
      exec (.setDiagnostics f) s = .next { s with part := p.refuses 0x1D .wrongState }) ∧
    (diagFieldsOk f = true → m.window ≤ size ∨ p.control.prod = .standby →
      ∃ t : Part, exec (.setDiagnostics f) s = .next { s with part := t.reply .line 0x1D answerOk } ∧
        { t.machine with actions := m.actions } = { m with window := size, mode := mode } ∧
        (∀ i : Fin 10, t.machine.actions[i] = ((f.actions[i]).bind actionOf).getD m.actions[i]) ∧
        (∀ h, t.entry h = p.entry h ∧ t.context h = p.context h ∧ (t.record h).stored = (p.record h).stored) ∧
        (m.mode ≠ .off → mode = .off → ∀ h, (t.diag h).mark = false) ∧
        (f.window = none → (∀ o : Fin 10, f.actions[o] = none) → t.heads = if m.mode ≠ .off ∧ mode = .off then
          p.heads.map (fun x => { x with diag := { x.diag with mark := false } }) else p.heads) ∧
        (∀ h,
          let newest := (p.diag h).window.drop ((p.diag h).window.length - size)
          let deviates := size < 2 * (newest.filter id).length
          let mid := if size ≠ m.window ∧ deviates then { p with machine := t.machine }.rungAfter h .rateDeviation
            else p.record h
          let emptied := decide (mid.method = .timed ∧ (p.record h).method ≠ .timed)
          let liveThen := fun k => if size ≠ m.window ∧ k = .rateDeviation then decide deviates && !emptied
            else (p.diag h).isLive k
          (t.record h =
            if p.fitted h = false then p.record h
            else if (p.record h).warm = 0 then mid.decidedAll t.machine (p.timedOk h) fun k =>
              liveThen k && actionFor t.machine k != actionFor m k && actionFor t.machine k != .report
            else mid) ∧
          (size ≠ m.window → p.fitted h = true → deviates → (p.diag h).isLive .rateDeviation = false →
            (t.diag h).isHeld .rateDeviation = true) ∧
          (size ≠ m.window → p.fitted h = true → (∀ o : Fin 10, f.actions[o] = none) →
            (t.diag h).window = (if emptied then [] else newest) ∧
            (t.diag h).isLive .rateDeviation = (decide deviates && !emptied)))) ∧
    (barred → exec .testCoils s = .next { s with part := p.refuses 0x20 .wrongState }) ∧
    (¬ barred → p.slot.isPending = true → exec .testCoils s = .next { s with part := p.refuses 0x20 .busy }) ∧
    (¬ barred → p.slot.isPending = false → (∃ h, served h = true) →
      ∃ t : Part, exec .testCoils s = .next { s with part := t.reply .line 0x20 answerOk } ∧
        { t with heads := p.heads } = { p.crcPassed .line with slot := .pendingTest, coilTest := .running } ∧
        ∀ h, t.head h = if served h then { p.head h with
            diag := { p.diag h with mark := true }
            entry := if (p.entry h).state = .rest then
              { p.entry h with state := .testing, timer := .running (p.now + 20), reports := noReports } else p.entry h }
          else p.head h) ∧
    (¬ barred → p.slot.isPending = false → (∀ h, served h = false) → (∀ h, (p.diag h).mark = false) →
      exec .testCoils s = .next { s with part := p.accepts 0x20 fun q =>
        { q with slot := .finished (.testDone coilLive), coilTest := .idle } })

/-! ### Calibration doses and measurements -/

/-- CAL DOSE makes its checks in order: STANDBY, a fitted head, the counts, a head in service and in REST at
standstill, no operation pending. Accepted, it opens the gas and fine valves, and the fast valve when there is a fast
phase, and starts the timeout of 30 s and the silence of 2 s. STOP CAL closes the valves with the result ABORTED and
is refused without a dose. The model's choices in it: log entry 3. -/
def Obligations.CalibrationDosesBeginAndStop : Prop :=
  ∀ (s : State) (n pulses fine : Nat) (h : HeadNo) (k : CalRecord),
    let p := s.part
    let counts := 1 ≤ pulses ∧ pulses ≤ 200000 ∧ fine ≤ pulses
    let ready := (p.record h).stored.inService = true ∧ (p.entry h).state = .rest ∧ p.carousel.standstill = true
    p.takes →
    (p.control.prod ≠ .standby →
      exec (.calDose n pulses fine) s = .next { s with part := p.refuses 0x21 .wrongState }) ∧
    (p.control.prod = .standby → (∀ g : HeadNo, g.val = n → p.fitted g = false) →
      exec (.calDose n pulses fine) s = .next { s with part := p.refuses 0x21 .unknownHead }) ∧
    (p.control.prod = .standby → p.fitted h = true →
      (¬ counts → exec (.calDose h.val pulses fine) s = .next { s with part := p.refuses 0x21 .range }) ∧
      (counts → ¬ ready → exec (.calDose h.val pulses fine) s = .next { s with part := p.refuses 0x21 .wrongState }) ∧
      (counts → ready → p.slot.isPending = true →
        exec (.calDose h.val pulses fine) s = .next { s with part := p.refuses 0x21 .busy }) ∧
      (counts → ready → p.slot.isPending = false →
        exec (.calDose h.val pulses fine) s = .next { s with part := p.accepts 0x21 fun q =>
          { q.modHead h fun x => { x with
              entry := { p.entry h with gas := true, fast := decide (fine < pulses), fine := true } } with
            slot := .pendingCal {
              head := h, pCal := pulses, pFine := fine, k := (p.record h).stored.k
              settle := (p.activeRecipe.map (·.fields.settle)).getD 500
              phase := if fine < pulses then .fast else .fine
              counted := 0, after := 0, start := p.now, fastClose := none, completion := none
              timeoutTimer := .running (p.now + 30000), silenceTimer := .running (p.now + 2000)
              settleTimer := .stopped } } })) ∧
    (p.slot.isCal = false → exec .stopCal s = .next { s with part := p.refuses 0x22 .wrongState }) ∧
    (p.slot = .pendingCal k →
      exec .stopCal s = .next { s with part := p.accepts 0x22 fun q =>
        { q.modHead k.head fun x => { x with
            entry := { p.entry k.head with gas := false, fast := false, fine := false } } with
          slot := .finished (.calAborted .stopCal k.counted k.after (p.now - k.start)) } })

/-- A pulse of a calibration dose adds to its count and restarts the silence timer; the fast valve closes when the
fine count remains, and every valve at the last pulse, after which pulses are after-run. The settle expiry hands in
DONE with the counts, the time to the completion and the fast rate; the silence and the timeout close the valves with
SILENT and TIMEOUT. Without a dose, or with its timer stopped, nothing happens. The model's choices in it: log entries
2 and 16. -/
def Obligations.CalibrationDosesEndWithAResult : Prop :=
  ∀ (s : State) (k : CalRecord) (due : Nat),
    let p := s.part
    let h := k.head
    let e := p.entry h
    let n := k.counted + 1
    let now := max p.now due
    let q := (p.moduleAnswers (moduleOf h)).modHead h fun x => { x with demandCount := x.demandCount + 1 }
    let counted := { k with counted := n, silenceTimer := .running (p.now + 2000) }
    let pulse := fun (f : Part → Part) => exec (.flowmeterPulse h) s = .next { s with part := f q }
    let shut := { e with gas := false, fast := false, fine := false }
    let ended := fun (r : OpResult) =>
      { { p with now := now }.modHead h fun x => { x with entry := shut } with slot := .finished r }
    (p.slot.isCal = false → exec .calSilenceExpiry s = .next s ∧ exec .calTimeoutExpiry s = .next s ∧
      exec .calSettleExpiry s = .next s) ∧
    (p.slot = .pendingCal k →
      (p.phase ≠ .inReset → p.fitted h = true → p.control.prod ∉ [Prod.config, .drain] →
        (k.phase = .settle → pulse fun t =>
          { t with slot := .pendingCal { k with after := min 16777215 (k.after + 1) } }) ∧
        (k.phase ≠ .settle → n = k.pCal → pulse fun t =>
          { t.modHead h fun x => { x with entry := shut } with slot := .pendingCal { counted with
              phase := .settle
              completion := some p.now
              fastClose := if k.pFine = 0 then some p.now else k.fastClose
              timeoutTimer := .stopped, silenceTimer := .stopped, settleTimer := .running (p.now + k.settle) } }) ∧
        (k.phase = .fast → 0 < k.pFine → n = k.pCal - k.pFine → n ≠ k.pCal → pulse fun t =>
          { t.modHead h fun x => { x with entry := { e with fast := false } } with
            slot := .pendingCal { counted with phase := .fine, fastClose := some p.now } }) ∧
        (k.phase = .fast → n ≠ k.pCal → k.pFine = 0 ∨ n ≠ k.pCal - k.pFine → pulse fun t =>
          { t with slot := .pendingCal counted }) ∧
        (k.phase = .fine → n ≠ k.pCal → pulse fun t => { t with slot := .pendingCal counted })) ∧
      (k.silenceTimer = .stopped → exec .calSilenceExpiry s = .next s) ∧
      (k.silenceTimer = .running due →
        exec .calSilenceExpiry s = .next { s with part := ended (.calSilent k.counted (now - k.start)) }) ∧
      (k.timeoutTimer = .stopped → exec .calTimeoutExpiry s = .next s) ∧
      (k.timeoutTimer = .running due →
        exec .calTimeoutExpiry s = .next { s with part := ended (.calTimeout k.counted (now - k.start)) }) ∧
      (k.settleTimer = .stopped → exec .calSettleExpiry s = .next s) ∧
      (k.settleTimer = .running due →
        let span := (k.fastClose.getD 0) - k.start
        let rate := if k.fastClose.isSome ∧ k.pFine < k.pCal ∧ 100 ≤ span then
          (2 * ((k.pCal - k.pFine) * 10000000) + k.k * span) / (2 * (k.k * span)) else 0
        exec .calSettleExpiry s = .next { s with part := { p with
          now := now
          slot := .finished (.calDone k.counted k.after (k.completion.getD k.start - k.start) rate) } }))

/-- A MEASUREMENT of no DISCHARGED record is UNKNOWN and changes nothing. For one it makes its checks in order: 65535 or an
unsuitable container is IGNORED, one out of date for the active recipe or the trim-from marker STALE, an error beyond the
gross limit OUTLIER, one within the deadband NO_CHANGE; the rest is ACCEPTED and moves the trim by error times gain over 8,
from -200 to 200. Every such record leaves the track. The model's choices in it: log entry 3. -/
def Obligations.MeasurementsCorrectTheTrim : Prop :=
  ∀ (s : State) (n volume : Nat) (r : TrackRecord) (d : Discharged) (sr : StoredRecipe),
    let p := s.part
    let h := r.head
    let x := p.record h
    let has := fun (y : TrackRecord) => y.isDischarged && y.number == n
    let err := ((volume : Int) - (d.v.getD 0 : Nat)).natAbs
    let answers := fun (q : Part) (code : Nat) =>
      q.reply .inspection 0x30 ⟨.ok, [byteOf n, byteOf (n / 256), byteOf code]⟩
    let gone := { p with track := p.track.eraseP has }
    let unfit := d.verdict = .reject ∨ hasFlag d.flags .warmup = true ∨ hasFlag d.flags .meterLost = true ∨
      d.used = .none ∨ p.fitted h = false ∨ x.stored.inService = false
    let late := p.activeRecipe = none ∨ r.slot ≠ p.control.activeSlot ∨
      p.activeRecipe.map (·.revision) ≠ d.revision ∨ x.trimFrom.all (olderThan r.number) = true
    let codeIs := fun (code : Nat) => exec (.measurement n volume) s = .next { s with part := answers gone code }
    p.takes .inspection →
    ((∀ y ∈ p.track, has y = false) → exec (.measurement n volume) s = .next { s with part := answers p 5 }) ∧
    (p.track.find? has = some r → r.result = some d →
      (volume = 65535 ∨ unfit → codeIs 3) ∧
      (volume ≠ 65535 → ¬ unfit → late → codeIs 2) ∧
      (volume ≠ 65535 → ¬ unfit → ¬ late → p.activeRecipe = some sr →
        (sr.fields.gross < err → codeIs 4) ∧
        (err ≤ sr.fields.gross → err ≤ sr.fields.deadband ∨ sr.fields.gain = 0 → codeIs 1) ∧
        (err ≤ sr.fields.gross → sr.fields.deadband < err → 0 < sr.fields.gain →
          let move := ((volume : Int) - (d.v.getD 0 : Nat)) * sr.fields.gain
          let trim := max (-200) (min 200 (x.stored.t - (if 0 ≤ move then (move + 4) / 8 else -((-move + 4) / 8))))
          ∃ t : Part, exec (.measurement n volume) s = .next { s with part := answers t 0 } ∧
            t.track = gone.track ∧ (∀ g, g ≠ h → t.head g = p.head g) ∧ t.context h = p.context h ∧
            (t.record h).stored = { x.stored with t := trim } ∧ (t.record h).trimFrom = none ∧
            (t.diag h).isLive .trimLimit = decide (trim = 200 ∨ trim = -200))))

/-! ### Invariants -/

/-- Every step keeps the relief interlock: at each head the relief valve is commanded open in RELIEF and VENT alone,
and never together with the gas valve or a liquid valve. Every step also keeps the liquid interlock: a fast or fine
valve is commanded open only in FILL_FAST or FILL_FINE, on a head in service in DRAIN with the clean valves opened, or
during a CAL DOSE before its settle, and a head that is not fitted keeps an entry with every valve closed and holds no
container. The model's choices in it: log entries 1 and 21. -/
def Obligations.StepKeepsTheValveInterlocks : Prop :=
  ∀ s t : State, step s = .next t →
    (s.part.ReliefInterlock → t.part.ReliefInterlock) ∧ (s.part.LiquidInterlock → t.part.LiquidInterlock)

/-- Every step keeps the track and the heads in agreement: the head states from SEALING to WAIT_DISCHARGE are those
with a container, each such head has one ON_CAROUSEL record with its number and no other head has one, a head that is
not fitted holds none, every DISCHARGED record stands before every ON_CAROUSEL one, and at most D + 12 are DISCHARGED.
The model's choices in it: log entry 1. -/
def Obligations.StepKeepsTrackAndHeadsInAgreement : Prop :=
  ∀ s t : State, s.part.TrackAgrees → step s = .next t → t.part.TrackAgrees

/-- Every step keeps head records, diagnostic entries and recipe slots in their ranges, and keeps the Supply Monitor's
values in theirs, its timers with its states, every transmit queue at 80 frames and at most one reply, the line and
supply queues at that reply alone, a held frame behind a reply, and the memory in canonical form; each of the two
without the other. The model's choices in it: log entries 1 and 5. -/
def Obligations.StepKeepsEveryValueInRange : Prop :=
  ∀ s t : State, step s = .next t →
    (s.part.RecordsInRange → t.part.RecordsInRange) ∧ (s.part.SupplyAndLinksInRange → t.part.SupplyAndLinksInRange)

/-- Every step keeps the fault record with SAFE, its first cause among its causes, the hold-limit timer with HOLD and
the opened clean command with DRAIN. The model's choices in it: log entry 1. -/
def Obligations.StepKeepsTheFaultRecordWithSafe : Prop :=
  ∀ s t : State, s.part.FaultRecordFits → step s = .next t → t.part.FaultRecordFits

/-- Every step keeps the position below N_inc, the lag within the reverse limit, a boundary pointer for exactly the
fitted heads of a referenced position with a valid configuration, and CONFIG_BAD with a configuration that is not
valid. The model's choices in it: log entries 1 and 4. -/
def Obligations.StepKeepsTheTrackerInRange : Prop :=
  ∀ s t : State, s.part.TrackerInRange → step s = .next t → t.part.TrackerInRange

/-- The state after reset meets the seven invariants of the part. The model's choices in it: log entry 4. -/
def Obligations.ResetMeetsTheInvariants : Prop :=
  State.reset.part.ReliefInterlock ∧ State.reset.part.LiquidInterlock ∧ State.reset.part.TrackAgrees ∧ State.reset.part.RecordsInRange ∧
  State.reset.part.SupplyAndLinksInRange ∧ State.reset.part.FaultRecordFits ∧ State.reset.part.TrackerInRange
end

