-- ==== Sys2Proof/Laws/State.lean ====
section
/-! SUPPORT. One lemma per field per basic update of the state, so that no proof unfolds a record update. -/

namespace Sys2Proof.Machine

open Sys2Proof

/-! ### Reading and changing one head -/

@[simp] theorem Part.head_modHead (h h' : HeadNo) (f : Head → Head) (p : Part) :
    (p.modHead h f).head h' = if h' = h then f (p.head h) else p.head h' := by
  by_cases e : h' = h
  · subst e; simp [Part.modHead, Part.head]
  · have : h.val ≠ h'.val := fun c => e (Fin.ext c.symm)
    simp [Part.modHead, Part.head, e, Vector.getElem_set_ne, this]

theorem Part.modHead_modHead (h : HeadNo) (f g : Head → Head) (p : Part) :
    (p.modHead h f).modHead h g = p.modHead h (g ∘ f) := by
  simp [Part.modHead, Part.head]

@[simp] theorem Part.entry_modEntry (h h' : HeadNo) (f : Entry → Entry) (p : Part) :
    (p.modEntry h f).entry h' = if h' = h then f (p.entry h) else p.entry h' := by
  simp only [Part.modEntry, Part.entry, Part.head_modHead]; split <;> simp_all

@[simp] theorem Part.context_modContext (h h' : HeadNo) (f : Context → Context) (p : Part) :
    (p.modContext h f).context h' = if h' = h then (p.context h).map f else p.context h' := by
  simp only [Part.modContext, Part.context, Part.head_modHead]; split <;> simp_all

@[simp] theorem Part.record_modRecord (h h' : HeadNo) (f : HeadRecord → HeadRecord) (p : Part) :
    (p.modRecord h f).record h' = if h' = h then f (p.record h) else p.record h' := by
  simp only [Part.modRecord, Part.record, Part.head_modHead]; split <;> simp_all

@[simp] theorem Part.diag_modDiag (h h' : HeadNo) (f : Diag → Diag) (p : Part) :
    (p.modDiag h f).diag h' = if h' = h then f (p.diag h) else p.diag h' := by
  simp only [Part.modDiag, Part.diag, Part.head_modHead]; split <;> simp_all

@[simp] theorem Part.context_modEntry (h h' : HeadNo) (f : Entry → Entry) (p : Part) :
    (p.modEntry h f).context h' = p.context h' := by
  simp only [Part.modEntry, Part.context, Part.head_modHead]; split <;> simp_all

@[simp] theorem Part.record_modEntry (h h' : HeadNo) (f : Entry → Entry) (p : Part) :
    (p.modEntry h f).record h' = p.record h' := by
  simp only [Part.modEntry, Part.record, Part.head_modHead]; split <;> simp_all

@[simp] theorem Part.diag_modEntry (h h' : HeadNo) (f : Entry → Entry) (p : Part) :
    (p.modEntry h f).diag h' = p.diag h' := by
  simp only [Part.modEntry, Part.diag, Part.head_modHead]; split <;> simp_all

@[simp] theorem Part.entry_modContext (h h' : HeadNo) (f : Context → Context) (p : Part) :
    (p.modContext h f).entry h' = p.entry h' := by
  simp only [Part.modContext, Part.entry, Part.head_modHead]; split <;> simp_all

@[simp] theorem Part.record_modContext (h h' : HeadNo) (f : Context → Context) (p : Part) :
    (p.modContext h f).record h' = p.record h' := by
  simp only [Part.modContext, Part.record, Part.head_modHead]; split <;> simp_all

@[simp] theorem Part.diag_modContext (h h' : HeadNo) (f : Context → Context) (p : Part) :
    (p.modContext h f).diag h' = p.diag h' := by
  simp only [Part.modContext, Part.diag, Part.head_modHead]; split <;> simp_all

@[simp] theorem Part.entry_modRecord (h h' : HeadNo) (f : HeadRecord → HeadRecord) (p : Part) :
    (p.modRecord h f).entry h' = p.entry h' := by
  simp only [Part.modRecord, Part.entry, Part.head_modHead]; split <;> simp_all

@[simp] theorem Part.context_modRecord (h h' : HeadNo) (f : HeadRecord → HeadRecord) (p : Part) :
    (p.modRecord h f).context h' = p.context h' := by
  simp only [Part.modRecord, Part.context, Part.head_modHead]; split <;> simp_all

@[simp] theorem Part.diag_modRecord (h h' : HeadNo) (f : HeadRecord → HeadRecord) (p : Part) :
    (p.modRecord h f).diag h' = p.diag h' := by
  simp only [Part.modRecord, Part.diag, Part.head_modHead]; split <;> simp_all

@[simp] theorem Part.entry_modDiag (h h' : HeadNo) (f : Diag → Diag) (p : Part) :
    (p.modDiag h f).entry h' = p.entry h' := by
  simp only [Part.modDiag, Part.entry, Part.head_modHead]; split <;> simp_all

@[simp] theorem Part.context_modDiag (h h' : HeadNo) (f : Diag → Diag) (p : Part) :
    (p.modDiag h f).context h' = p.context h' := by
  simp only [Part.modDiag, Part.context, Part.head_modHead]; split <;> simp_all

@[simp] theorem Part.record_modDiag (h h' : HeadNo) (f : Diag → Diag) (p : Part) :
    (p.modDiag h f).record h' = p.record h' := by
  simp only [Part.modDiag, Part.record, Part.head_modHead]; split <;> simp_all

/-! ### The other fields -/

@[simp] theorem Part.modHead_now (h : HeadNo) (f : Head → Head) (p : Part) : (p.modHead h f).now = p.now := rfl
@[simp] theorem Part.modHead_phase (h : HeadNo) (f : Head → Head) (p : Part) : (p.modHead h f).phase = p.phase := rfl
@[simp] theorem Part.modHead_firstHead (h : HeadNo) (f : Head → Head) (p : Part) : (p.modHead h f).firstHead = p.firstHead := rfl
@[simp] theorem Part.modHead_freeCount (h : HeadNo) (f : Head → Head) (p : Part) : (p.modHead h f).freeCount = p.freeCount := rfl
@[simp] theorem Part.modHead_pins (h : HeadNo) (f : Head → Head) (p : Part) : (p.modHead h f).pins = p.pins := rfl
@[simp] theorem Part.modHead_memory (h : HeadNo) (f : Head → Head) (p : Part) : (p.modHead h f).memory = p.memory := rfl
@[simp] theorem Part.modHead_machine (h : HeadNo) (f : Head → Head) (p : Part) : (p.modHead h f).machine = p.machine := rfl
@[simp] theorem Part.modHead_configBad (h : HeadNo) (f : Head → Head) (p : Part) : (p.modHead h f).configBad = p.configBad := rfl
@[simp] theorem Part.modHead_recipes (h : HeadNo) (f : Head → Head) (p : Part) : (p.modHead h f).recipes = p.recipes := rfl
@[simp] theorem Part.modHead_carousel (h : HeadNo) (f : Head → Head) (p : Part) : (p.modHead h f).carousel = p.carousel := rfl
@[simp] theorem Part.modHead_advisory (h : HeadNo) (f : Head → Head) (p : Part) : (p.modHead h f).advisory = p.advisory := rfl
@[simp] theorem Part.modHead_track (h : HeadNo) (f : Head → Head) (p : Part) : (p.modHead h f).track = p.track := rfl
@[simp] theorem Part.modHead_nextNumber (h : HeadNo) (f : Head → Head) (p : Part) : (p.modHead h f).nextNumber = p.nextNumber := rfl
@[simp] theorem Part.modHead_coilTest (h : HeadNo) (f : Head → Head) (p : Part) : (p.modHead h f).coilTest = p.coilTest := rfl
@[simp] theorem Part.modHead_supply (h : HeadNo) (f : Head → Head) (p : Part) : (p.modHead h f).supply = p.supply := rfl
@[simp] theorem Part.modHead_control (h : HeadNo) (f : Head → Head) (p : Part) : (p.modHead h f).control = p.control := rfl
@[simp] theorem Part.modHead_modules (h : HeadNo) (f : Head → Head) (p : Part) : (p.modHead h f).modules = p.modules := rfl
@[simp] theorem Part.modHead_slot (h : HeadNo) (f : Head → Head) (p : Part) : (p.modHead h f).slot = p.slot := rfl
@[simp] theorem Part.modHead_links (h : HeadNo) (f : Head → Head) (p : Part) : (p.modHead h f).links = p.links := rfl
@[simp] theorem Part.modHead_lineTimer (h : HeadNo) (f : Head → Head) (p : Part) : (p.modHead h f).lineTimer = p.lineTimer := rfl
@[simp] theorem Part.modHead_supplyTimer (h : HeadNo) (f : Head → Head) (p : Part) : (p.modHead h f).supplyTimer = p.supplyTimer := rfl

@[simp] theorem Part.clockTo_phase (due : Nat) (p : Part) : (p.clockTo due).phase = p.phase := rfl
@[simp] theorem Part.clockTo_firstHead (due : Nat) (p : Part) : (p.clockTo due).firstHead = p.firstHead := rfl
@[simp] theorem Part.clockTo_freeCount (due : Nat) (p : Part) : (p.clockTo due).freeCount = p.freeCount := rfl
@[simp] theorem Part.clockTo_pins (due : Nat) (p : Part) : (p.clockTo due).pins = p.pins := rfl
@[simp] theorem Part.clockTo_memory (due : Nat) (p : Part) : (p.clockTo due).memory = p.memory := rfl
@[simp] theorem Part.clockTo_machine (due : Nat) (p : Part) : (p.clockTo due).machine = p.machine := rfl
@[simp] theorem Part.clockTo_configBad (due : Nat) (p : Part) : (p.clockTo due).configBad = p.configBad := rfl
@[simp] theorem Part.clockTo_recipes (due : Nat) (p : Part) : (p.clockTo due).recipes = p.recipes := rfl
@[simp] theorem Part.clockTo_carousel (due : Nat) (p : Part) : (p.clockTo due).carousel = p.carousel := rfl
@[simp] theorem Part.clockTo_heads (due : Nat) (p : Part) : (p.clockTo due).heads = p.heads := rfl
@[simp] theorem Part.clockTo_advisory (due : Nat) (p : Part) : (p.clockTo due).advisory = p.advisory := rfl
@[simp] theorem Part.clockTo_track (due : Nat) (p : Part) : (p.clockTo due).track = p.track := rfl
@[simp] theorem Part.clockTo_nextNumber (due : Nat) (p : Part) : (p.clockTo due).nextNumber = p.nextNumber := rfl
@[simp] theorem Part.clockTo_coilTest (due : Nat) (p : Part) : (p.clockTo due).coilTest = p.coilTest := rfl
@[simp] theorem Part.clockTo_supply (due : Nat) (p : Part) : (p.clockTo due).supply = p.supply := rfl
@[simp] theorem Part.clockTo_control (due : Nat) (p : Part) : (p.clockTo due).control = p.control := rfl
@[simp] theorem Part.clockTo_modules (due : Nat) (p : Part) : (p.clockTo due).modules = p.modules := rfl
@[simp] theorem Part.clockTo_slot (due : Nat) (p : Part) : (p.clockTo due).slot = p.slot := rfl
@[simp] theorem Part.clockTo_links (due : Nat) (p : Part) : (p.clockTo due).links = p.links := rfl
@[simp] theorem Part.clockTo_lineTimer (due : Nat) (p : Part) : (p.clockTo due).lineTimer = p.lineTimer := rfl
@[simp] theorem Part.clockTo_supplyTimer (due : Nat) (p : Part) : (p.clockTo due).supplyTimer = p.supplyTimer := rfl

@[simp] theorem Part.idleTick_phase (p : Part) : (p.idleTick).phase = p.phase := rfl
@[simp] theorem Part.idleTick_firstHead (p : Part) : (p.idleTick).firstHead = p.firstHead := rfl
@[simp] theorem Part.idleTick_freeCount (p : Part) : (p.idleTick).freeCount = p.freeCount := rfl
@[simp] theorem Part.idleTick_pins (p : Part) : (p.idleTick).pins = p.pins := rfl
@[simp] theorem Part.idleTick_memory (p : Part) : (p.idleTick).memory = p.memory := rfl
@[simp] theorem Part.idleTick_machine (p : Part) : (p.idleTick).machine = p.machine := rfl
@[simp] theorem Part.idleTick_configBad (p : Part) : (p.idleTick).configBad = p.configBad := rfl
@[simp] theorem Part.idleTick_recipes (p : Part) : (p.idleTick).recipes = p.recipes := rfl
@[simp] theorem Part.idleTick_carousel (p : Part) : (p.idleTick).carousel = p.carousel := rfl
@[simp] theorem Part.idleTick_heads (p : Part) : (p.idleTick).heads = p.heads := rfl
@[simp] theorem Part.idleTick_advisory (p : Part) : (p.idleTick).advisory = p.advisory := rfl
@[simp] theorem Part.idleTick_track (p : Part) : (p.idleTick).track = p.track := rfl
@[simp] theorem Part.idleTick_nextNumber (p : Part) : (p.idleTick).nextNumber = p.nextNumber := rfl
@[simp] theorem Part.idleTick_coilTest (p : Part) : (p.idleTick).coilTest = p.coilTest := rfl
@[simp] theorem Part.idleTick_supply (p : Part) : (p.idleTick).supply = p.supply := rfl
@[simp] theorem Part.idleTick_control (p : Part) : (p.idleTick).control = p.control := rfl
@[simp] theorem Part.idleTick_modules (p : Part) : (p.idleTick).modules = p.modules := rfl
@[simp] theorem Part.idleTick_slot (p : Part) : (p.idleTick).slot = p.slot := rfl
@[simp] theorem Part.idleTick_links (p : Part) : (p.idleTick).links = p.links := rfl
@[simp] theorem Part.idleTick_lineTimer (p : Part) : (p.idleTick).lineTimer = p.lineTimer := rfl
@[simp] theorem Part.idleTick_supplyTimer (p : Part) : (p.idleTick).supplyTimer = p.supplyTimer := rfl

@[simp] theorem Part.modCarousel_now (f : Carousel → Carousel) (p : Part) : (p.modCarousel f).now = p.now := rfl
@[simp] theorem Part.modCarousel_phase (f : Carousel → Carousel) (p : Part) : (p.modCarousel f).phase = p.phase := rfl
@[simp] theorem Part.modCarousel_firstHead (f : Carousel → Carousel) (p : Part) : (p.modCarousel f).firstHead = p.firstHead := rfl
@[simp] theorem Part.modCarousel_freeCount (f : Carousel → Carousel) (p : Part) : (p.modCarousel f).freeCount = p.freeCount := rfl
@[simp] theorem Part.modCarousel_pins (f : Carousel → Carousel) (p : Part) : (p.modCarousel f).pins = p.pins := rfl
@[simp] theorem Part.modCarousel_memory (f : Carousel → Carousel) (p : Part) : (p.modCarousel f).memory = p.memory := rfl
@[simp] theorem Part.modCarousel_machine (f : Carousel → Carousel) (p : Part) : (p.modCarousel f).machine = p.machine := rfl
@[simp] theorem Part.modCarousel_configBad (f : Carousel → Carousel) (p : Part) : (p.modCarousel f).configBad = p.configBad := rfl
@[simp] theorem Part.modCarousel_recipes (f : Carousel → Carousel) (p : Part) : (p.modCarousel f).recipes = p.recipes := rfl
@[simp] theorem Part.modCarousel_heads (f : Carousel → Carousel) (p : Part) : (p.modCarousel f).heads = p.heads := rfl
@[simp] theorem Part.modCarousel_advisory (f : Carousel → Carousel) (p : Part) : (p.modCarousel f).advisory = p.advisory := rfl
@[simp] theorem Part.modCarousel_track (f : Carousel → Carousel) (p : Part) : (p.modCarousel f).track = p.track := rfl
@[simp] theorem Part.modCarousel_nextNumber (f : Carousel → Carousel) (p : Part) : (p.modCarousel f).nextNumber = p.nextNumber := rfl
@[simp] theorem Part.modCarousel_coilTest (f : Carousel → Carousel) (p : Part) : (p.modCarousel f).coilTest = p.coilTest := rfl
@[simp] theorem Part.modCarousel_supply (f : Carousel → Carousel) (p : Part) : (p.modCarousel f).supply = p.supply := rfl
@[simp] theorem Part.modCarousel_control (f : Carousel → Carousel) (p : Part) : (p.modCarousel f).control = p.control := rfl
@[simp] theorem Part.modCarousel_modules (f : Carousel → Carousel) (p : Part) : (p.modCarousel f).modules = p.modules := rfl
@[simp] theorem Part.modCarousel_slot (f : Carousel → Carousel) (p : Part) : (p.modCarousel f).slot = p.slot := rfl
@[simp] theorem Part.modCarousel_links (f : Carousel → Carousel) (p : Part) : (p.modCarousel f).links = p.links := rfl
@[simp] theorem Part.modCarousel_lineTimer (f : Carousel → Carousel) (p : Part) : (p.modCarousel f).lineTimer = p.lineTimer := rfl
@[simp] theorem Part.modCarousel_supplyTimer (f : Carousel → Carousel) (p : Part) : (p.modCarousel f).supplyTimer = p.supplyTimer := rfl

@[simp] theorem Part.setPort_now (port : Port) (x : PortState) (p : Part) : (p.setPort port x).now = p.now := rfl
@[simp] theorem Part.setPort_phase (port : Port) (x : PortState) (p : Part) : (p.setPort port x).phase = p.phase := rfl
@[simp] theorem Part.setPort_firstHead (port : Port) (x : PortState) (p : Part) : (p.setPort port x).firstHead = p.firstHead := rfl
@[simp] theorem Part.setPort_freeCount (port : Port) (x : PortState) (p : Part) : (p.setPort port x).freeCount = p.freeCount := rfl
@[simp] theorem Part.setPort_pins (port : Port) (x : PortState) (p : Part) : (p.setPort port x).pins = p.pins := rfl
@[simp] theorem Part.setPort_memory (port : Port) (x : PortState) (p : Part) : (p.setPort port x).memory = p.memory := rfl
@[simp] theorem Part.setPort_machine (port : Port) (x : PortState) (p : Part) : (p.setPort port x).machine = p.machine := rfl
@[simp] theorem Part.setPort_configBad (port : Port) (x : PortState) (p : Part) : (p.setPort port x).configBad = p.configBad := rfl
@[simp] theorem Part.setPort_recipes (port : Port) (x : PortState) (p : Part) : (p.setPort port x).recipes = p.recipes := rfl
@[simp] theorem Part.setPort_carousel (port : Port) (x : PortState) (p : Part) : (p.setPort port x).carousel = p.carousel := rfl
@[simp] theorem Part.setPort_heads (port : Port) (x : PortState) (p : Part) : (p.setPort port x).heads = p.heads := rfl
@[simp] theorem Part.setPort_advisory (port : Port) (x : PortState) (p : Part) : (p.setPort port x).advisory = p.advisory := rfl
@[simp] theorem Part.setPort_track (port : Port) (x : PortState) (p : Part) : (p.setPort port x).track = p.track := rfl
@[simp] theorem Part.setPort_nextNumber (port : Port) (x : PortState) (p : Part) : (p.setPort port x).nextNumber = p.nextNumber := rfl
@[simp] theorem Part.setPort_coilTest (port : Port) (x : PortState) (p : Part) : (p.setPort port x).coilTest = p.coilTest := rfl
@[simp] theorem Part.setPort_supply (port : Port) (x : PortState) (p : Part) : (p.setPort port x).supply = p.supply := rfl
@[simp] theorem Part.setPort_control (port : Port) (x : PortState) (p : Part) : (p.setPort port x).control = p.control := rfl
@[simp] theorem Part.setPort_modules (port : Port) (x : PortState) (p : Part) : (p.setPort port x).modules = p.modules := rfl
@[simp] theorem Part.setPort_slot (port : Port) (x : PortState) (p : Part) : (p.setPort port x).slot = p.slot := rfl
@[simp] theorem Part.setPort_lineTimer (port : Port) (x : PortState) (p : Part) : (p.setPort port x).lineTimer = p.lineTimer := rfl
@[simp] theorem Part.setPort_supplyTimer (port : Port) (x : PortState) (p : Part) : (p.setPort port x).supplyTimer = p.supplyTimer := rfl

@[simp] theorem Part.setSeal_now (h : HeadNo) (b : Bool) (p : Part) : (p.setSeal h b).now = p.now := rfl
@[simp] theorem Part.setSeal_phase (h : HeadNo) (b : Bool) (p : Part) : (p.setSeal h b).phase = p.phase := rfl
@[simp] theorem Part.setSeal_firstHead (h : HeadNo) (b : Bool) (p : Part) : (p.setSeal h b).firstHead = p.firstHead := rfl
@[simp] theorem Part.setSeal_freeCount (h : HeadNo) (b : Bool) (p : Part) : (p.setSeal h b).freeCount = p.freeCount := rfl
@[simp] theorem Part.setSeal_memory (h : HeadNo) (b : Bool) (p : Part) : (p.setSeal h b).memory = p.memory := rfl
@[simp] theorem Part.setSeal_machine (h : HeadNo) (b : Bool) (p : Part) : (p.setSeal h b).machine = p.machine := rfl
@[simp] theorem Part.setSeal_configBad (h : HeadNo) (b : Bool) (p : Part) : (p.setSeal h b).configBad = p.configBad := rfl
@[simp] theorem Part.setSeal_recipes (h : HeadNo) (b : Bool) (p : Part) : (p.setSeal h b).recipes = p.recipes := rfl
@[simp] theorem Part.setSeal_carousel (h : HeadNo) (b : Bool) (p : Part) : (p.setSeal h b).carousel = p.carousel := rfl
@[simp] theorem Part.setSeal_heads (h : HeadNo) (b : Bool) (p : Part) : (p.setSeal h b).heads = p.heads := rfl
@[simp] theorem Part.setSeal_advisory (h : HeadNo) (b : Bool) (p : Part) : (p.setSeal h b).advisory = p.advisory := rfl
@[simp] theorem Part.setSeal_track (h : HeadNo) (b : Bool) (p : Part) : (p.setSeal h b).track = p.track := rfl
@[simp] theorem Part.setSeal_nextNumber (h : HeadNo) (b : Bool) (p : Part) : (p.setSeal h b).nextNumber = p.nextNumber := rfl
@[simp] theorem Part.setSeal_coilTest (h : HeadNo) (b : Bool) (p : Part) : (p.setSeal h b).coilTest = p.coilTest := rfl
@[simp] theorem Part.setSeal_supply (h : HeadNo) (b : Bool) (p : Part) : (p.setSeal h b).supply = p.supply := rfl
@[simp] theorem Part.setSeal_control (h : HeadNo) (b : Bool) (p : Part) : (p.setSeal h b).control = p.control := rfl
@[simp] theorem Part.setSeal_modules (h : HeadNo) (b : Bool) (p : Part) : (p.setSeal h b).modules = p.modules := rfl
@[simp] theorem Part.setSeal_slot (h : HeadNo) (b : Bool) (p : Part) : (p.setSeal h b).slot = p.slot := rfl
@[simp] theorem Part.setSeal_links (h : HeadNo) (b : Bool) (p : Part) : (p.setSeal h b).links = p.links := rfl
@[simp] theorem Part.setSeal_lineTimer (h : HeadNo) (b : Bool) (p : Part) : (p.setSeal h b).lineTimer = p.lineTimer := rfl
@[simp] theorem Part.setSeal_supplyTimer (h : HeadNo) (b : Bool) (p : Part) : (p.setSeal h b).supplyTimer = p.supplyTimer := rfl

@[simp] theorem Part.setHoldTimer_now (t : Timer) (p : Part) : (p.setHoldTimer t).now = p.now := rfl
@[simp] theorem Part.setHoldTimer_phase (t : Timer) (p : Part) : (p.setHoldTimer t).phase = p.phase := rfl
@[simp] theorem Part.setHoldTimer_firstHead (t : Timer) (p : Part) : (p.setHoldTimer t).firstHead = p.firstHead := rfl
@[simp] theorem Part.setHoldTimer_freeCount (t : Timer) (p : Part) : (p.setHoldTimer t).freeCount = p.freeCount := rfl
@[simp] theorem Part.setHoldTimer_pins (t : Timer) (p : Part) : (p.setHoldTimer t).pins = p.pins := rfl
@[simp] theorem Part.setHoldTimer_memory (t : Timer) (p : Part) : (p.setHoldTimer t).memory = p.memory := rfl
@[simp] theorem Part.setHoldTimer_machine (t : Timer) (p : Part) : (p.setHoldTimer t).machine = p.machine := rfl
@[simp] theorem Part.setHoldTimer_configBad (t : Timer) (p : Part) : (p.setHoldTimer t).configBad = p.configBad := rfl
@[simp] theorem Part.setHoldTimer_recipes (t : Timer) (p : Part) : (p.setHoldTimer t).recipes = p.recipes := rfl
@[simp] theorem Part.setHoldTimer_carousel (t : Timer) (p : Part) : (p.setHoldTimer t).carousel = p.carousel := rfl
@[simp] theorem Part.setHoldTimer_heads (t : Timer) (p : Part) : (p.setHoldTimer t).heads = p.heads := rfl
@[simp] theorem Part.setHoldTimer_advisory (t : Timer) (p : Part) : (p.setHoldTimer t).advisory = p.advisory := rfl
@[simp] theorem Part.setHoldTimer_track (t : Timer) (p : Part) : (p.setHoldTimer t).track = p.track := rfl
@[simp] theorem Part.setHoldTimer_nextNumber (t : Timer) (p : Part) : (p.setHoldTimer t).nextNumber = p.nextNumber := rfl
@[simp] theorem Part.setHoldTimer_coilTest (t : Timer) (p : Part) : (p.setHoldTimer t).coilTest = p.coilTest := rfl
@[simp] theorem Part.setHoldTimer_supply (t : Timer) (p : Part) : (p.setHoldTimer t).supply = p.supply := rfl
@[simp] theorem Part.setHoldTimer_modules (t : Timer) (p : Part) : (p.setHoldTimer t).modules = p.modules := rfl
@[simp] theorem Part.setHoldTimer_slot (t : Timer) (p : Part) : (p.setHoldTimer t).slot = p.slot := rfl
@[simp] theorem Part.setHoldTimer_links (t : Timer) (p : Part) : (p.setHoldTimer t).links = p.links := rfl
@[simp] theorem Part.setHoldTimer_lineTimer (t : Timer) (p : Part) : (p.setHoldTimer t).lineTimer = p.lineTimer := rfl
@[simp] theorem Part.setHoldTimer_supplyTimer (t : Timer) (p : Part) : (p.setHoldTimer t).supplyTimer = p.supplyTimer := rfl

@[simp] theorem Part.setClean_now (b : Bool) (p : Part) : (p.setClean b).now = p.now := rfl
@[simp] theorem Part.setClean_phase (b : Bool) (p : Part) : (p.setClean b).phase = p.phase := rfl
@[simp] theorem Part.setClean_firstHead (b : Bool) (p : Part) : (p.setClean b).firstHead = p.firstHead := rfl
@[simp] theorem Part.setClean_freeCount (b : Bool) (p : Part) : (p.setClean b).freeCount = p.freeCount := rfl
@[simp] theorem Part.setClean_pins (b : Bool) (p : Part) : (p.setClean b).pins = p.pins := rfl
@[simp] theorem Part.setClean_memory (b : Bool) (p : Part) : (p.setClean b).memory = p.memory := rfl
@[simp] theorem Part.setClean_machine (b : Bool) (p : Part) : (p.setClean b).machine = p.machine := rfl
@[simp] theorem Part.setClean_configBad (b : Bool) (p : Part) : (p.setClean b).configBad = p.configBad := rfl
@[simp] theorem Part.setClean_recipes (b : Bool) (p : Part) : (p.setClean b).recipes = p.recipes := rfl
@[simp] theorem Part.setClean_carousel (b : Bool) (p : Part) : (p.setClean b).carousel = p.carousel := rfl
@[simp] theorem Part.setClean_heads (b : Bool) (p : Part) : (p.setClean b).heads = p.heads := rfl
@[simp] theorem Part.setClean_advisory (b : Bool) (p : Part) : (p.setClean b).advisory = p.advisory := rfl
@[simp] theorem Part.setClean_track (b : Bool) (p : Part) : (p.setClean b).track = p.track := rfl
@[simp] theorem Part.setClean_nextNumber (b : Bool) (p : Part) : (p.setClean b).nextNumber = p.nextNumber := rfl
@[simp] theorem Part.setClean_coilTest (b : Bool) (p : Part) : (p.setClean b).coilTest = p.coilTest := rfl
@[simp] theorem Part.setClean_supply (b : Bool) (p : Part) : (p.setClean b).supply = p.supply := rfl
@[simp] theorem Part.setClean_modules (b : Bool) (p : Part) : (p.setClean b).modules = p.modules := rfl
@[simp] theorem Part.setClean_slot (b : Bool) (p : Part) : (p.setClean b).slot = p.slot := rfl
@[simp] theorem Part.setClean_links (b : Bool) (p : Part) : (p.setClean b).links = p.links := rfl
@[simp] theorem Part.setClean_lineTimer (b : Bool) (p : Part) : (p.setClean b).lineTimer = p.lineTimer := rfl
@[simp] theorem Part.setClean_supplyTimer (b : Bool) (p : Part) : (p.setClean b).supplyTimer = p.supplyTimer := rfl

@[simp] theorem Part.setRecipe_now (i : SlotNo) (r : StoredRecipe) (p : Part) : (p.setRecipe i r).now = p.now := rfl
@[simp] theorem Part.setRecipe_phase (i : SlotNo) (r : StoredRecipe) (p : Part) : (p.setRecipe i r).phase = p.phase := rfl
@[simp] theorem Part.setRecipe_firstHead (i : SlotNo) (r : StoredRecipe) (p : Part) : (p.setRecipe i r).firstHead = p.firstHead := rfl
@[simp] theorem Part.setRecipe_freeCount (i : SlotNo) (r : StoredRecipe) (p : Part) : (p.setRecipe i r).freeCount = p.freeCount := rfl
@[simp] theorem Part.setRecipe_pins (i : SlotNo) (r : StoredRecipe) (p : Part) : (p.setRecipe i r).pins = p.pins := rfl
@[simp] theorem Part.setRecipe_memory (i : SlotNo) (r : StoredRecipe) (p : Part) : (p.setRecipe i r).memory = p.memory := rfl
@[simp] theorem Part.setRecipe_machine (i : SlotNo) (r : StoredRecipe) (p : Part) : (p.setRecipe i r).machine = p.machine := rfl
@[simp] theorem Part.setRecipe_configBad (i : SlotNo) (r : StoredRecipe) (p : Part) : (p.setRecipe i r).configBad = p.configBad := rfl
@[simp] theorem Part.setRecipe_carousel (i : SlotNo) (r : StoredRecipe) (p : Part) : (p.setRecipe i r).carousel = p.carousel := rfl
@[simp] theorem Part.setRecipe_heads (i : SlotNo) (r : StoredRecipe) (p : Part) : (p.setRecipe i r).heads = p.heads := rfl
@[simp] theorem Part.setRecipe_advisory (i : SlotNo) (r : StoredRecipe) (p : Part) : (p.setRecipe i r).advisory = p.advisory := rfl
@[simp] theorem Part.setRecipe_track (i : SlotNo) (r : StoredRecipe) (p : Part) : (p.setRecipe i r).track = p.track := rfl
@[simp] theorem Part.setRecipe_nextNumber (i : SlotNo) (r : StoredRecipe) (p : Part) : (p.setRecipe i r).nextNumber = p.nextNumber := rfl
@[simp] theorem Part.setRecipe_coilTest (i : SlotNo) (r : StoredRecipe) (p : Part) : (p.setRecipe i r).coilTest = p.coilTest := rfl
@[simp] theorem Part.setRecipe_supply (i : SlotNo) (r : StoredRecipe) (p : Part) : (p.setRecipe i r).supply = p.supply := rfl
@[simp] theorem Part.setRecipe_control (i : SlotNo) (r : StoredRecipe) (p : Part) : (p.setRecipe i r).control = p.control := rfl
@[simp] theorem Part.setRecipe_modules (i : SlotNo) (r : StoredRecipe) (p : Part) : (p.setRecipe i r).modules = p.modules := rfl
@[simp] theorem Part.setRecipe_slot (i : SlotNo) (r : StoredRecipe) (p : Part) : (p.setRecipe i r).slot = p.slot := rfl
@[simp] theorem Part.setRecipe_links (i : SlotNo) (r : StoredRecipe) (p : Part) : (p.setRecipe i r).links = p.links := rfl
@[simp] theorem Part.setRecipe_lineTimer (i : SlotNo) (r : StoredRecipe) (p : Part) : (p.setRecipe i r).lineTimer = p.lineTimer := rfl
@[simp] theorem Part.setRecipe_supplyTimer (i : SlotNo) (r : StoredRecipe) (p : Part) : (p.setRecipe i r).supplyTimer = p.supplyTimer := rfl

@[simp] theorem Part.recomputeAdvisory_now (p : Part) : (p.recomputeAdvisory).now = p.now := rfl
@[simp] theorem Part.recomputeAdvisory_phase (p : Part) : (p.recomputeAdvisory).phase = p.phase := rfl
@[simp] theorem Part.recomputeAdvisory_firstHead (p : Part) : (p.recomputeAdvisory).firstHead = p.firstHead := rfl
@[simp] theorem Part.recomputeAdvisory_freeCount (p : Part) : (p.recomputeAdvisory).freeCount = p.freeCount := rfl
@[simp] theorem Part.recomputeAdvisory_pins (p : Part) : (p.recomputeAdvisory).pins = p.pins := rfl
@[simp] theorem Part.recomputeAdvisory_memory (p : Part) : (p.recomputeAdvisory).memory = p.memory := rfl
@[simp] theorem Part.recomputeAdvisory_machine (p : Part) : (p.recomputeAdvisory).machine = p.machine := rfl
@[simp] theorem Part.recomputeAdvisory_configBad (p : Part) : (p.recomputeAdvisory).configBad = p.configBad := rfl
@[simp] theorem Part.recomputeAdvisory_recipes (p : Part) : (p.recomputeAdvisory).recipes = p.recipes := rfl
@[simp] theorem Part.recomputeAdvisory_carousel (p : Part) : (p.recomputeAdvisory).carousel = p.carousel := rfl
@[simp] theorem Part.recomputeAdvisory_heads (p : Part) : (p.recomputeAdvisory).heads = p.heads := rfl
@[simp] theorem Part.recomputeAdvisory_track (p : Part) : (p.recomputeAdvisory).track = p.track := rfl
@[simp] theorem Part.recomputeAdvisory_nextNumber (p : Part) : (p.recomputeAdvisory).nextNumber = p.nextNumber := rfl
@[simp] theorem Part.recomputeAdvisory_coilTest (p : Part) : (p.recomputeAdvisory).coilTest = p.coilTest := rfl
@[simp] theorem Part.recomputeAdvisory_supply (p : Part) : (p.recomputeAdvisory).supply = p.supply := rfl
@[simp] theorem Part.recomputeAdvisory_control (p : Part) : (p.recomputeAdvisory).control = p.control := rfl
@[simp] theorem Part.recomputeAdvisory_modules (p : Part) : (p.recomputeAdvisory).modules = p.modules := rfl
@[simp] theorem Part.recomputeAdvisory_slot (p : Part) : (p.recomputeAdvisory).slot = p.slot := rfl
@[simp] theorem Part.recomputeAdvisory_links (p : Part) : (p.recomputeAdvisory).links = p.links := rfl
@[simp] theorem Part.recomputeAdvisory_lineTimer (p : Part) : (p.recomputeAdvisory).lineTimer = p.lineTimer := rfl
@[simp] theorem Part.recomputeAdvisory_supplyTimer (p : Part) : (p.recomputeAdvisory).supplyTimer = p.supplyTimer := rfl

@[simp] theorem Part.recomputePressure_now (p : Part) : (p.recomputePressure).now = p.now := rfl
@[simp] theorem Part.recomputePressure_phase (p : Part) : (p.recomputePressure).phase = p.phase := rfl
@[simp] theorem Part.recomputePressure_firstHead (p : Part) : (p.recomputePressure).firstHead = p.firstHead := rfl
@[simp] theorem Part.recomputePressure_freeCount (p : Part) : (p.recomputePressure).freeCount = p.freeCount := rfl
@[simp] theorem Part.recomputePressure_pins (p : Part) : (p.recomputePressure).pins = p.pins := rfl
@[simp] theorem Part.recomputePressure_memory (p : Part) : (p.recomputePressure).memory = p.memory := rfl
@[simp] theorem Part.recomputePressure_machine (p : Part) : (p.recomputePressure).machine = p.machine := rfl
@[simp] theorem Part.recomputePressure_configBad (p : Part) : (p.recomputePressure).configBad = p.configBad := rfl
@[simp] theorem Part.recomputePressure_recipes (p : Part) : (p.recomputePressure).recipes = p.recipes := rfl
@[simp] theorem Part.recomputePressure_carousel (p : Part) : (p.recomputePressure).carousel = p.carousel := rfl
@[simp] theorem Part.recomputePressure_heads (p : Part) : (p.recomputePressure).heads = p.heads := rfl
@[simp] theorem Part.recomputePressure_advisory (p : Part) : (p.recomputePressure).advisory = p.advisory := rfl
@[simp] theorem Part.recomputePressure_track (p : Part) : (p.recomputePressure).track = p.track := rfl
@[simp] theorem Part.recomputePressure_nextNumber (p : Part) : (p.recomputePressure).nextNumber = p.nextNumber := rfl
@[simp] theorem Part.recomputePressure_coilTest (p : Part) : (p.recomputePressure).coilTest = p.coilTest := rfl
@[simp] theorem Part.recomputePressure_control (p : Part) : (p.recomputePressure).control = p.control := rfl
@[simp] theorem Part.recomputePressure_modules (p : Part) : (p.recomputePressure).modules = p.modules := rfl
@[simp] theorem Part.recomputePressure_slot (p : Part) : (p.recomputePressure).slot = p.slot := rfl
@[simp] theorem Part.recomputePressure_links (p : Part) : (p.recomputePressure).links = p.links := rfl
@[simp] theorem Part.recomputePressure_lineTimer (p : Part) : (p.recomputePressure).lineTimer = p.lineTimer := rfl
@[simp] theorem Part.recomputePressure_supplyTimer (p : Part) : (p.recomputePressure).supplyTimer = p.supplyTimer := rfl

@[simp] theorem Part.clockTo_now (due : Nat) (p : Part) : (p.clockTo due).now = max p.now due := rfl
@[simp] theorem Part.idleTick_now (p : Part) : p.idleTick.now = p.now + 1 := rfl
@[simp] theorem Part.modCarousel_carousel (f : Carousel → Carousel) (p : Part) : (p.modCarousel f).carousel = f p.carousel := rfl
@[simp] theorem Part.recomputeAdvisory_advisory (p : Part) : p.recomputeAdvisory.advisory = p.computeAdvisory := rfl
@[simp] theorem Part.setHoldTimer_holdTimer (t : Timer) (p : Part) : (p.setHoldTimer t).control.holdTimer = t := rfl
@[simp] theorem Part.setHoldTimer_prod (t : Timer) (p : Part) : (p.setHoldTimer t).control.prod = p.control.prod := rfl
@[simp] theorem Part.setClean_cleanOpened (b : Bool) (p : Part) : (p.setClean b).control.cleanOpened = b := rfl
@[simp] theorem Part.setClean_prod (b : Bool) (p : Part) : (p.setClean b).control.prod = p.control.prod := rfl
@[simp] theorem Part.port_setPort (a b : Port) (x : PortState) (p : Part) :
    (p.setPort a x).port b = if b = a then x else p.port b := by
  cases a <;> cases b <;> rfl
@[simp] theorem Part.setPort_port (a : Port) (p : Part) : p.setPort a (p.port a) = p := by cases a <;> rfl
theorem Part.setPort_setPort (a : Port) (x y : PortState) (p : Part) : (p.setPort a x).setPort a y = p.setPort a y := by
  cases a <;> rfl

end Sys2Proof.Machine
end

