-- ==== Sys2Proof/Laws/Frames.lean ====
section
/-! SUPPORT. What the shared operations leave alone. A view of the part blanks the fields an operation may change; a frame
lemma says that the view is the same after the operation as before. -/

namespace Sys2Proof.Machine

open Sys2Proof

/-- The heads of a view: any fixed heads. -/
@[irreducible] def viewHeads : Vector Head 64 := resetPart.heads

/-- The part without its heads and the speed advisory. -/
def Part.offHeads (p : Part) : Part := { p with heads := viewHeads, advisory := 0 }

/-- The part without its heads, the advisory, the operation slot and the coil test state. -/
def Part.offWork (p : Part) : Part := { p.offHeads with slot := .empty, coilTest := .idle }

/-- The part without all that the head cycle and the State Controller may change: what stays is the clock, the pins, the
memory, the working copies, the Tracker, the Supply Monitor and the driver modules. -/
def Part.offCycle (p : Part) : Part :=
  { p.offWork with
    control := blankControl
    track := []
    nextNumber := 0
    links := resetPart.links
    lineTimer := .stopped }

theorem Part.offWork_of_offHeads {p q : Part} (h : p.offHeads = q.offHeads) : p.offWork = q.offWork := by
  simp only [Part.offWork, h]

theorem Part.offCycle_of_offWork {p q : Part} (h : p.offWork = q.offWork) : p.offCycle = q.offCycle := by
  simp only [Part.offCycle, h]

/-! ### Folds over heads -/

theorem forEach_view {α : Type} (view : Part → α) (f : HeadNo → Part → Part) (hf : ∀ h p, view (f h p) = view p)
    (l : List HeadNo) (p : Part) : view (forEach l f p) = view p := by
  induction l generalizing p with
  | nil => rfl
  | cons a l ih => exact (ih (f a p)).trans (hf a p)

theorem forFitted_view {α : Type} (view : Part → α) (f : HeadNo → Part → Part) (hf : ∀ h p, view (f h p) = view p)
    (p : Part) : view (forFitted f p) = view p := forEach_view view f hf _ p

theorem foldl_view {α β : Type} (view : Part → α) (f : Part → β → Part) (hf : ∀ p k, view (f p k) = view p) (l : List β)
    (p : Part) : view (l.foldl f p) = view p := by
  induction l generalizing p with
  | nil => rfl
  | cons a l ih => exact (ih (f p a)).trans (hf p a)

/-! ### Operations on heads alone -/

section offHeads

variable (h : HeadNo) (p : Part)

@[simp] theorem Part.modHead_offHeads (f : Head → Head) : (p.modHead h f).offHeads = p.offHeads := rfl
@[simp] theorem Part.modEntry_offHeads (f : Entry → Entry) : (p.modEntry h f).offHeads = p.offHeads := rfl
@[simp] theorem Part.modContext_offHeads (f : Context → Context) : (p.modContext h f).offHeads = p.offHeads := rfl
@[simp] theorem Part.modRecord_offHeads (f : HeadRecord → HeadRecord) : (p.modRecord h f).offHeads = p.offHeads := rfl
@[simp] theorem Part.modDiag_offHeads (f : Diag → Diag) : (p.modDiag h f).offHeads = p.offHeads := rfl
@[simp] theorem Part.recomputeAdvisory_offHeads : p.recomputeAdvisory.offHeads = p.offHeads := rfl
@[simp] theorem Part.setMethod_offHeads (m : Method) (c : Option FaultKind) :
    (p.setMethod h m c).offHeads = p.offHeads := rfl
@[simp] theorem Part.clearKind_offHeads (k : FaultKind) : (p.clearKind h k).offHeads = p.offHeads := rfl

@[simp] theorem Part.degrade_offHeads (k : FaultKind) : (p.degrade h k).offHeads = p.offHeads := by
  unfold Part.degrade; split <;> (try split) <;> simp

@[simp] theorem Part.putOut_offHeads (k : FaultKind) : (p.putOut h k).offHeads = p.offHeads := by
  unfold Part.putOut; split <;> simp

@[simp] theorem Part.decideKind_offHeads (k : FaultKind) : (p.decideKind h k).offHeads = p.offHeads := by
  unfold Part.decideKind; split <;> simp

@[simp] theorem Part.detect_offHeads (k : FaultKind) : (p.detect h k).offHeads = p.offHeads := by
  unfold Part.detect; split
  · rfl
  · dsimp only; split <;> simp

@[simp] theorem Part.coilDetect_offHeads (c : CoilFault) (v : Valve) : (p.coilDetect h c v).offHeads = p.offHeads := by
  simp [Part.coilDetect]

@[simp] theorem Part.evaluateRate_offHeads : (p.evaluateRate h).offHeads = p.offHeads := by
  unfold Part.evaluateRate; split <;> simp

@[simp] theorem Part.decideLive_offHeads : (p.decideLive h).offHeads = p.offHeads := by
  unfold Part.decideLive
  apply foldl_view; intro q k; split <;> simp

@[simp] theorem Part.admitAfter_offHeads (a : Nat) : (p.admitAfter h a).offHeads = p.offHeads := by
  unfold Part.admitAfter; dsimp only; split
  · split <;> simp
  · simp

@[simp] theorem Part.admitRate_offHeads (r : Nat) (b : Bool) : (p.admitRate h r b).offHeads = p.offHeads := by
  simp [Part.admitRate]

@[simp] theorem Part.takeSamples_offHeads (full : Bool) : (p.takeSamples h full).offHeads = p.offHeads := by
  unfold Part.takeSamples; split
  · rfl
  · split
    · dsimp only; split <;> split <;> simp
    · rfl

@[simp] theorem Part.applyJudgement_offHeads (j : Option Judgement) : (p.applyJudgement h j).offHeads = p.offHeads := by
  unfold Part.applyJudgement; dsimp only; split
  · rfl
  · split
    · split
      · simp
      · split <;> simp
    · rfl

@[simp] theorem Part.countWarmup_offHeads : (p.countWarmup h).offHeads = p.offHeads := by
  unfold Part.countWarmup; dsimp only; split
  · rfl
  · split <;> simp

@[simp] theorem Part.tableOutcome_offHeads (c : Context) : (p.tableOutcome h c).offHeads = p.offHeads := by
  unfold Part.tableOutcome; dsimp only; split <;> simp

@[simp] theorem Part.countUninspected_offHeads : (p.countUninspected h).offHeads = p.offHeads := rfl

@[simp] theorem Part.changeTrim_offHeads (t : Int) : (p.changeTrim h t).offHeads = p.offHeads := by
  unfold Part.changeTrim; dsimp only; split <;> simp

@[simp] theorem Part.beginTest_offHeads : (p.beginTest h).offHeads = p.offHeads := rfl

@[simp] theorem Part.enterRest_offHeads : (p.enterRest h).offHeads = p.offHeads := by
  unfold Part.enterRest; dsimp only; split <;> simp

@[simp] theorem Part.beginMarked_offHeads : p.beginMarked.offHeads = p.offHeads := by
  unfold Part.beginMarked
  exact forFitted_view _ _ (by intro h q; split <;> simp) p

@[simp] theorem Part.judgeRunaway_offHeads : (p.judgeRunaway h).offHeads = p.offHeads := by
  unfold Part.judgeRunaway; dsimp only; split <;> simp

@[simp] theorem Part.dischargeRunaway_offHeads : (p.dischargeRunaway h).offHeads = p.offHeads := by
  unfold Part.dischargeRunaway; dsimp only; split <;> simp

@[simp] theorem Part.runawayPulse_offHeads : (p.runawayPulse h).offHeads = p.offHeads := by
  unfold Part.runawayPulse; dsimp only; split <;> simp

@[simp] theorem Part.addContextFlag_offHeads (f : ContainerFlag) : (p.addContextFlag h f).offHeads = p.offHeads := rfl
@[simp] theorem Part.goTo_offHeads (st : HeadState) : (p.goTo h st).offHeads = p.offHeads := rfl
@[simp] theorem Part.openRelief_offHeads : (p.openRelief h).offHeads = p.offHeads := rfl

@[simp] theorem Part.cutSettle_offHeads : (p.cutSettle h).offHeads = p.offHeads := by simp [Part.cutSettle]

@[simp] theorem Part.toSettle_offHeads (st : DoseStatus) : (p.toSettle h st).offHeads = p.offHeads := rfl

@[simp] theorem Part.completeDose_offHeads : (p.completeDose h).offHeads = p.offHeads := by
  unfold Part.completeDose; split <;> simp

@[simp] theorem Part.fastClose_offHeads : (p.fastClose h).offHeads = p.offHeads := by
  unfold Part.fastClose; split <;> simp

@[simp] theorem Part.refuseFill_offHeads (f : ContainerFlag) : (p.refuseFill h f).offHeads = p.offHeads := rfl

@[simp] theorem Part.startFill_offHeads (c : Context) : (p.startFill h c).offHeads = p.offHeads := by
  simp [Part.startFill]

@[simp] theorem Part.fillDecision_offHeads : (p.fillDecision h).offHeads = p.offHeads := by
  unfold Part.fillDecision; split
  · rfl
  · split
    · simp
    · split <;> simp

@[simp] theorem Part.shutHead_offHeads : (p.shutHead h).offHeads = p.offHeads := rfl

@[simp] theorem Part.reliefCheck_offHeads : (p.reliefCheck h).offHeads = p.offHeads := by
  unfold Part.reliefCheck; split <;> simp

@[simp] theorem Part.dischargeReports_offHeads (fl : BitVec 13) : (p.dischargeReports h fl).offHeads = p.offHeads := by
  unfold Part.dischargeReports; dsimp only; split <;> split <;> split <;> simp

@[simp] theorem Part.leaveTest_offHeads : (p.leaveTest h).offHeads = p.offHeads := rfl

@[simp] theorem Part.pressuriseCrossing_offHeads : (p.pressuriseCrossing h).offHeads = p.offHeads := by
  unfold Part.pressuriseCrossing; split
  · split
    · simp
    · split
      · simp
      · split <;> simp
  · rfl

@[simp] theorem Part.fillStartCrossing_offHeads : (p.fillStartCrossing h).offHeads = p.offHeads := by
  unfold Part.fillStartCrossing; split <;> simp

@[simp] theorem Part.overrunFill_offHeads : (p.overrunFill h).offHeads = p.offHeads := by simp [Part.overrunFill]

@[simp] theorem Part.fillEndCrossing_offHeads : (p.fillEndCrossing h).offHeads = p.offHeads := by
  unfold Part.fillEndCrossing; split <;> simp

@[simp] theorem Part.reliefCrossing_offHeads : (p.reliefCrossing h).offHeads = p.offHeads := by
  unfold Part.reliefCrossing; split <;> simp

@[simp] theorem Part.headSafe_offHeads : (p.headSafe h).offHeads = p.offHeads := by
  unfold Part.headSafe; split <;> simp

@[simp] theorem Part.closeCleanValves_offHeads : p.closeCleanValves.offHeads = p.offHeads := by
  unfold Part.closeCleanValves
  exact forFitted_view _ _ (by intros; rfl) p

@[simp] theorem Part.ventHead_offHeads : (p.ventHead h).offHeads = p.offHeads := by
  unfold Part.ventHead; split <;> simp

@[simp] theorem Part.lose_offHeads (f : ContainerFlag) : (p.lose h f).offHeads = p.offHeads := by
  unfold Part.lose; dsimp only; split <;> split <;> split <;> simp

@[simp] theorem Part.sealDropAt_offHeads : (p.sealDropAt h).offHeads = p.offHeads := by
  unfold Part.sealDropAt; split <;> simp

@[simp] theorem Part.settleEnd_offHeads : (p.settleEnd h).offHeads = p.offHeads := by simp [Part.settleEnd]
@[simp] theorem Part.reliefEnd_offHeads : (p.reliefEnd h).offHeads = p.offHeads := rfl

@[simp] theorem Part.pressuriseEnd_offHeads : (p.pressuriseEnd h).offHeads = p.offHeads := by
  unfold Part.pressuriseEnd; dsimp only; split <;> simp

@[simp] theorem Part.demandPulse_offHeads : (p.demandPulse h).offHeads = p.offHeads := rfl
@[simp] theorem Part.reportAlive_offHeads : (p.reportAlive h).offHeads = p.offHeads := by simp [Part.reportAlive]

@[simp] theorem Part.fillPulse_offHeads (c : Context) : (p.fillPulse h c).offHeads = p.offHeads := by
  unfold Part.fillPulse; dsimp only; split <;> split <;> (try split) <;> simp

@[simp] theorem Part.shadowPulse_offHeads (c : Context) : (p.shadowPulse h c).offHeads = p.offHeads := by
  unfold Part.shadowPulse; dsimp only; split <;> simp

@[simp] theorem Part.afterPulse_offHeads : (p.afterPulse h).offHeads = p.offHeads := rfl

@[simp] theorem Part.dosePulse_offHeads : (p.dosePulse h).offHeads = p.offHeads := by
  unfold Part.dosePulse; split
  · simp
  · split
    · split <;> (try split) <;> simp
    · simp

@[simp] theorem Part.meterSilence_offHeads (c : Context) : (p.meterSilence h c).offHeads = p.offHeads := by
  unfold Part.meterSilence; dsimp only; split <;> simp

@[simp] theorem Part.startWarmup_offHeads (w : Nat) : (p.startWarmup w).offHeads = p.offHeads := by
  unfold Part.startWarmup
  exact forFitted_view _ _ (by intro h q; split <;> simp) p

@[simp] theorem Part.clearDrainTotals_offHeads : p.clearDrainTotals.offHeads = p.offHeads := by
  simp only [Part.clearDrainTotals, Part.offHeads]
@[simp] theorem Part.markHeldLong_offHeads : p.markHeldLong.offHeads = p.offHeads := by
  simp only [Part.markHeldLong, Part.offHeads]

@[simp] theorem Part.openCleanAt_offHeads : (p.openCleanAt h).offHeads = p.offHeads := by
  unfold Part.openCleanAt; split
  · split <;> simp
  · rfl

@[simp] theorem Part.dropTimed_offHeads : p.dropTimed.offHeads = p.offHeads := by
  unfold Part.dropTimed
  exact forFitted_view _ _ (by intro h q; split <;> simp) p

@[simp] theorem Part.restoreHead_offHeads : (p.restoreHead h).offHeads = p.offHeads := by
  unfold Part.restoreHead; dsimp only; split
  · simp
  · split <;> simp

@[simp] theorem Part.applyWindow_offHeads : p.applyWindow.offHeads = p.offHeads := by
  unfold Part.applyWindow; dsimp only
  refine (forFitted_view Part.offHeads _ (by intros; simp) _).trans ?_
  simp only [Part.offHeads]

@[simp] theorem Part.applyActions_offHeads (ks : List FaultKind) : (p.applyActions ks).offHeads = p.offHeads := by
  unfold Part.applyActions
  refine forFitted_view _ _ (fun h q => ?_) p
  apply foldl_view; intro q k; split <;> simp

@[simp] theorem Part.markHead_offHeads : (p.markHead h).offHeads = p.offHeads := by
  unfold Part.markHead; split
  · dsimp only; split <;> simp
  · rfl

@[simp] theorem Part.aimPointers_offHeads : p.aimPointers.offHeads = p.offHeads := by
  simp only [Part.aimPointers, Part.offHeads]

end offHeads

/-! ### Operations that reach the Operation Slot -/

section offWork

variable (h : HeadNo) (p : Part)

@[simp] theorem Part.finish_offWork (r : OpResult) : (p.finish r).offWork = p.offWork := by
  unfold Part.finish; split <;> rfl

@[simp] theorem Part.endTestCoils_offWork (r : OpResult) : (p.endTestCoils r).offWork = p.offWork := by
  simp [Part.endTestCoils]; rfl

@[simp] theorem Part.checkTestCoils_offWork : p.checkTestCoils.offWork = p.offWork := by
  unfold Part.checkTestCoils; split <;> simp

@[simp] theorem Part.removeMark_offWork : (p.removeMark h).offWork = p.offWork := by
  unfold Part.removeMark; split <;> simp; rfl

@[simp] theorem Part.removeAllMarks_offWork : p.removeAllMarks.offWork = p.offWork := by
  unfold Part.removeAllMarks; dsimp only; split
  · rw [Part.endTestCoils_offWork]; simp only [Part.offWork, Part.offHeads]
  · simp only [Part.offWork, Part.offHeads]

@[simp] theorem Part.endCal_offWork (c : CalRecord) (r : OpResult) : (p.endCal c r).offWork = p.offWork := by
  simp [Part.endCal]; rfl

@[simp] theorem Part.abortCal_offWork (c : AbortCause) : (p.abortCal c).offWork = p.offWork := by
  unfold Part.abortCal; split <;> simp

@[simp] theorem Part.abortCalOn_offWork (c : AbortCause) : (p.abortCalOn h c).offWork = p.offWork := by
  unfold Part.abortCalOn; split <;> simp

@[simp] theorem Part.coilReportCal_offWork (v : Valve) : (p.coilReportCal h v).offWork = p.offWork := by
  unfold Part.coilReportCal; split <;> simp

@[simp] theorem Part.testOutcome_offWork (rs : List (Valve × TestReport)) : (p.testOutcome h rs).offWork = p.offWork := by
  unfold Part.testOutcome; dsimp only
  rw [Part.removeMark_offWork]
  apply Part.offWork_of_offHeads
  have fold : ∀ (t : TestReport) (c : CoilFault) (q : Part),
      (q.outcomeDetections h t c rs).offHeads = q.offHeads := by
    intro t c q; unfold Part.outcomeDetections
    apply foldl_view; intros; simp
  split
  · simp
  · simp [fold]

@[simp] theorem Part.testExpiry_offWork : (p.testExpiry h).offWork = p.offWork := by
  unfold Part.testExpiry; dsimp only; split
  · rfl
  · rw [Part.testOutcome_offWork]; rfl

@[simp] theorem Part.calCount_offWork (c : CalRecord) : (p.calCount c).offWork = p.offWork := by
  unfold Part.calCount; dsimp only; split
  · rfl
  · split <;> rfl

@[simp] theorem Part.calPulse_offWork (c : CalRecord) : (p.calPulse c).offWork = p.offWork := by
  unfold Part.calPulse; split
  · simp
  · simp
  · rfl

@[simp] theorem Part.pulse_offWork : (p.pulse h).offWork = p.offWork := by
  unfold Part.pulse; split
  · rfl
  · rfl
  all_goals
    dsimp only; split
    · rw [Part.calPulse_offWork]; rfl
    · exact Part.offWork_of_offHeads (by simp)

@[simp] theorem Part.beginCal_offWork (n m : Nat) : (p.beginCal h n m).offWork = p.offWork := rfl

@[simp] theorem Part.applyDiag_offWork (old : MachineConfig) : (p.applyDiag old).offWork = p.offWork := by
  have key : ∀ q : Part, (q.applyActions (changedKinds old p.machine)).offWork = q.offWork :=
    fun q => Part.offWork_of_offHeads (by simp)
  have win : p.applyWindow.offWork = p.offWork := Part.offWork_of_offHeads (by simp)
  unfold Part.applyDiag; dsimp only; split <;> split <;> simp [key, win]

end offWork

/-! ### Operations of the head cycle and the State Controller -/

section offCycle

variable (h : HeadNo) (p : Part)

theorem Part.offCycle_control (c : Control) : { p with control := c }.offCycle = p.offCycle := rfl

@[simp] theorem Part.setProd_offCycle (new : Prod) : (p.setProd new).offCycle = p.offCycle := by
  unfold Part.setProd; dsimp only; split
  · exact (Part.offCycle_of_offWork (Part.offWork_of_offHeads (Part.beginMarked_offHeads _))).trans rfl
  · rfl

@[simp] theorem Part.enqueue_offCycle (port : Port) (f : OutFrame) : (p.enqueue port f).offCycle = p.offCycle := by
  unfold Part.enqueue; dsimp only; split <;> rfl

@[simp] theorem Part.reply_offCycle (port : Port) (k : Nat) (a : Answer) : (p.reply port k a).offCycle = p.offCycle := by
  simp [Part.reply]

@[simp] theorem Part.crcPassed_offCycle (port : Port) : (p.crcPassed port).offCycle = p.offCycle := by
  cases port <;> rfl

theorem Part.offCycle_head {p q : Part} (e : p.offHeads = q.offHeads) : p.offCycle = q.offCycle :=
  Part.offCycle_of_offWork (Part.offWork_of_offHeads e)

@[simp] theorem Part.ageOldest_offCycle : p.ageOldest.offCycle = p.offCycle := by
  unfold Part.ageOldest; split <;> rfl

@[simp] theorem Part.ageByCount_offCycle : p.ageByCount.offCycle = p.offCycle := by
  unfold Part.ageByCount; split <;> simp

@[simp] theorem ageExcess_offCycle (n : Nat) : (ageExcess n p).offCycle = p.offCycle := by
  induction n generalizing p with
  | zero => rfl
  | succ n ih => simp [ageExcess, ih]

@[simp] theorem Part.ageByNumber_offCycle (m : Nat) : (p.ageByNumber m).offCycle = p.offCycle := by
  unfold Part.ageByNumber; dsimp only
  exact (forEach_view Part.offCycle Part.countUninspected (fun _ _ => rfl) _ _).trans rfl

@[simp] theorem Part.trackAdmit_offCycle (c : Context) : (p.trackAdmit h c).offCycle = p.offCycle := by
  unfold Part.trackAdmit; dsimp only
  rw [Part.ageByNumber_offCycle]; rfl

@[simp] theorem Part.countDischarge_offCycle : p.countDischarge.offCycle = p.offCycle := rfl

@[simp] theorem Part.trackDischarge_offCycle (c : Context) : (p.trackDischarge h c).offCycle = p.offCycle := by
  unfold Part.trackDischarge; dsimp only; split
  · rfl
  · split
    · rw [Part.countDischarge_offCycle, Part.ageByCount_offCycle]
      exact Part.enqueue_offCycle p _ _
    · rw [Part.countDischarge_offCycle]
      exact Part.enqueue_offCycle p _ _

@[simp] theorem Part.removeContext_offCycle : (p.removeContext h).offCycle = p.offCycle := by
  have e : ((p.dischargeRunaway h).modHead h fun x => { x with context := none }).offCycle = p.offCycle :=
    Part.offCycle_head (by simp)
  unfold Part.removeContext; dsimp only; split
  · rw [Part.setProd_offCycle, e]
  · exact e

@[simp] theorem Part.completeContainer_offCycle : (p.completeContainer h).offCycle = p.offCycle := by
  have e : ((p.shutHead h).reliefCheck h).offCycle = p.offCycle := Part.offCycle_head (by simp)
  unfold Part.completeContainer; dsimp only; split
  · exact e
  · rename_i c _
    rw [Part.removeContext_offCycle]
    refine (Part.offCycle_head (Part.recomputeAdvisory_offHeads _)).trans ?_
    refine (Part.offCycle_head (Part.tableOutcome_offHeads h _ c)).trans ?_
    refine (Part.offCycle_head (Part.dischargeReports_offHeads h _ c.flags)).trans ?_
    rw [Part.trackDischarge_offCycle, e]

@[simp] theorem Part.dischargeHead_offCycle : (p.dischargeHead h).offCycle = p.offCycle := by
  unfold Part.dischargeHead
  exact (Part.offCycle_head (Part.enterRest_offHeads h _)).trans (by simp)

@[simp] theorem Part.admitContainer_offCycle : (p.admitContainer h).offCycle = p.offCycle := by
  unfold Part.admitContainer
  exact (Part.offCycle_head (Part.modHead_offHeads h _ _)).trans (by simp)

@[simp] theorem Part.infeedFromRest_offCycle : (p.infeedFromRest h).offCycle = p.offCycle := by
  have e : (if (p.entry h).state = .testing then p.leaveTest h else p).offCycle = p.offCycle := by
    split
    · rfl
    · rfl
  unfold Part.infeedFromRest; dsimp only
  generalize (if (p.entry h).state = .testing then p.leaveTest h else p) = q at e
  split
  · exact (Part.offCycle_head (Part.goTo_offHeads h _ _)).trans e
  · exact (Part.offCycle_head (Part.goTo_offHeads h _ _)).trans e
  · split
    · rw [Part.admitContainer_offCycle, e]
    · exact (Part.offCycle_head (Part.goTo_offHeads h _ _)).trans e

@[simp] theorem Part.infeedCrossing_offCycle : (p.infeedCrossing h).offCycle = p.offCycle := by
  have e : (p.abortCalOn h .motion).offCycle = p.offCycle := Part.offCycle_of_offWork (by simp)
  unfold Part.infeedCrossing; dsimp only; split <;> simp [e]

@[simp] theorem Part.dischargeCrossing_offCycle : (p.dischargeCrossing h).offCycle = p.offCycle := by
  unfold Part.dischargeCrossing; split
  · rfl
  · rfl
  · rfl
  · split
    · rfl
    · exact Part.offCycle_head (by simp)
  · simp

/-- What a crossing leaves alone: the clock, the pins, the memory, the working copies, the Tracker's own state, the Supply
Monitor and the driver modules. -/
@[simp] theorem Part.crossing_offCycle (b : Boundary) : (p.crossing h b).offCycle = p.offCycle := by
  cases b
  · exact Part.infeedCrossing_offCycle h p
  · exact Part.offCycle_head (Part.pressuriseCrossing_offHeads h p)
  · exact Part.offCycle_head (Part.fillStartCrossing_offHeads h p)
  · exact Part.offCycle_head (Part.fillEndCrossing_offHeads h p)
  · exact Part.offCycle_head (Part.reliefCrossing_offHeads h p)
  · exact Part.dischargeCrossing_offCycle h p

@[simp] theorem Part.crossIfDue_offCycle : (p.crossIfDue h).offCycle = p.offCycle := by
  unfold Part.crossIfDue; split
  · rfl
  · split
    · exact (Part.offCycle_head (Part.modHead_offHeads h _ _)).trans (by simp)
    · rfl

@[simp] theorem Part.examineAll_offCycle : p.examineAll.offCycle = p.offCycle := by
  unfold Part.examineAll; split
  · exact forEach_view _ _ (fun h q => by simp [Part.examine]) _ p
  · rfl

/-- What an entry to SAFE leaves alone. -/
@[simp] theorem Part.enterSafe_offCycle (c : Cause) : (p.enterSafe c).offCycle = p.offCycle := by
  have fit : ∀ q : Part, (forFitted Part.headSafe q).offHeads = q.offHeads :=
    fun q => forFitted_view _ _ (fun h r => by simp) q
  unfold Part.enterSafe; dsimp only
  refine (Part.offCycle_of_offWork (Part.abortCal_offWork _ _)).trans ?_
  refine (Part.offCycle_of_offWork (Part.removeAllMarks_offWork _)).trans ?_
  split
  · refine (Part.offCycle_head (Part.closeCleanValves_offHeads _)).trans ?_
    exact (Part.offCycle_head (fit _)).trans rfl
  · exact (Part.offCycle_head (fit _)).trans rfl

@[simp] theorem Part.raiseSafe_offCycle (c : Cause) : (p.raiseSafe c).offCycle = p.offCycle := by
  unfold Part.raiseSafe; split <;> first | rfl | simp

@[simp] theorem Part.sweepDone_offCycle : p.sweepDone.offCycle = p.offCycle := by
  have e := Part.setProd_offCycle p .standby
  unfold Part.sweepDone; dsimp only
  generalize p.setProd .standby = q at e
  split
  · rw [Part.raiseSafe_offCycle]; exact e
  · exact e

@[simp] theorem Part.checkSweep_offCycle : p.checkSweep.offCycle = p.offCycle := by
  unfold Part.checkSweep; split
  · simp
  · rfl

@[simp] theorem Part.ventSweep_offCycle : p.ventSweep.offCycle = p.offCycle := by
  unfold Part.ventSweep
  rw [Part.checkSweep_offCycle]
  exact Part.offCycle_head (forFitted_view _ _ (fun h q => by simp) p)

@[simp] theorem Part.coilReportAt_offCycle (v : Valve) : (p.coilReportAt h v).offCycle = p.offCycle := by
  unfold Part.coilReportAt; dsimp only; split
  all_goals first
    | rfl
    | (split
       · exact Part.offCycle_head (by simp)
       · rfl)
    | (split
       · rw [Part.checkSweep_offCycle]; rfl
       · rfl)

@[simp] theorem Part.coilReport_offCycle (v : Valve) (c : CoilFault) : (p.coilReport h v c).offCycle = p.offCycle := by
  unfold Part.coilReport
  refine (Part.offCycle_head (Part.coilDetect_offHeads h _ c v)).trans ?_
  rw [Part.coilReportAt_offCycle]
  exact Part.offCycle_of_offWork (by simp)

@[simp] theorem Part.ventEnd_offCycle : (p.ventEnd h).offCycle = p.offCycle := by
  unfold Part.ventEnd
  rw [Part.checkSweep_offCycle]; rfl

end offCycle

end Sys2Proof.Machine
end

