-- ==== Sys2Proof/Laws/Memory.lean ====
section
/-! SUPPORT. The configuration memory: every operation keeps its canonical form, a read after a write to the same address
gives the byte written, and a write leaves every other address alone. -/

namespace Sys2Proof.Machine

open Sys2Proof

theorem memWfFrom_le {lo lo' : Nat} {m : List Host.Cell} (h : memWfFrom lo m = true) (hl : lo' ≤ lo) :
    memWfFrom lo' m = true := by
  cases m with
  | nil => rfl
  | cons x m =>
    simp only [memWfFrom, Bool.and_eq_true, decide_eq_true_eq] at h ⊢
    exact ⟨⟨by omega, h.1.2⟩, h.2⟩

/-- Below the least address of a memory in canonical form every address is unlisted. -/
theorem memRead_below {lo : Nat} {m : List Host.Cell} (h : memWfFrom lo m = true) {addr : Nat} (ha : addr < lo) :
    memRead m addr = unwritten := by
  induction m generalizing lo with
  | nil => rfl
  | cons x m ih =>
    simp only [memWfFrom, Bool.and_eq_true, decide_eq_true_eq] at h
    rw [memRead, if_neg (by omega)]
    exact ih h.2 (by omega)

theorem memWfFrom_memWrite {lo addr : Nat} {m : List Host.Cell} (b : Byte) (h : memWfFrom lo m = true)
    (ha : lo ≤ addr) : memWfFrom lo (memWrite m addr b) = true := by
  induction m generalizing lo with
  | nil =>
    by_cases hb : b = unwritten
    · simp [memWrite, hb, memWfFrom]
    · simp [memWrite, hb, memWfFrom, ha]
  | cons x m ih =>
    obtain ⟨a, c⟩ := x
    simp only [memWfFrom, Bool.and_eq_true, decide_eq_true_eq] at h
    obtain ⟨⟨h1, h2⟩, h3⟩ := h
    unfold memWrite
    split
    · split
      · simp [memWfFrom, h1, h2, h3]
      · rename_i lt hb
        simp [memWfFrom, ha, hb, h2, h3, Nat.succ_le_of_lt lt]
    · split
      · rename_i e; subst e
        split
        · exact memWfFrom_le h3 (by omega)
        · rename_i hb; simp [memWfFrom, ha, hb, h3]
      · simp only [memWfFrom, Bool.and_eq_true, decide_eq_true_eq]
        exact ⟨⟨h1, h2⟩, ih h3 (by omega)⟩

/-- A write keeps the canonical form. -/
theorem Memory.wf_memWrite {m : List Host.Cell} (h : Memory.wf m = true) (addr : Nat) (b : Byte) :
    Memory.wf (memWrite m addr b) = true := memWfFrom_memWrite b h (Nat.zero_le addr)

/-- A sequence of writes keeps the canonical form. -/
theorem Memory.wf_memWriteAll {m : List Host.Cell} (h : Memory.wf m = true) (ws : List (Nat × Byte)) :
    Memory.wf (memWriteAll m ws) = true := by
  unfold memWriteAll
  induction ws generalizing m with
  | nil => exact h
  | cons w ws ih => exact ih (Memory.wf_memWrite h w.1 w.2)

theorem memRead_memWrite_from {lo : Nat} {m : List Host.Cell} (h : memWfFrom lo m = true) (addr x : Nat) (b : Byte) :
    memRead (memWrite m addr b) x = if addr = x then b else memRead m x := by
  induction m generalizing lo with
  | nil =>
    by_cases hb : b = unwritten
    · subst hb; simp [memWrite, memRead]
    · simp [memWrite, hb, memRead]
  | cons y m ih =>
    obtain ⟨a, c⟩ := y
    simp only [memWfFrom, Bool.and_eq_true, decide_eq_true_eq] at h
    obtain ⟨⟨h1, h2⟩, h3⟩ := h
    unfold memWrite
    split
    · rename_i lt
      split
      · rename_i hb; subst hb
        split
        · rename_i e; subst e
          rw [memRead, if_neg (by omega)]
          exact memRead_below h3 (by omega)
        · rfl
      · rfl
    · split
      · rename_i e; subst e
        split
        · rename_i hb; subst hb
          split
          · rename_i e; subst e; exact memRead_below h3 (by omega)
          · rename_i ne; rw [memRead, if_neg ne]
        · by_cases e : addr = x
          · simp [memRead, e]
          · simp [memRead, e]
      · rename_i nlt ne
        rw [memRead, ih h3]
        by_cases e : a = x
        · rw [if_pos e, if_neg (by omega), memRead, if_pos e]
        · rw [if_neg e, memRead, if_neg e]

/-- Reading the address written gives the byte written. -/
theorem memRead_memWrite_same {m : List Host.Cell} (h : Memory.wf m = true) (addr : Nat) (b : Byte) :
    memRead (memWrite m addr b) addr = b := by rw [memRead_memWrite_from h, if_pos rfl]

/-- A write leaves every other address alone. -/
theorem memRead_memWrite_other {m : List Host.Cell} (h : Memory.wf m = true) {addr x : Nat} (b : Byte) (ne : addr ≠ x) :
    memRead (memWrite m addr b) x = memRead m x := by rw [memRead_memWrite_from h, if_neg ne]

/-- A sequence of writes leaves alone every address it does not name. -/
theorem memRead_memWriteAll_other {m : List Host.Cell} (h : Memory.wf m = true) {ws : List (Nat × Byte)} {x : Nat}
    (ne : ∀ w ∈ ws, w.1 ≠ x) : memRead (memWriteAll m ws) x = memRead m x := by
  unfold memWriteAll
  induction ws generalizing m with
  | nil => rfl
  | cons w ws ih =>
    simp only [List.foldl_cons]
    rw [ih (Memory.wf_memWrite h w.1 w.2) (fun v hv => ne v (List.mem_cons_of_mem _ hv))]
    exact memRead_memWrite_other h w.2 (ne w List.mem_cons_self)

/-- A run of bytes reads as a list when each of its bytes does. -/
theorem memReadRange_eq {m : List Host.Cell} {addr : Nat} {bs : List Byte}
    (h : ∀ i (hi : i < bs.length), memRead m (addr + i) = bs[i]) : memReadRange m addr bs.length = bs := by
  induction bs generalizing addr with
  | nil => rfl
  | cons b bs ih =>
    simp only [List.length_cons, memReadRange]
    have first : memRead m addr = b := h 0 (by simp)
    rw [first, ih fun i hi => by
      have := h (i + 1) (by simpa using hi)
      rw [show addr + 1 + i = addr + (i + 1) by omega, this]; rfl]

/-- Every write of a run of addressed bytes names an address of the run. -/
theorem addressed_ge {bs : List Byte} {addr : Nat} : ∀ w ∈ addressed addr bs, addr ≤ w.1 := by
  induction bs generalizing addr with
  | nil => intro w hw; cases hw
  | cons b bs ih =>
    intro w hw
    rcases List.mem_cons.mp hw with rfl | hw
    · exact Nat.le_refl _
    · exact Nat.le_of_succ_le (ih w hw)

/-- A run of addressed bytes that has been written reads back. -/
theorem memRead_addressed {bs : List Byte} {m : List Host.Cell} (h : Memory.wf m = true) {addr i : Nat}
    (hi : i < bs.length) : memRead (memWriteAll m (addressed addr bs)) (addr + i) = bs[i] := by
  induction bs generalizing m addr i with
  | nil => cases hi
  | cons b bs ih =>
    have wf := Memory.wf_memWrite h addr b
    cases i with
    | zero =>
      change memRead (memWriteAll (memWrite m addr b) (addressed (addr + 1) bs)) addr = b
      rw [memRead_memWriteAll_other wf fun w hw => Nat.ne_of_gt (addressed_ge w hw), memRead_memWrite_same h]
    | succ i =>
      change memRead (memWriteAll (memWrite m addr b) (addressed (addr + 1) bs)) (addr + (i + 1)) = bs[i]'(Nat.lt_of_succ_lt_succ hi)
      rw [show addr + (i + 1) = addr + 1 + i by omega]
      exact ih wf (by simpa using hi)

/-- The memory a SAVE has written in full, as three runs of writes. -/
theorem memWriteAll_saveWrites (m : List Host.Cell) (image : List Byte) :
    memWriteAll m (saveWrites image) =
      memWrite (memWrite (memWriteAll (memWrite (memWrite m 0 0) 1 0) (addressed 2 image)) 0 0x5A) 1 0xC3 := by
  simp [memWriteAll, saveWrites, List.foldl_append]

/-- The memory a SAVE has written in full holds the signature. -/
theorem signatureOk_saveWrites {m : List Host.Cell} (h : Memory.wf m = true) (image : List Byte) :
    signatureOk (memWriteAll m (saveWrites image)) = true := by
  have wf := Memory.wf_memWriteAll (Memory.wf_memWrite (Memory.wf_memWrite h 0 0) 1 0) (addressed 2 image)
  have wf' := Memory.wf_memWrite wf 0 0x5A
  rw [signatureOk, memWriteAll_saveWrites, memRead_memWrite_same wf', memRead_memWrite_other wf' _ (by decide),
    memRead_memWrite_same wf]
  rfl

/-- The memory a SAVE has written in full holds the image from address 2 on. -/
theorem memRead_saveWrites {m : List Host.Cell} (h : Memory.wf m = true) {image : List Byte} {i : Nat}
    (hi : i < image.length) : memRead (memWriteAll m (saveWrites image)) (2 + i) = image[i] := by
  have wf0 := Memory.wf_memWrite (Memory.wf_memWrite h 0 0) 1 0
  have wf := Memory.wf_memWriteAll wf0 (addressed 2 image)
  rw [memWriteAll_saveWrites, memRead_memWrite_other (Memory.wf_memWrite wf 0 0x5A) _ (by omega),
    memRead_memWrite_other wf _ (by omega), memRead_addressed wf0 hi]

/-- A run of the memory that a SAVE has written in full is the run of the image. -/
theorem memReadRange_saveWrites {m : List Host.Cell} (h : Memory.wf m = true) {image : List Byte} {i n : Nat}
    (hi : i + n ≤ image.length) :
    memReadRange (memWriteAll m (saveWrites image)) (2 + i) n = (image.drop i).take n := by
  have len : ((image.drop i).take n).length = n := by simp; omega
  conv_lhs => rw [← len]
  refine memReadRange_eq fun j hj => ?_
  rw [Nat.add_assoc, memRead_saveWrites h (by rw [len] at hj; omega)]
  simp

/-- The memory that a SAVE of sections and their CRC has written in full passes the CRC check. -/
theorem storedCrcOk_saveWrites {m : List Host.Cell} (h : Memory.wf m = true) {sections : List Byte}
    (len : sections.length = 905) :
    storedCrcOk (memWriteAll m (saveWrites (sections ++ [crcLowByte (crc16 sections), crcHighByte (crc16 sections)]))) =
      true := by
  unfold storedCrcOk
  rw [show (2 : Nat) = 2 + 0 from rfl, memReadRange_saveWrites h (by simp [len]), show 907 = 2 + 905 from rfl,
    show 908 = 2 + 906 from rfl, memRead_saveWrites h (by simp [len]), memRead_saveWrites h (by simp [len])]
  simp [len, List.getElem_append_right]

/-- The memory after reset is in canonical form. -/
theorem Memory.wf_reset : Memory.wf State.reset.part.memory = true := rfl

/-- A full reset that cuts off a SAVE keeps the canonical form. -/
theorem Memory.wf_cutSave {p : Part} (h : Memory.wf p.memory = true) : Memory.wf p.cutSave.memory = true := by
  unfold Part.cutSave
  split
  · dsimp only; split
    · exact Memory.wf_memWrite (Memory.wf_memWriteAll h _) _ _
    · exact Memory.wf_memWriteAll h _
  · exact h

/-- The memory after a failed SAVE is in canonical form. -/
theorem Memory.wf_failedMemory {p : Part} (h : Memory.wf p.memory = true) (image : List Byte) (f : SaveFault) :
    Memory.wf (p.failedMemory image f) = true := by
  cases f with
  | differs addr => exact Memory.wf_memWrite (Memory.wf_memWriteAll h _) _ _
  | unwritten n | unread addr => exact Memory.wf_memWriteAll h _

/-- After a byte that differs at the read-back every other address holds what the SAVE has written. -/
theorem memRead_failedMemory_other {p : Part} (h : Memory.wf p.memory = true) (image : List Byte) {addr x : Nat}
    (ne : addr ≠ x) : memRead (p.failedMemory image (.differs addr)) x = memRead (memWriteAll p.memory (saveWrites image)) x :=
  memRead_memWrite_other (Memory.wf_memWriteAll h _) _ ne

/-- The end of a SAVE keeps the canonical form. -/
theorem Memory.wf_saveEnd {p : Part} (h : Memory.wf p.memory = true) (fault : Option SaveFault) :
    Memory.wf (saveEnd fault p).memory = true := by
  have fin : ∀ (q : Part) (r : OpResult), (q.finish r).memory = q.memory := by
    intro q r; unfold Part.finish; split <;> rfl
  unfold saveEnd
  split
  · rw [fin]; exact Memory.wf_memWriteAll h _
  · rw [fin]; exact Memory.wf_failedMemory h _ _
  · exact h

end Sys2Proof.Machine
end

