-- ==== Sys2Proof/Laws/PerInstr.lean ====
section
/-! SUPPORT. The family FrameRead, a statement about each command as syntax: a command that is a request has a kind without
the top bit, a payload of at most 49 bytes, and its own link takes frames of its kind; no other command has a frame (R188,
R191). -/

namespace Sys2Proof.Laws

open Sys2Proof

theorem leBytes_length (n x : Nat) : (leBytes n x).length = n := by
  induction n generalizing x with
  | zero => rfl
  | succ n ih => simp [leBytes, ih]

theorem joinFields_length (l : List (Nat × Nat)) : (joinFields l).length = (l.map (·.1)).sum := by
  induction l with
  | nil => rfl
  | cons x l ih => obtain ⟨s, v⟩ := x; simp [joinFields, leBytes_length, ih]

theorem joinPresent_length (l : List (Nat × Option Nat)) : (joinPresent l).length ≤ (l.map (·.1)).sum := by
  induction l with
  | nil => simp [joinPresent]
  | cons x l ih =>
    obtain ⟨s, v⟩ := x
    cases v with
    | none => simp only [joinPresent, List.map_cons, List.sum_cons]; omega
    | some v => simp only [joinPresent, List.length_append, leBytes_length, List.map_cons, List.sum_cons]; omega

theorem joinWithSet_length (n : Nat) (l : List (Nat × Option Nat)) :
    (joinWithSet n l).length ≤ n + (l.map (·.1)).sum := by
  have := joinPresent_length l
  simp only [joinWithSet, List.length_append, leBytes_length]; omega

/-- What the family says of a command. -/
def FrameRead.Statement (c : Instr) : Prop :=
  ∀ port kind payload, encodeRequest c = some (port, kind, payload) →
    kind.toNat < 0x80 ∧ payload.length ≤ 49 ∧ decodeRequest port kind [] ≠ .notOwner

theorem FrameRead.powerOn : FrameRead.Statement .powerOn := by intro _ _ _ h; cases h

theorem FrameRead.brownout (micros : Nat) : FrameRead.Statement (.brownout micros) := by intro _ _ _ h; cases h

theorem FrameRead.resetInput : FrameRead.Statement .resetInput := by intro _ _ _ h; cases h

theorem FrameRead.fullResetEnd : FrameRead.Statement .fullResetEnd := by intro _ _ _ h; cases h

theorem FrameRead.loadCompletion (acknowledged : Bool) : FrameRead.Statement (.loadCompletion acknowledged) := by intro _ _ _ h; cases h

theorem FrameRead.encoderStep (chanA chanB infeed : Bool) : FrameRead.Statement (.encoderStep chanA chanB infeed) := by intro _ _ _ h; cases h

theorem FrameRead.zeroMarkArrival (infeed : Bool) : FrameRead.Statement (.zeroMarkArrival infeed) := by intro _ _ _ h; cases h

theorem FrameRead.speedSample : FrameRead.Statement .speedSample := by intro _ _ _ h; cases h

theorem FrameRead.standstillExpiry : FrameRead.Statement .standstillExpiry := by intro _ _ _ h; cases h

theorem FrameRead.pressuriseExpiry (h : HeadNo) : FrameRead.Statement (.pressuriseExpiry h) := by intro _ _ _ h; cases h

theorem FrameRead.settleExpiry (h : HeadNo) : FrameRead.Statement (.settleExpiry h) := by intro _ _ _ h; cases h

theorem FrameRead.reliefExpiry (h : HeadNo) : FrameRead.Statement (.reliefExpiry h) := by intro _ _ _ h; cases h

theorem FrameRead.ventExpiry (h : HeadNo) : FrameRead.Statement (.ventExpiry h) := by intro _ _ _ h; cases h

theorem FrameRead.coilTestExpiry (h : HeadNo) : FrameRead.Statement (.coilTestExpiry h) := by intro _ _ _ h; cases h

theorem FrameRead.coilTestReport (h : HeadNo) (v : Valve) (r : TestReport) : FrameRead.Statement (.coilTestReport h v r) := by intro _ _ _ h; cases h

theorem FrameRead.flowmeterPulse (h : HeadNo) : FrameRead.Statement (.flowmeterPulse h) := by intro _ _ _ h; cases h

theorem FrameRead.timedOpenExpiry (h : HeadNo) : FrameRead.Statement (.timedOpenExpiry h) := by intro _ _ _ h; cases h

theorem FrameRead.meterSilenceExpiry (h : HeadNo) : FrameRead.Statement (.meterSilenceExpiry h) := by intro _ _ _ h; cases h

theorem FrameRead.sealDrop (h : HeadNo) : FrameRead.Statement (.sealDrop h) := by intro _ _ _ h; cases h

theorem FrameRead.coilReport (h : HeadNo) (v : Valve) (c : CoilFault) : FrameRead.Statement (.coilReport h v c) := by intro _ _ _ h; cases h

theorem FrameRead.moduleStatusReport (m : ModuleNo) : FrameRead.Statement (.moduleStatusReport m) := by intro _ _ _ h; cases h

theorem FrameRead.moduleSilent (m : ModuleNo) : FrameRead.Statement (.moduleSilent m) := by intro _ _ _ h; cases h

theorem FrameRead.holdLimitExpiry : FrameRead.Statement .holdLimitExpiry := by intro _ _ _ h; cases h

theorem FrameRead.lineSilenceExpiry : FrameRead.Statement .lineSilenceExpiry := by intro _ _ _ h; cases h

theorem FrameRead.supplySilenceExpiry : FrameRead.Statement .supplySilenceExpiry := by intro _ _ _ h; cases h

theorem FrameRead.bowlDeterminationExpiry : FrameRead.Statement .bowlDeterminationExpiry := by intro _ _ _ h; cases h

theorem FrameRead.demandPeriodEnd : FrameRead.Statement .demandPeriodEnd := by intro _ _ _ h; cases h

theorem FrameRead.calSilenceExpiry : FrameRead.Statement .calSilenceExpiry := by intro _ _ _ h; cases h

theorem FrameRead.calTimeoutExpiry : FrameRead.Statement .calTimeoutExpiry := by intro _ _ _ h; cases h

theorem FrameRead.calSettleExpiry : FrameRead.Statement .calSettleExpiry := by intro _ _ _ h; cases h

theorem FrameRead.saveCompletion (fault : Option SaveFault) : FrameRead.Statement (.saveCompletion fault) := by intro _ _ _ h; cases h

theorem FrameRead.byteArrival (p : Port) (b : Byte) (byteError : Bool) : FrameRead.Statement (.byteArrival p b byteError) := by intro _ _ _ h; cases h

theorem FrameRead.frameTimerExpiry (p : Port) : FrameRead.Statement (.frameTimerExpiry p) := by intro _ _ _ h; cases h

theorem FrameRead.frameSent (p : Port) : FrameRead.Statement (.frameSent p) := by intro _ _ _ h; cases h

theorem FrameRead.readStatus : FrameRead.Statement .readStatus := by
  rintro _ _ _ ⟨⟩; decide

theorem FrameRead.operationStatus : FrameRead.Statement .operationStatus := by
  rintro _ _ _ ⟨⟩; decide

theorem FrameRead.start : FrameRead.Statement .start := by
  rintro _ _ _ ⟨⟩; decide

theorem FrameRead.hold : FrameRead.Statement .hold := by
  rintro _ _ _ ⟨⟩; decide

theorem FrameRead.resume : FrameRead.Statement .resume := by
  rintro _ _ _ ⟨⟩; decide

theorem FrameRead.stop : FrameRead.Statement .stop := by
  rintro _ _ _ ⟨⟩; decide

theorem FrameRead.enterSafe : FrameRead.Statement .enterSafe := by
  rintro _ _ _ ⟨⟩; decide

theorem FrameRead.recover : FrameRead.Statement .recover := by
  rintro _ _ _ ⟨⟩; decide

theorem FrameRead.restart : FrameRead.Statement .restart := by
  rintro _ _ _ ⟨⟩; decide

theorem FrameRead.cleanBegin : FrameRead.Statement .cleanBegin := by
  rintro _ _ _ ⟨⟩; decide

theorem FrameRead.cleanOpen : FrameRead.Statement .cleanOpen := by
  rintro _ _ _ ⟨⟩; decide

theorem FrameRead.cleanClose : FrameRead.Statement .cleanClose := by
  rintro _ _ _ ⟨⟩; decide

theorem FrameRead.cleanEnd : FrameRead.Statement .cleanEnd := by
  rintro _ _ _ ⟨⟩; decide

theorem FrameRead.selectRecipe (slot : Nat) : FrameRead.Statement (.selectRecipe slot) := by
  rintro _ _ _ ⟨⟩
  refine ⟨by decide, ?_, by decide⟩
  simp [leBytes_length]

theorem FrameRead.writeRecipe (slot : Nat) (r : RecipeFields) : FrameRead.Statement (.writeRecipe slot r) := by
  rintro _ _ _ ⟨⟩
  refine ⟨by decide, ?_, by decide⟩
  simp [leBytes_length, joinFields_length, recipeSizes, recipeToList]

theorem FrameRead.adjustRecipe (f : AdjustFields) : FrameRead.Statement (.adjustRecipe f) := by
  rintro _ _ _ ⟨⟩
  refine ⟨by decide, (joinWithSet_length _ _).trans ?_, by decide⟩
  simp [adjustSizes, adjustToList]

theorem FrameRead.readRecipe (slot : Nat) : FrameRead.Statement (.readRecipe slot) := by
  rintro _ _ _ ⟨⟩
  refine ⟨by decide, ?_, by decide⟩
  simp [leBytes_length]

theorem FrameRead.writeMachine (m : MachineFields) : FrameRead.Statement (.writeMachine m) := by
  rintro _ _ _ ⟨⟩
  refine ⟨by decide, ?_, by decide⟩
  have : m.actions.toList.length = 10 := by simp
  match h : m.actions.toList, this with
  | [a, b, c, d, e, f, g, i, j, k], _ => simp [joinFields_length, machineSizes, machineToList, h]

theorem FrameRead.readMachine : FrameRead.Statement .readMachine := by
  rintro _ _ _ ⟨⟩; decide

theorem FrameRead.writeHead (head : Nat) (f : HeadFields) : FrameRead.Statement (.writeHead head f) := by
  rintro _ _ _ ⟨⟩
  refine ⟨by decide, ?_, by decide⟩
  have := joinWithSet_length 1 (headSizes.zip (headToList f))
  simp [headSizes, headToList] at this
  simp [leBytes_length, headSizes, headToList]; omega

theorem FrameRead.readHead (head : Nat) : FrameRead.Statement (.readHead head) := by
  rintro _ _ _ ⟨⟩
  refine ⟨by decide, ?_, by decide⟩
  simp [leBytes_length]

theorem FrameRead.restoreHead (head : Nat) : FrameRead.Statement (.restoreHead head) := by
  rintro _ _ _ ⟨⟩
  refine ⟨by decide, ?_, by decide⟩
  simp [leBytes_length]

theorem FrameRead.clearFaults (head : Nat) : FrameRead.Statement (.clearFaults head) := by
  rintro _ _ _ ⟨⟩
  refine ⟨by decide, ?_, by decide⟩
  simp [leBytes_length]

theorem FrameRead.clearTotals (head : Nat) : FrameRead.Statement (.clearTotals head) := by
  rintro _ _ _ ⟨⟩
  refine ⟨by decide, ?_, by decide⟩
  simp [leBytes_length]

theorem FrameRead.setDiagnostics (f : DiagFields) : FrameRead.Statement (.setDiagnostics f) := by
  rintro _ _ _ ⟨⟩
  refine ⟨by decide, (joinWithSet_length _ _).trans ?_, by decide⟩
  have : f.actions.toList.length = 10 := by simp
  match h : f.actions.toList, this with
  | [a, b, c, d, e, g, i, j, k, l], _ => simp [diagSizes, diagToList, h]

theorem FrameRead.testCoils : FrameRead.Statement .testCoils := by
  rintro _ _ _ ⟨⟩; decide

theorem FrameRead.calDose (head pCal pFine : Nat) : FrameRead.Statement (.calDose head pCal pFine) := by
  rintro _ _ _ ⟨⟩
  refine ⟨by decide, ?_, by decide⟩
  simp [leBytes_length]

theorem FrameRead.stopCal : FrameRead.Statement .stopCal := by
  rintro _ _ _ ⟨⟩; decide

theorem FrameRead.save : FrameRead.Statement .save := by
  rintro _ _ _ ⟨⟩; decide

theorem FrameRead.measurement (number volume : Nat) : FrameRead.Statement (.measurement number volume) := by
  rintro _ _ _ ⟨⟩
  refine ⟨by decide, ?_, by decide⟩
  simp [leBytes_length]

theorem FrameRead.supplyData (temperature : Int) (carbonation pressure level : Nat) : FrameRead.Statement (.supplyData temperature carbonation pressure level) := by
  rintro _ _ _ ⟨⟩
  refine ⟨by decide, ?_, by decide⟩
  simp [leBytes_length]

theorem FrameRead.sealInputRise (h : HeadNo) : FrameRead.Statement (.sealInputRise h) := by intro _ _ _ h; cases h

end Sys2Proof.Laws
end

