-- ==== Sys2Proof/Laws/Wire.lean ====
section
/-! SUPPORT. What the Link Interface's shared operations do: what a reply changes, the four ways a request can
end, and when a frame outlasts its timer. -/

namespace Sys2Proof.Machine

open Sys2Proof

/-- The part without its links. -/
def Part.offLinks (p : Part) : Part := { p with links := resetPart.links }

@[simp] theorem Part.setPort_offLinks (p : Part) (port : Port) (s : PortState) :
    (p.setPort port s).offLinks = p.offLinks := rfl

/-- A frame handed over changes nothing but its port's queue. -/
@[simp] theorem Part.enqueue_offLinks (p : Part) (port : Port) (f : OutFrame) :
    (p.enqueue port f).offLinks = p.offLinks := by
  unfold Part.enqueue; dsimp only; split <;> rfl

@[simp] theorem Part.reply_offLinks (p : Part) (port : Port) (k : Nat) (a : Answer) :
    (p.reply port k a).offLinks = p.offLinks := by simp [Part.reply]

@[simp] theorem Part.port_setPort_same (p : Part) (port : Port) (s : PortState) : (p.setPort port s).port port = s := by
  cases port <;> rfl

theorem Part.port_setPort_other (p : Part) {port other : Port} (s : PortState) (ne : port ≠ other) :
    (p.setPort port s).port other = p.port other := by
  cases port <;> cases other <;> first | rfl | exact absurd rfl ne

/-- A frame that fits joins the end of its port's queue. -/
theorem Part.enqueue_port (p : Part) (port : Port) (f : OutFrame) (h : (p.port port).queue.length < 80) :
    (p.enqueue port f).port port = { p.port port with queue := (p.port port).queue ++ [f] } := by
  simp [Part.enqueue, h]

/-- A full queue discards the frame. -/
theorem Part.enqueue_full (p : Part) (port : Port) (f : OutFrame) (h : ¬ (p.port port).queue.length < 80) :
    p.enqueue port f = p := by simp [Part.enqueue, h]

@[simp] theorem Part.crcPassed_port (p : Part) (port other : Port) : (p.crcPassed port).port other = p.port other := by
  cases port <;> rfl

@[simp] theorem Part.crcPassed_prod (p : Part) (port : Port) : (p.crcPassed port).control.prod = p.control.prod := by
  cases port <;> rfl

/-! ### What the passing of a CRC leaves alone -/

@[simp] theorem Part.crcPassed_now (p : Part) (port : Port) : (p.crcPassed port).now = p.now := by
  cases port <;> rfl
@[simp] theorem Part.crcPassed_phase (p : Part) (port : Port) : (p.crcPassed port).phase = p.phase := by
  cases port <;> rfl
@[simp] theorem Part.crcPassed_firstHead (p : Part) (port : Port) : (p.crcPassed port).firstHead = p.firstHead := by
  cases port <;> rfl
@[simp] theorem Part.crcPassed_freeCount (p : Part) (port : Port) : (p.crcPassed port).freeCount = p.freeCount := by
  cases port <;> rfl
@[simp] theorem Part.crcPassed_pins (p : Part) (port : Port) : (p.crcPassed port).pins = p.pins := by
  cases port <;> rfl
@[simp] theorem Part.crcPassed_memory (p : Part) (port : Port) : (p.crcPassed port).memory = p.memory := by
  cases port <;> rfl
@[simp] theorem Part.crcPassed_machine (p : Part) (port : Port) : (p.crcPassed port).machine = p.machine := by
  cases port <;> rfl
@[simp] theorem Part.crcPassed_configBad (p : Part) (port : Port) : (p.crcPassed port).configBad = p.configBad := by
  cases port <;> rfl
@[simp] theorem Part.crcPassed_recipes (p : Part) (port : Port) : (p.crcPassed port).recipes = p.recipes := by
  cases port <;> rfl
@[simp] theorem Part.crcPassed_carousel (p : Part) (port : Port) : (p.crcPassed port).carousel = p.carousel := by
  cases port <;> rfl
@[simp] theorem Part.crcPassed_heads (p : Part) (port : Port) : (p.crcPassed port).heads = p.heads := by
  cases port <;> rfl
@[simp] theorem Part.crcPassed_advisory (p : Part) (port : Port) : (p.crcPassed port).advisory = p.advisory := by
  cases port <;> rfl
@[simp] theorem Part.crcPassed_track (p : Part) (port : Port) : (p.crcPassed port).track = p.track := by
  cases port <;> rfl
@[simp] theorem Part.crcPassed_nextNumber (p : Part) (port : Port) : (p.crcPassed port).nextNumber = p.nextNumber := by
  cases port <;> rfl
@[simp] theorem Part.crcPassed_coilTest (p : Part) (port : Port) : (p.crcPassed port).coilTest = p.coilTest := by
  cases port <;> rfl
@[simp] theorem Part.crcPassed_supply (p : Part) (port : Port) : (p.crcPassed port).supply = p.supply := by
  cases port <;> rfl
@[simp] theorem Part.crcPassed_modules (p : Part) (port : Port) : (p.crcPassed port).modules = p.modules := by
  cases port <;> rfl
@[simp] theorem Part.crcPassed_slot (p : Part) (port : Port) : (p.crcPassed port).slot = p.slot := by
  cases port <;> rfl
@[simp] theorem Part.crcPassed_links (p : Part) (port : Port) : (p.crcPassed port).links = p.links := by
  cases port <;> rfl
@[simp] theorem Part.crcPassed_supplyTimer (p : Part) (port : Port) : (p.crcPassed port).supplyTimer = p.supplyTimer := by
  cases port <;> rfl
@[simp] theorem Part.crcPassed_control_firstCause (p : Part) (port : Port) :
    (p.crcPassed port).control.firstCause = p.control.firstCause := by cases port <;> rfl
@[simp] theorem Part.crcPassed_control_causes (p : Part) (port : Port) :
    (p.crcPassed port).control.causes = p.control.causes := by cases port <;> rfl
@[simp] theorem Part.crcPassed_control_holdTimer (p : Part) (port : Port) :
    (p.crcPassed port).control.holdTimer = p.control.holdTimer := by cases port <;> rfl
@[simp] theorem Part.crcPassed_control_cleanOpened (p : Part) (port : Port) :
    (p.crcPassed port).control.cleanOpened = p.control.cleanOpened := by cases port <;> rfl
@[simp] theorem Part.crcPassed_control_activeSlot (p : Part) (port : Port) :
    (p.crcPassed port).control.activeSlot = p.control.activeSlot := by cases port <;> rfl
@[simp] theorem Part.crcPassed_control_admitted (p : Part) (port : Port) :
    (p.crcPassed port).control.admitted = p.control.admitted := by cases port <;> rfl
@[simp] theorem Part.crcPassed_control_discharged (p : Part) (port : Port) :
    (p.crcPassed port).control.discharged = p.control.discharged := by cases port <;> rfl
@[simp] theorem Part.crcPassed_head (p : Part) (port : Port) (h : HeadNo) :
    (p.crcPassed port).head h = p.head h := by cases port <;> rfl
@[simp] theorem Part.crcPassed_entry (p : Part) (port : Port) (h : HeadNo) :
    (p.crcPassed port).entry h = p.entry h := by cases port <;> rfl
@[simp] theorem Part.crcPassed_context (p : Part) (port : Port) (h : HeadNo) :
    (p.crcPassed port).context h = p.context h := by cases port <;> rfl
@[simp] theorem Part.crcPassed_record (p : Part) (port : Port) (h : HeadNo) :
    (p.crcPassed port).record h = p.record h := by cases port <;> rfl
@[simp] theorem Part.crcPassed_diag (p : Part) (port : Port) (h : HeadNo) :
    (p.crcPassed port).diag h = p.diag h := by cases port <;> rfl
@[simp] theorem Part.crcPassed_fitted (p : Part) (port : Port) (h : HeadNo) :
    (p.crcPassed port).fitted h = p.fitted h := by cases port <;> rfl
@[simp] theorem Part.crcPassed_fittedHead (p : Part) (port : Port) (h : Nat) :
    (p.crcPassed port).fittedHead h = p.fittedHead h := by cases port <;> rfl
@[simp] theorem Part.crcPassed_activeRecipe (p : Part) (port : Port) : (p.crcPassed port).activeRecipe = p.activeRecipe := by
  cases port <;> rfl
@[simp] theorem Part.crcPassed_contextCount (p : Part) (port : Port) : (p.crcPassed port).contextCount = p.contextCount := by
  cases port <;> rfl
@[simp] theorem Part.crcPassed_inhibited (p : Part) (port : Port) : (p.crcPassed port).inhibited = p.inhibited := by
  cases port <;> rfl
@[simp] theorem Part.crcPassed_anySilent (p : Part) (port : Port) : (p.crcPassed port).anySilent = p.anySilent := by
  cases port <;> rfl
@[simp] theorem Part.crcPassed_anyVenting (p : Part) (port : Port) : (p.crcPassed port).anyVenting = p.anyVenting := by
  cases port <;> rfl
@[simp] theorem Part.crcPassed_image (p : Part) (port : Port) : (p.crcPassed port).image = p.image := by
  cases port <;> rfl
@[simp] theorem Part.crcPassed_startTimer (p : Part) (port : Port) (ms : Nat) :
    (p.crcPassed port).startTimer ms = p.startTimer ms := by cases port <;> rfl

@[simp] theorem Part.crcPassed_portFree (p : Part) (port other : Port) :
    (p.crcPassed port).portFree other ↔ p.portFree other := by simp [Part.portFree]

/-! ### Requests -/

/-- What becomes of a frame that has passed its CRC check: discarded, held or taken. -/
theorem Part.arrive_cases (p : Part) (port : Port) (frame : Byte × List Byte) (take : Part → Part) :
    ((p.port port).held.isSome = true ∧ p.arrive port frame take = p.crcPassed port) ∨
    ((p.port port).held = none ∧ (p.port port).hasReply = true ∧
      p.arrive port frame take = (p.crcPassed port).setPort port { p.port port with held := some frame }) ∨
    (p.portFree port ∧ p.arrive port frame take = take (p.crcPassed port)) := by
  unfold Part.arrive
  cases held : (p.port port).held <;> cases unsent : (p.port port).hasReply <;>
    simp [held, unsent, Part.portFree]

/-- A frame at a free port is taken at once. -/
theorem Part.arrive_free {p : Part} {port : Port} (frame : Byte × List Byte) (take : Part → Part)
    (h : p.portFree port) : p.arrive port frame take = take (p.crcPassed port) := by
  simp [Part.arrive, h.1, h.2]

/-- A request while a full reset lasts is lost. -/
theorem Part.request_inReset {p : Part} (c : Instr) (port : Port) (kind : Nat) (owner : Part → Part × Answer)
    (h : p.phase = .inReset) : p.request c port kind owner = p := by simp [Part.request, h]

/-- A request in CONFIG that is not READ STATUS is refused with WRONG_STATE. -/
theorem Part.request_config {p : Part} (c : Instr) {port : Port} {kind : Nat} (owner : Part → Part × Answer)
    (h : p.phase ≠ .inReset) (free : p.portFree port) (hc : p.control.prod = .config) (hk : kind ≠ 1) :
    p.request c port kind owner = (p.crcPassed port).reply port kind (refuse .wrongState) := by
  simp [Part.request, Part.arrive_free _ _ free, Part.serve, h, hc, hk]

/-- A request that reaches its owner: the owner's work, then its reply. -/
theorem Part.request_served {p : Part} (c : Instr) {port : Port} {kind : Nat} (owner : Part → Part × Answer)
    (h : p.phase ≠ .inReset) (free : p.portFree port) (hc : p.control.prod ≠ .config ∨ kind = 1) :
    p.request c port kind owner =
      (owner (p.crcPassed port)).1.reply port kind (owner (p.crcPassed port)).2 := by
  rw [Part.request, if_neg h, Part.arrive_free _ _ free, Part.serve, if_neg]
  rintro ⟨a, b⟩
  rw [Part.crcPassed_prod] at a
  rcases hc with hc | hc
  · exact hc a
  · exact b hc

/-- A request of the line link that its owner refuses. -/
theorem Part.request_refused {p : Part} {c : Instr} {kind : Nat} {owner : Part → Part × Answer} {st : Status}
    (ht : p.takes) (ho : owner (p.crcPassed .line) = refusal st (p.crcPassed .line)) :
    p.request c .line kind owner = p.refuses kind st := by
  rw [Part.request_served _ _ ht.1 ht.2.2 (.inl ht.2.1), ho]; rfl

/-- A request of the line link that its owner accepts. -/
theorem Part.request_accepted {p : Part} {c : Instr} {kind : Nat} {owner : Part → Part × Answer}
    {change : Part → Part} (ht : p.takes) (ho : owner (p.crcPassed .line) = accept (change (p.crcPassed .line))) :
    p.request c .line kind owner = p.accepts kind change := by
  rw [Part.request_served _ _ ht.1 ht.2.2 (.inl ht.2.1), ho]; rfl

/-! ### Received bytes -/

/-- A frame with fewer than 200 bytes kept is not cut off by the frame timer. -/
theorem Part.outlast_within {p : Part} {port : Port} (h : (p.port port).rx.kept < 200) : p.outlast port = p := by
  simp [Part.outlast, Nat.not_le.mpr h]

/-- A frame with 200 bytes kept is gone before its next byte. -/
theorem Part.outlast_gone {p : Part} {port : Port} (h : 200 ≤ (p.port port).rx.kept) :
    p.outlast port = p.setPort port { p.port port with rx := .hunt, timer := .stopped } := by
  simp [Part.outlast, h, Part.dropFrame]

end Sys2Proof.Machine
end

