-- ==== Sys2Proof/Tests/Slice0.lean ====
section
/-! SUPPORT. Tests on fixed values: ill-formed commands refused, frames written out, the worked cases of the spec, and for
each obligation with hypotheses a witness that they can be met. -/

namespace Sys2Proof.Tests

set_option maxRecDepth 20000
set_option Elab.async false

open Sys2Proof Sys2Proof.Machine

/-! ### The machine of the worked cases (spec/01 section 1.8, spec/03 section 3.2) -/

/-- The sector table of the worked cases, with heads 5 and 6 fitted. -/
def machine : MachineConfig :=
  { defaultMachine with
    fitted := 0x60, aPress := 1200, aFill := 2400, aFillend := 8400, aRelief := 9600, aDis := 13200 }

/-- The recipe of the worked cases. -/
def recipe : Recipe := ⟨5000, 400, 300, 300, 800, 400, 400, 4, 5, 100, 0, true, 3, 10, 60, 0⟩

/-- The record of head 5. -/
def record : HeadRecord := { freshRecord true ⟨true, true, 12480, 46, 1800, 12⟩ with gen := 3 }

/-- The snapshot and the context of container 812 on head 5. -/
def snap : Snapshot := ⟨12480, 46, 1800, 12, 3, 400, 300, 300, 800, 10, 4966, 2759⟩

/-- The context of container 812 on head 5. -/
def ctx : Context := newContext 812 .flow (some snap) (some 7) (some 5000) 6198 5756

/-- The part in a production state with the recipe in slot 2 active, fresh supply data, and head 5 and 6 in service. -/
def part (prod : Prod) : Part :=
  { resetPart with
    phase := .running
    machine := machine
    recipes := (Vector.replicate 8 none).set 2 (some ⟨7, recipe⟩)
    heads := (resetPart.heads.set 5 (blankHead record)).set 6 (blankHead record)
    carousel := { blankCarousel with zero := some .clear }
    supply := { blankSupply with record := some ⟨65, 385, 2300, .ok⟩, freshness := .fresh, setpoint := 2339 }
    control := { blankControl with prod := prod, activeSlot := some 2 } }

/-- Head 5 in a head state with a container and its phase timer due at 40. -/
def held (prod : Prod) (st : HeadState) (c : Context) : Part :=
  (part prod).modHead 5 fun x =>
    { x with entry := { x.entry with state := st, timer := .running 40 }, context := some c }

/-- The part after a command. -/
def after (c : Instr) (p : Part) : Part :=
  match exec c ⟨[], p⟩ with
  | .next s => s.part
  | .fault _ | .refused _ => p

/-- The line port of the part in STANDBY in a receiver state. -/
def port (rx : Receiver) (held : Option (Byte × List Byte)) (queue : List OutFrame) : Part :=
  (part .standby).setPort .line ⟨rx, .running 40, held, queue⟩

/-- A part that is pending a CAL DOSE of head 5 in a phase. -/
def calibrating (k : CalRecord) : Part := { part .standby with slot := .pendingCal k }

/-- The calibration record of the worked case of spec/09, after some pulses. -/
def cal (phase : CalPhase) (counted : Nat) : CalRecord where
  head := 5
  pCal := 12480
  pFine := 480
  k := 12480
  settle := 300
  phase := phase
  counted := counted
  after := 55
  start := 0
  fastClose := some 5500
  completion := some 6300
  timeoutTimer := .running 30000
  silenceTimer := .running 8300
  settleTimer := .running 6600

/-- A DISCHARGED record and an ON_CAROUSEL record of head 5. -/
def outcome : Discharged :=
  ⟨some 7, some 5000, .flow, .complete, some 4966, some 5016, 0, .pass⟩

/-- The track with a DISCHARGED record and the record of container 812 behind it. -/
def track : List TrackRecord := [⟨740, 5, some 2, some outcome⟩, ⟨812, 5, some 2, none⟩]

/-! ### Ill-formed commands are refused, one for each check -/

theorem test_wf_refuses_head_numbers :
    (Instr.readHead 256).wf = false ∧ (Instr.restoreHead 256).wf = false ∧ (Instr.clearFaults 256).wf = false ∧
    (Instr.clearTotals 256).wf = false ∧ (Instr.calDose 256 0 0).wf = false ∧
    (Instr.writeHead 256 ⟨none, none, none, none, none, none⟩).wf = false := by decide

theorem test_wf_refuses_slots :
    (Instr.selectRecipe 256).wf = false ∧ (Instr.readRecipe 256).wf = false ∧
    (Instr.writeRecipe 256 (recipeToFields recipe)).wf = false := by decide

theorem test_wf_refuses_counts :
    (Instr.calDose 5 4294967296 0).wf = false ∧ (Instr.calDose 5 0 4294967296).wf = false ∧
    (Instr.measurement 65536 0).wf = false ∧ (Instr.measurement 0 65536).wf = false ∧
    (Instr.saveCompletion (some (.unwritten 911))).wf = false ∧ (Instr.saveCompletion (some (.unread 909))).wf = false ∧
    (Instr.saveCompletion (some (.differs 909))).wf = false := by decide

theorem test_wf_refuses_supply_values :
    (Instr.supplyData (-32769) 0 0 0).wf = false ∧ (Instr.supplyData 32768 0 0 0).wf = false ∧
    (Instr.supplyData 0 65536 0 0).wf = false ∧ (Instr.supplyData 0 0 65536 0).wf = false ∧
    (Instr.supplyData 0 0 0 256).wf = false := by decide

theorem test_wf_refuses_recipe_fields :
    let r := recipeToFields recipe
    ∀ x ∈ [{ r with v := 65536 }, { r with b := 65536 }, { r with press := 65536 }, { r with settle := 65536 },
      { r with relief := 65536 }, { r with carb := 65536 }, { r with margin := 65536 }, { r with gain := 256 },
      { r with deadband := 256 }, { r with gross := 65536 }, { r with warmup := 256 }, { r with timedAllowed := 256 },
      { r with promo := 256 }, { r with dev := 256 }, { r with hold := 65536 }, { r with speed := 256 }],
      (Instr.writeRecipe 0 x).wf = false := by decide

theorem test_wf_refuses_adjustments :
    let f : AdjustFields := ⟨none, none, none, none, none, none, none, none⟩
    ∀ x ∈ [{ f with v := some 65536 }, { f with b := some 65536 }, { f with gain := some 256 },
      { f with deadband := some 256 }, { f with gross := some 65536 }, { f with margin := some 65536 },
      { f with hold := some 65536 }, { f with speed := some 256 }], (Instr.adjustRecipe x).wf = false := by decide

theorem test_wf_refuses_machine_fields :
    let m := machineToFields machine
    ∀ x ∈ [{ m with nPos := 256 }, { m with nInc := 65536 }, { m with aPress := 65536 }, { m with aFill := 65536 },
      { m with aFillend := 65536 }, { m with aRelief := 65536 }, { m with aDis := 65536 }, { m with reverseLimit := 65536 },
      { m with lineSilence := 65536 }, { m with supplySilence := 65536 }, { m with inspection := 256 },
      { m with meterSilence := 65536 }, { m with runawayLimit := 65536 }, { m with outlierLimit := 65536 },
      { m with window := 256 }, { m with mode := 256 }, { m with actions := Vector.replicate 10 256 },
      { m with bowlTime := 65536 }, { m with startSlot := 256 }], (Instr.writeMachine x).wf = false := by decide

theorem test_wf_refuses_head_fields :
    let f : HeadFields := ⟨none, none, none, none, none, none⟩
    ∀ x ∈ [{ f with k := some 65536 }, { f with a := some 65536 }, { f with r := some 65536 }, { f with t := some 32768 },
      { f with t := some (-32769) }, { f with inService := some 256 }, { f with timedAllowed := some 256 }],
      (Instr.writeHead 0 x).wf = false := by decide

theorem test_wf_refuses_diagnostic_fields :
    let f : DiagFields := ⟨none, none, Vector.replicate 10 none⟩
    ∀ x ∈ [{ f with window := some 256 }, { f with mode := some 256 }, { f with actions := Vector.replicate 10 (some 256) }],
      (Instr.setDiagnostics x).wf = false := by decide

/-! ### Frames and payloads written out from R187, R191, R192 and R199 -/

/-- spec/10 section 10.9: the CRC register after 0x01 and after 0x00. -/
theorem test_crc_steps : crcByte 0xFFFF 0x01 = 0xF1D1 ∧ crc16 [0x01, 0x00] = 0x2E3E := by decide

theorem test_decode_write_recipe :
    decodeRequest .line 0x11 [0x02, 0x88, 0x13, 0x90, 0x01, 0x2C, 0x01, 0x2C, 0x01, 0x20, 0x03, 0x90, 0x01, 0x90, 0x01,
      0x04, 0x05, 0x64, 0x00, 0x00, 0x01, 0x03, 0x0A, 0x3C, 0x00, 0x00] =
      .request (.writeRecipe 2 (recipeToFields recipe)) := by decide

theorem test_refused_reply_has_no_contents :
    ((after .start (part .drain)).port .line).queue = [⟨true, 0x83, [2]⟩] := by decide

/-! ### The worked cases of the spec -/

/-- spec/03 section 3.2: E, C, F, t and the empty flag set. -/
theorem test_dose_of_the_worked_case : (part .production).admissionContext 5 812 = ctx := by decide +kernel

/-- spec/03 section 3.6: A becomes 47 and R 1792, and the advisory falls to 34320. -/
theorem test_learning_of_the_worked_case :
    let t := after (.settleExpiry 5) ((held .production .settle { ctx with
      fillStart := some 1200, fastClose := some 3850, fill := 6198, after := 62, status := .complete
      afterState := .counting }).modHead 6 fun x => { x with record := { x.record with method := .out } })
    (t.record 5).stored.a = 47 ∧ (t.record 5).stored.r = 1792 ∧ t.advisory = 34320 := by decide +kernel

/-- spec/03 section 3.6: dosed volume, and the shadow judgements of counts 6230, 5500 and 0. -/
theorem test_dosed_volume_and_judgements :
    ({ ctx with fill := 6198, after := 62 } : Context).dosed = some 5016 ∧
    [6230, 5500, 0].map (fun n => judgeShadow n 12480 5000 12 10) = [.plausible, .implausible, .implausible] := by decide

/-- spec/01 section 1.8: the offsets of heads 5 and 63, and the speed after 8 and after 5 samples of 24. -/
theorem test_offsets_and_speed :
    headOffset machine 5 = 1125 ∧ headOffset machine 63 = 14175 ∧
    ({ blankCarousel with history := Vector.replicate 8 24 } : Carousel).speed = 2400 ∧
    ({ blankCarousel with history := #v[24, 24, 24, 24, 24, 0, 0, 0] } : Carousel).speed = 1500 := by decide

/-- spec/01 section 1.8: a backward step at the reverse limit in PRODUCTION and in STANDBY. -/
theorem test_jog_backward :
    let p := fun prod => { part prod with carousel := { blankCarousel with position := 4800, lag := 200, standstill := false } }
    let t := fun prod => after (.encoderStep false true false) (p prod)
    ((t .production).carousel.position = 4799 ∧ (t .production).carousel.lag = 200 ∧
      (t .production).control.firstCause = some .reverse) ∧
    (t .standby).furthest = 4999 ∧ (t .standby).control.prod = .standby := by decide +kernel

/-- spec/05 section 5.4.1: the trims of the worked cases. -/
theorem test_corrected_trims :
    [correctedTrim 12 5023 5000 4, correctedTrim (-4) 4990 5000 4, correctedTrim 30 4993 5000 3,
      correctedTrim 195 4970 5000 8, correctedTrim (-200) 5050 5000 2, correctedTrim 12 4900 5000 4] =
      [0, 1, 33, 200, -200, 62] := by decide

/-- spec/05 section 5.4.1: errors of 4, 140 and -100 against a deadband of 5 and a gross limit of 100. -/
theorem test_measurement_codes :
    [5004, 5140, 4900].map ((part .production).judgeMeasurement ⟨740, 5, some 2, some outcome⟩ outcome) =
      [.stale, .stale, .stale] ∧
    [5004, 5140, 4900].map (((part .production).modRecord 5 fun x => { x with trimFrom := some 740 }).judgeMeasurement
      ⟨740, 5, some 2, some outcome⟩ outcome) = [.noChange, .outlier, .accepted] := by decide +kernel

/-- spec/06 section 6.4: the window of eight after samples 6, 7, 9 and 10. -/
theorem test_window_of_eight :
    let joins := fun (l : List Bool) => l.foldl (fun w b => windowJoin 8 b w) []
    let bits := [false, true, true, false, true, true, true, false, false, false]
    windowDeviant 8 (joins (bits.take 6)) = false ∧ windowDeviant 8 (joins (bits.take 7)) = true ∧
    joins (bits.take 9) = [true, true, false, true, true, true, false, false] ∧
    windowDeviant 8 (joins bits) = false := by decide

/-- spec/07 section 7.2: solubility at 65, the setpoints 2339 and 5402, and the limits 1000 and 6000. -/
theorem test_pressure_requests :
    solubility 65 = 1355 ∧ setpointOf 400 65 400 = 2339 ∧ setpointOf 400 300 400 = 5402 ∧
    setpointOf 150 0 0 = 1000 ∧ setpointOf 600 250 1500 = 6000 := by decide

/-- spec/07 section 7.3: SUPPLY DATA at 2120, 2138, 2139 and 2300 mbar in CLEAR, and at 2238 and 2239 in LOW. -/
theorem test_bowl_watch :
    let watch := fun (w : Watch) (pressure : Nat) =>
      let p := part .production
      (after (.supplyData 65 385 pressure 1) { p with supply := { p.supply with watch := w } }).supply.watch
    [2120, 2138, 2139, 2300].map (watch .clear) = [.timing, .timing, .clear, .clear] ∧
    [2200, 2238, 2239].map (watch .low) = [.low, .low, .clear] := by decide +kernel

/-- spec/07 section 7.5: 6260 pulses at K = 12480 and 6100 at K = 10000 are 11116 du. -/
theorem test_demand :
    let p := ((part .standby).modHead 5 fun x => { x with demandCount := 6260 }).modHead 6 fun x => { x with
      demandCount := 6100, record := { x.record with stored := { x.record.stored with k := 10000 } } }
    p.periodDemand = 11116 := by decide +kernel

/-- spec/09 section 9.4: the result of the calibration of head 5. -/
theorem test_calibration_result :
    (after .calSettleExpiry (calibrating (cal .settle 12480))).slot =
      .finished (.calDone 12480 55 6300 1748) := by decide +kernel

/-- spec/11 section 11.5: a dip of 600 microseconds is no reset, one of 40 ms is. -/
theorem test_brownout :
    (after (.brownout 600) (part .standby)).phase = .running ∧
    (after (.brownout 40000) (part .standby)).phase = .inReset := by decide +kernel

/-- spec/02 section 2.11: a fill is aborted at SAFE entry and its head is relieved. -/
theorem test_safe_entry_in_a_fill :
    let t := after .enterSafe (held .production .fillFast { ctx with filling := true })
    (t.entry 5).state = .relief ∧ (t.entry 5).timer = .running 800 ∧
      (t.context 5).map (fun c => (c.status, c.flags)) = some (.aborted, 0x1000) := by decide +kernel

/-! ### Witnesses: states and operands that meet the hypotheses of the obligations, clause by clause -/

/-- RequestsDecodeAsEncoded and DecodedRequestsEncodeBack. -/
theorem witness_requests :
    (Instr.calDose 255 4294967295 0).wf = true ∧
    encodeRequest (.calDose 255 4294967295 0) = some (.line, 0x21, [255, 255, 255, 255, 255, 0, 0, 0, 0]) ∧
    decodeRequest .line 0x21 [255, 255, 255, 255, 255, 0, 0, 0, 0] = .request (.calDose 255 4294967295 0) := by decide

/-- WholeFrameRunsItsCommand: at a free port, behind an unsent reply, and behind a held frame. -/
theorem witness_whole_frame :
    let p := fun (held : Option (Byte × List Byte)) queue => (part .standby).setPort .line ⟨.hunt, .stopped, held, queue⟩
    let reply : OutFrame := ⟨true, 0x81, [2]⟩
    encodeRequest (.readHead 255) = some (.line, 0x19, [255]) ∧ (Instr.readHead 255).wf = true ∧
    (p none []).portFree .line ∧ ((p none [reply]).port .line).hasReply = true ∧
    ((p (some (1, [])) [reply]).port .line).held.isSome = true ∧
    ∀ q ∈ [p none [], p none [reply], p (some (1, [])) [reply]],
      q.phase ≠ .inReset ∧ (q.port .line).rx = .hunt ∧ (q.port .line).timer = .stopped := by decide

/-- DiscardedFrameLeavesNoTrace: byte error, lengths 201 and 255, a CRC that differs in one bit, the frame timer, HUNT, and
a byte behind 200 bytes of a frame in each of the three states that keep them. -/
theorem witness_discarded_frame :
    let got := fun n => List.replicate n (7 : Byte)
    ((port (.payload 1 200 (got 198)) none []).port .line).rx = .payload 1 200 (got 198) ∧ 198 ≤ (got 198).length ∧
    ((port (.crcLow 1 (got 198)) none []).port .line).rx = .crcLow 1 (got 198) ∧
    ((port (.crcHigh 1 (got 197) 0) none []).port .line).rx = .crcHigh 1 (got 197) 0 ∧ 197 ≤ (got 197).length ∧
    (got 196).length ≤ 196 ∧ (0x00 : Byte) ++ (0x00 : Byte) ≠ crc16 (1 :: BitVec.ofNat 8 196 :: got 196) ∧
    (port .kind none []).phase ≠ .inReset ∧ ((port .kind none []).port .line).rx ≠ .hunt ∧
    ((port (.length 1) none []).port .line).rx = .length 1 ∧ 200 < (201 : Byte).toNat ∧ 200 < (255 : Byte).toNat ∧
    ((port (.crcHigh 1 [] 0x3E) none []).port .line).rx = .crcHigh 1 [] 0x3E ∧
    (0x2F : Byte) ++ (0x3E : Byte) ≠ crc16 (1 :: BitVec.ofNat 8 0 :: []) ∧
    ((port .kind none []).port .line).timer = .running 40 ∧
    ((port .hunt none []).port .line).rx = .hunt ∧ (0xA4 : Byte) ≠ 0xA5 := by decide +kernel

/-- GoodFrameIsTakenHeldOrAnswered: READ STATUS held or behind a held frame, kind 0x30 on the line link, and READ RECIPE
without its field. -/
theorem witness_good_frame :
    let taken := fun (kind : Byte) (port' : Part) (b low : Byte) =>
      port'.phase ≠ .inReset ∧ (port'.port .line).rx = .crcHigh kind [] low ∧
        ([] : List Byte).length ≤ 196 ∧ b ++ low = crc16 (kind :: BitVec.ofNat 8 0 :: [])
    (taken 1 (port (.crcHigh 1 [] 0x3E) (some (1, [])) [⟨true, 0x81, [2]⟩]) 0x2E 0x3E ∧
      taken 1 (port (.crcHigh 1 [] 0x3E) none [⟨true, 0x81, [2]⟩]) 0x2E 0x3E) ∧
    (taken 0x30 (port (.crcHigh 0x30 [] 0x9A) none [⟨false, 0xB1, []⟩]) 0x18 0x9A ∧
      decodeRequest .line 0x30 [] = .notOwner) ∧
    taken 0x13 (port (.crcHigh 0x13 [] 0x2F) none []) 0x4B 0x2F ∧ decodeRequest .line 0x13 [] = .format := by decide

/-- SentFrameLeavesItsQueue: an empty queue, a held frame that stays behind a second reply, and one that is taken. -/
theorem witness_sent_frame :
    let f : OutFrame := ⟨true, 0x81, [2]⟩
    ((part .standby).port .line).queue = [] ∧
    (((port .hunt (some (1, [])) [f, f]).port .line).queue = f :: [f] ∧ ([f].any (·.reply) = true)) ∧
    ((port .hunt (some (1, [])) [f]).port .line).queue = f :: [] ∧
    ((port .hunt (some (1, [])) [f]).port .line).held = some (1, []) ∧ ([] : List OutFrame).any (·.reply) = false := by
  decide

/-- RequestsInConfigAreRefused, EveryRequestIsAnsweredOnce: START in CONFIG at a free port, in a full reset, behind 79
frames, behind an unsent reply and behind a held frame. -/
theorem witness_requests_answered :
    let reply : OutFrame := ⟨true, 0x81, [2]⟩
    (part .config).portFree .line ∧
    (((port .hunt none [reply]).port .line).held = none ∧ ((port .hunt none [reply]).port .line).queue.any (·.reply) = true) ∧
    ((port .hunt (some (1, [])) [reply]).port .line).held.isSome = true ∧
    (((port .hunt none []).port .line).held = none ∧ ((port .hunt none []).port .line).queue.any (·.reply) = false) ∧
    encodeRequest .start = some (.line, 0x03, []) ∧ (after .powerOn (part .standby)).phase = .inReset ∧
    ((part .config).phase ≠ .inReset ∧ (part .config).control.prod = .config ∧ Instr.start ≠ .readStatus) ∧
    (((port .hunt none (List.replicate 79 ⟨false, 0xB1, []⟩)).port .line).queue.length < 80) := by decide +kernel

/-- ReadsChangeNothing: a free port, slots 7 and 8, head 5 fitted, heads 7 and 64 not. -/
theorem witness_reads :
    (part .safe).portFree .line ∧ (part .safe).fitted 5 = true ∧
    (part .safe).phase ≠ .inReset ∧ (part .safe).control.prod ≠ .config ∧ 7 < 8 ∧ 8 ≤ 8 ∧
    (part .safe).machine.fitted.getLsbD 5 = true ∧ (part .safe).machine.fitted.getLsbD 7 = false ∧
    (part .safe).machine.fitted.getLsbD 64 = false := by decide

/-- FullResetClearsThePart and FullResetCutsASave: dips of 1000 and 1001 microseconds, in and out of a reset, a SAVE. -/
theorem witness_full_reset :
    (part .standby).slot.isSave = false ∧ 1000 ≤ 1000 ∧ 1000 < 1001 ∧ (part .standby).phase ≠ .inReset ∧
    (after .powerOn (part .standby)).phase = .inReset ∧
    ({ part .standby with slot := .pendingSave [0x44] } : Part).slot = .pendingSave [0x44] := by decide

/-- CutSaveLeavesABadMemory: a cut after the first write, one before the last, and a torn signature byte. -/
theorem witness_cut_save :
    let image := List.replicate 907 (0x44 : Byte)
    Memory.wf [(0, 0x5A), (1, 0xC3)] = true ∧ image.length = 907 ∧ 1 ≤ 1 ∧ 1 ≤ 910 ∧ 910 ≤ 910 ∧ 909 ≤ 909 ∧
    (saveWrites image)[909]? = some (0, 0x5A) ∧ (saveWrites image)[1]? = some (1, 0) := by decide +kernel

/-- SavedMemoryLoadsTheSnapshot. -/
theorem witness_saved_memory : (part .standby).storable = true ∧ Memory.wf [(5, 1)] = true := by decide +kernel

/-- SaveWritesItsSnapshot: CONFIG_BAD, an operation pending, an accepted SAVE, its completions and a completion without it;
and a whole image, of 911 byte writes, whose last read-back differs, at an address that is not the one read. -/
theorem witness_save :
    let p := part .standby
    let q : Part := { p with slot := .pendingSave (List.replicate 907 0x44) }
    (q.slot = .pendingSave (List.replicate 907 0x44) ∧ (saveWrites (List.replicate 907 0x44)).length = 911 ∧
      (Instr.saveCompletion (some (.differs 908))).wf = true ∧ (Instr.saveCompletion (some (.unwritten 910))).wf = true ∧
      Memory.wf q.memory = true ∧ (907 : Nat) ≠ 908) ∧
    p.takes ∧ ({ p with configBad := true } : Part).configBad = true ∧
    (p.configBad = false ∧ (calibrating (cal .fast 0)).slot.isPending = true ∧ (calibrating (cal .fast 0)).takes) ∧
    p.slot.isPending = false ∧ p.slot.isSave = false := by decide +kernel

/-- SaveWritesItsSnapshot, in the form its clause on the failed byte takes: a SAVE over a blank memory whose read-back of
the first image byte differs leaves that byte alone open; the second signature byte is the one the SAVE wrote. -/
theorem test_failed_read_back :
    let image := List.replicate 907 (0x44 : Byte)
    ({ part .standby with slot := .pendingSave image } : Part).failedMemory image (.differs 2) =
      memWrite (memWriteAll [] (saveWrites image)) 2 (Config.undeterminedByte 0) ∧
    memRead (memWriteAll [] (saveWrites image)) 1 = 0xC3 := by
  exact ⟨rfl, by decide +kernel⟩

/-- BadMemoryLoadsTheDefaults: a blank memory that acknowledged, and any memory that did not. -/
theorem witness_bad_memory : loadMemory [] = none ∧ loadMemory [(0, 0x5A), (1, 0xC3)] = none := by decide +kernel

/-- GoodMemoryIsLoaded: the memory that a SAVE of the worked cases' machine leaves. -/
theorem witness_good_memory :
    resetPart.phase = .loading ∧ resetPart.control.prod = .config ∧
    ∃ l, loadMemory (memWriteAll [] (saveWrites (part .standby).image)) = some l := by
  refine ⟨rfl, rfl, ?_⟩
  have wf : Memory.wf [] = true := rfl
  have len : (part .standby).sections.length = 905 := by decide +kernel
  have size : (part .standby).image.length = 907 := by simp [Part.image, len]
  have crc : storedCrcOk (memWriteAll [] (saveWrites (part .standby).image)) = true := storedCrcOk_saveWrites wf len
  have machine : ∃ m, machineAt (memWriteAll [] (saveWrites (part .standby).image)) = some m := by
    rw [machineAt, show (2 : Nat) = 2 + 0 from rfl, memReadRange_saveWrites wf (by omega), ← Option.isSome_iff_exists]
    decide +kernel
  obtain ⟨m, machine⟩ := machine
  have recipes : ∀ i, (recipeAt (memWriteAll [] (saveWrites (part .standby).image)) i).isSome = true := by
    intro i
    rw [recipeAt, show 51 + 27 * i.val = 2 + (49 + 27 * i.val) by omega, memReadRange_saveWrites wf (by omega)]
    revert i; decide +kernel
  have heads : ∀ h, (storedAt (memWriteAll [] (saveWrites (part .standby).image)) h).isSome = true := by
    intro h
    rw [storedAt, show 267 + 10 * h.val = 2 + (265 + 10 * h.val) by omega, memReadRange_saveWrites wf (by omega)]
    revert h; decide +kernel
  rw [loadMemory, signatureOk_saveWrites wf, crc, machine]
  simp [recipes, heads]

/-- RestartKeepsTheWorkingCopies: at a free port, out of STANDBY and SAFE, with a SAVE pending, and accepted. -/
theorem witness_restart :
    (part .safe).portFree .line ∧ (part .hold).portFree .line ∧
    ((part .hold).phase = .running ∧ (part .hold).control.prod ∉ [Prod.config, .standby, .safe]) ∧
    (part .safe).control.prod ∈ [Prod.standby, .safe] ∧ (part .safe).slot.isSave = false ∧
    ({ part .safe with slot := .pendingSave [] } : Part).slot.isSave = true := by decide

/-- WriteMachineReplacesTheConfiguration: out of STANDBY; N_pos 7; and a fitted set of heads 5 and 7 at N_pos 8. -/
theorem witness_write_machine :
    let m := machineToFields machine
    ((part .safe).takes ∧ (part .safe).control.prod ≠ .standby) ∧
    ((part .standby).control.prod = .standby ∧ machineOfFields { m with nPos := 7 } = none) ∧
    machineOfFields { m with nPos := 8, fitted := 0xA0 } = some { machine with nPos := 8, fitted := 0xA0 } ∧
    ((part .standby).fitted 6 = true ∧ (0xA0 : BitVec 64).getLsbD 6 = false) ∧
    (part .standby).fitted 7 = false ∧ (0xA0 : BitVec 64).getLsbD 7 = true := by decide +kernel

/-- StepsBehindTheFurthestPosition: no step; a CAL DOSE at standstill; lag 1; lags 199 and 200 at the reverse limit of
200. -/
theorem witness_steps :
    let cal := calibrating (cal .fast 0)
    (cal.phase = .running ∧ cal.carousel.standstill = true ∧ cal.slot.isCal = true ∧
      quadrature cal.pins.chanA cal.pins.chanB true false ≠ none) ∧
    let p := fun prod lag => ({ part prod with carousel := { blankCarousel with lag := lag, standstill := false } } : Part)
    quadrature false false true true = none ∧ (p .production 1).phase = .running ∧
    ((p .production 1).carousel.standstill = false ∧ (p .production 1).slot.isCal = false) ∧
    (quadrature false false true false = some .forward ∧ 0 < (p .production 1).carousel.lag) ∧
    (quadrature false false false true = some .backward ∧
      (p .production 199).carousel.lag < (p .production 199).machine.reverseLimit) ∧
    ((p .drain 200).machine.reverseLimit ≤ (p .drain 200).carousel.lag ∧
      (p .drain 200).control.prod ∈ [Prod.config, .standby, .drain, .safe]) ∧
    (p .stopping 200).control.prod ∈ [Prod.production, .hold, .stopping] := by decide

/-- Head 5 at the position before a boundary that its pointer names. -/
def pointed (b : Boundary) (relief position : Nat) : Part :=
  { (part .production).modHead 5 fun x => { x with pointer := some b } with
    machine := { machine with aRelief := relief }
    carousel := { blankCarousel with zero := some .clear, position := position, standstill := false } }

/-- ForwardStepCrossesBoundaries: head 5 one increment before its pressurise boundary at 2325, one before a fill end at
9525 that is its relief boundary too, and not at a boundary. -/
theorem witness_crossings :
    let at' := fun (p : Part) (n : Nat) => ({ p with carousel := { p.carousel with position := n } } : Part)
    let due := fun (p : Part) (h : HeadNo) (x : Boundary) =>
      p.fitted h && decide ((p.head h).pointer = some x) && decide (p.furthestAngle h = boundaryAngle p.machine x)
    let p := pointed .press 9600 2324
    let q := pointed .fillend 8400 9524
    (p.phase = .running ∧ p.carousel.lag = 0 ∧ p.carousel.standstill = false ∧ p.pointersLive = true) ∧
    (due (at' p 2325) 5 .press = true ∧ due (at' p 2326) 5 .press = false ∧ (p.head 6).pointer = none ∧
      boundaryAngle p.machine .fill ≠ boundaryAngle p.machine .press) ∧
    due (at' q 9525) 5 .fillend = true ∧ boundaryAngle q.machine .relief = boundaryAngle q.machine .fillend := by
  decide +kernel

/-- ZeroMarkCorrectsThePosition: positions 4, 5, 7200, 7201, 14395, 14396 and 14399 of 14400 in forward motion. -/
theorem witness_zero_mark :
    let p := fun z d n => ({ part .production with
      carousel := { blankCarousel with zero := z, direction := d, position := n } } : Part)
    sectorOk machine = true ∧ (p none none 0).carousel.direction ≠ some .forward ∧
    ((p none (some .forward) 9).carousel.zero = none ∧ (p none (some .forward) 9).carousel.direction = some .forward) ∧
    (p (some .clear) (some .forward) 4).carousel.position ≤ 4 ∧
    (∀ n ∈ [14396, 14399], 4 < n ∧ machine.nInc - 4 ≤ n ∧ n < machine.nInc) ∧
    (∀ n ∈ [5, 7200, 7201, 14395], 4 < n ∧ n < machine.nInc - 4) ∧ 7200 ≤ machine.nInc / 2 ∧
    (part .production).control.prod ∉ [Prod.config, .safe] := by decide

/-- ZeroMarkCorrectsThePosition: a correction forward that takes head 5 over its pressurise boundary at 2325, one over a
boundary it shares with the next, and one at which no head is due. -/
theorem witness_forward_correction :
    let next := fun (p : Part) => ({ p with carousel := { p.carousel with
      position := if p.carousel.position + 1 = p.machine.nInc then 0 else p.carousel.position + 1 } } : Part)
    let due := fun (p : Part) (h : HeadNo) (x : Boundary) =>
      p.fitted h && decide ((p.head h).pointer = some x) && decide (p.furthestAngle h = boundaryAngle p.machine x)
    let p := next (pointed .press 9600 2324)
    let q := next (pointed .fillend 8400 9524)
    p.pointersLive = true ∧ due p 5 .press = true ∧
    (∀ g : HeadNo, g ≠ 5 → ∀ y ∈ [Boundary.infeed, .press, .fill, .fillend, .relief, .dis], due p g y = false) ∧
    boundaryAngle p.machine .fill ≠ boundaryAngle p.machine .press ∧
    due q 5 .fillend = true ∧ boundaryAngle q.machine .relief = boundaryAngle q.machine .fillend ∧
    (∀ h : HeadNo, ∀ y ∈ [Boundary.infeed, .press, .fill, .fillend, .relief, .dis], due (next p) h y = false) := by
  decide +kernel

/-- SpeedSamplesAndStandstill: both timers stopped, and both running. -/
theorem witness_speed :
    (part .standby).carousel.sampleTimer = .stopped ∧ (part .standby).carousel.standTimer = .stopped ∧
    ({ blankCarousel with sampleTimer := .running 10 } : Carousel).sampleTimer = .running 10 ∧
    ({ blankCarousel with standTimer := .running 100 } : Carousel).standTimer = .running 100 := by decide

/-- Head 5 in PRESSURIZE with the two notes. -/
def pressurised (prod : Prod) (start done : Bool) : Part :=
  (held prod .pressurize ctx).modEntry 5 fun e => { e with fillStartNoted := start, fillEndNoted := done }

/-- PressuriseExpiryStartsOrWaits: another state, the notes, HOLD, an inhibit cause, and the fill. -/
theorem witness_pressurise_expiry :
    let p := pressurised .production true false
    let q := { p with supply := { p.supply with freshness := .stale } }
    (held .production .settle ctx).entry 5 ≠ p.entry 5 ∧ (p.entry 5).state = .pressurize ∧
    (p.entry 5).timer = .running 40 ∧ p.context 5 = some ctx ∧
    ((pressurised .production false false).entry 5).fillStartNoted = false ∧
    ((pressurised .production true true).entry 5).fillEndNoted = true ∧
    (p.entry 5).fillStartNoted = true ∧ (p.entry 5).fillEndNoted = false ∧
    (pressurised .hold true false).control.prod = .hold ∧ q.inhibited = true ∧ p.inhibited = false := by decide +kernel

/-- SettleExpiryTeachesTheHead: a dose that gives no samples, one that gives them at an after-run of 245 (distance 150) and
of 246 (an outlier), no fast phase, fast phases of 99 and 100 ms, and a full window of 8 that the next entry makes
deviant, or not; outlier runs of 1 and of 2, the second with the kind rising and the action REPORT and OUT. -/
theorem witness_settle_expiry :
    let c := { ctx with status := .complete, fillStart := some 0, fastClose := some 100, after := 245 }
    let p := held .production .settle c
    let joined := fun (old : List Bool) => old.drop (old.length + 1 - 8) ++ [true]
    (99 - 0 < 100 ∧ p.machine.window = 8 ∧
      decide (snap.dev * snap.r < distance (roundNat (c.f * 10000000) (snap.k * 100)) snap.r * 100) = true ∧
      8 < 2 * ((joined (List.replicate 4 false ++ List.replicate 4 true)).filter id).length ∧
      ¬ 8 < 2 * ((joined (List.replicate 5 false ++ List.replicate 3 true)).filter id).length ∧
      (p.rungAfter 5 .rateDeviation).method = .timed ∧ (p.diag 5).isLive .rateDeviation = false ∧
      ((p.modRecord 5 fun x => { x with method := .out }).rungAfter 5 .rateDeviation).method = .out) ∧
    (min 3 (1 + 1) ≠ 3 ∧ min 3 (2 + 1) = 3 ∧ (p.diag 5).isLive .afterrunOutlier = false ∧ (p.record 5).warm = 0 ∧
      actionFor p.machine .afterrunOutlier ≠ .degrade ∧ (p.rungAfter 5 .afterrunOutlier).method = .flow ∧
      (({ p with machine := { p.machine with actions := p.machine.actions.set 3 .out } } : Part).rungAfter 5
        .afterrunOutlier).method = .out) ∧
    (p.entry 5).state = .settle ∧ (p.entry 5).timer = .running 40 ∧ p.context 5 = some c ∧
    ctx.gives = false ∧ c.gives = true ∧ c.snap = some snap ∧ snap.gen = (p.record 5).gen ∧
    distance (roundNat (245 * 10000) 12480) 46 = 150 ∧ distance (roundNat (246 * 10000) 12480) 46 = 151 ∧
    p.machine.outlierLimit = 150 ∧ 0 < c.f ∧ 100 ≤ 100 - 0 ∧ ctx.fastClose = none ∧
    (held .production .relief c).entry 5 ≠ p.entry 5 := by decide +kernel

/-- ReliefExpiryVentsTheHead and the timers of the other states. -/
theorem witness_relief_expiry :
    ((held .production .relief ctx).entry 5).state = .relief ∧
    ((held .production .relief ctx).entry 5).timer = .running 40 ∧ ((part .production).entry 5).timer = .stopped := by
  decide +kernel

/-- Head 5 alone in VENT. -/
def venting (prod : Prod) (modules : Vector ModuleState 8) : Part :=
  { (part prod).modEntry 5 fun e => { e with state := .vent, relief := true, timer := .running 1500 } with
    modules := modules }

/-- VentExpiryEndsTheSweep: out of CONFIG, with all modules answering, and with module 0 silent. -/
theorem witness_vent_expiry :
    let ok := venting .config (Vector.replicate 8 ⟨false, .stopped⟩)
    let silent := venting .config (Vector.replicate 8 ⟨true, .stopped⟩)
    (ok.entry 5).state = .vent ∧ (ok.entry 5).timer = .running 1500 ∧
    (venting .drain (Vector.replicate 8 ⟨false, .stopped⟩)).control.prod ≠ .config ∧ ok.phase = .running ∧
    (∀ g, g ≠ 5 → (ok.entry g).state ≠ .vent) ∧ ok.anySilent = false ∧ (∀ g, (ok.diag g).mark = false) ∧
    silent.anySilent = true := by decide +kernel

/-- Head 5 in a coil test with some reports. -/
def testing (a b c d : Option TestReport) : Part :=
  (part .standby).modEntry 5 fun e => { e with state := .testing, timer := .running 20, reports := ⟨a, b, c, d⟩ }

/-- CoilTestsEndInTheirOutcome: a report in and out of a test, an expiry with a report missing and with all four. -/
theorem witness_coil_test :
    let p := testing (some .good) (some .openLoad) (some .short) (some .good)
    p.phase ≠ .inReset ∧ p.fitted 5 = true ∧ (p.entry 5).state = .testing ∧ p.fitted 7 = false ∧
    ((part .standby).entry 5).state ≠ .testing ∧ (p.entry 5).timer = .running 20 ∧
    ((testing none none none none).entry 5).reports.all = none ∧ (p.entry 5).cleanWaiting = false ∧
    (p.entry 5).reports = ⟨some .good, some .openLoad, some .short, some .good⟩ := by decide +kernel

/-- PulsesEndTheFlowDose: fill counts 1, F - 1, C - 1 and 0; a first pulse at the meter silence time and after it, one that
reaches F = 1, and one that reaches C = 1 with F = 0 in FILL_FINE. -/
theorem witness_flow_pulses :
    let late := { held .production .fillFast { ctx with filling := true, fillStart := some 0 } with now := 201 }
    (¬ late.now - 0 ≤ late.machine.meterSilence ∧
      min 16777215 (0 + 1) = ({ ctx with f := 1 } : Context).f ∧ min 16777215 (0 + 1) ≠ ({ ctx with f := 1 } : Context).c ∧
      min 16777215 (0 + 1) = ({ ctx with c := 1, f := 0 } : Context).c ∧
      ((held .production .fillFine { ctx with c := 1, f := 0 }).entry 5).state = .fillFine) ∧
    let c := { ctx with filling := true, fillStart := some 0 }
    let p := { held .production .fillFast c with now := 200 }
    p.phase ≠ .inReset ∧ p.fitted 5 = true ∧ p.control.prod ∉ [Prod.config, .drain] ∧ p.calOn 5 = none ∧
    p.context 5 = some c ∧ c.filling = true ∧ c.used = .flow ∧ (p.entry 5).state = .fillFast ∧
    (min 16777215 (1 + 1) ≠ c.c ∧ min 16777215 (1 + 1) ≠ c.f) ∧ min 16777215 (5755 + 1) = c.f ∧
    min 16777215 (6197 + 1) = c.c ∧ c.fill = 0 ∧ c.c ≠ 1 ∧ c.f ≠ 1 ∧ p.now - 0 ≤ p.machine.meterSilence := by
  decide +kernel

/-- PulsesAreCountedInOnePlace: a full reset, CONFIG, DRAIN, the after-run, a timed dose, and the runaway count at the
limit of 20. -/
theorem witness_other_pulses :
    let p := part .production
    let timed := { ctx with used := .timed, shadow := 1, filling := true }
    (after .powerOn p).phase = .inReset ∧ p.fitted 7 = false ∧ (part .config).control.prod = .config ∧
    (part .drain).control.prod = .drain ∧
    (held .production .settle { ctx with afterState := .counting }).context 5 = some { ctx with afterState := .counting } ∧
    ((held .production .fillFast timed).context 5 = some timed ∧ 0 < timed.shadow ∧ timed.filling = true) ∧
    (∀ first ∈ [({ timed with method := .timed, shadow := 0, fillStart := some 0 } : Context)],
      (held .production .fillFast first).context 5 = some first ∧ first.used = .timed ∧ first.filling = true) ∧
    p.context 5 = none ∧ (p.head 5).runaway.reported = false ∧ p.machine.runawayLimit < min 16777215 (20 + 1) ∧
    ¬ p.machine.runawayLimit < min 16777215 (19 + 1) := by decide +kernel

/-- DosesEndByTime: the open timer in and out of a fill, and a meter silence before and at the close time. -/
theorem witness_timed_doses :
    let c := { ctx with filling := true, fillStart := some 0, openTimer := .running 60, silenceTimer := .running 200 }
    let p := held .production .fillFine c
    p.context 5 = some c ∧ (p.entry 5).state = .fillFine ∧ c.openTimer = .running 60 ∧ c.filling = true ∧
    c.silenceTimer = .running 200 ∧ max p.now 200 < c.fillStart.getD 0 + c.openTime ∧
    c.fillStart.getD 0 + c.openTime ≤ max p.now 2759 ∧ (part .standby).context 5 = none ∧ ctx.openTimer = .stopped ∧
    ((held .production .settle c).entry 5).state ≠ .fillFine := by decide +kernel

/-- CoilReportsAreDetections: a CAL DOSE with an open valve; VENT with the sweep's last head, in CONFIG and out of it,
with all modules answering and one silent; REST and SKIP out of DRAIN. -/
theorem witness_coil_report :
    let cal := (calibrating (cal .fast 0)).modEntry 5 fun e => { e with fine := true }
    let ok := Vector.replicate 8 (⟨false, .stopped⟩ : ModuleState)
    let last := venting .config ok
    let silent := venting .config (ok.set 1 ⟨true, .stopped⟩)
    (cal.phase ≠ .inReset ∧ cal.fitted 5 = true ∧ (cal.calOn 5).isSome = true ∧ Valve.fine ≠ .relief ∧
      (cal.entry 5).isOpen .fine = true ∧ (cal.entry 5).isOpen .fast = false) ∧
    (last.fitted 5 = true ∧ (last.entry 5).state = .vent ∧ (∀ g, (last.diag g).mark = false) ∧ last.slot.isCal = false ∧
      last.control.prod = .config ∧ last.phase = .running ∧ (∀ g, g ≠ 5 → (last.entry g).state ≠ .vent) ∧
      (last.moduleAnswers (moduleOf 5)).anySilent = false) ∧
    (venting .standby ok).control.prod ≠ .config ∧
    ({ silent with machine := { machine with fitted := 0x160 } }.moduleAnswers (moduleOf 5)).anySilent = true ∧
    ∀ st ∈ [HeadState.rest, .skip],
      (((part .production).modEntry 5 fun e => { e with state := st }).entry 5).state = st ∧
      (part .production).control.prod ≠ .drain := by decide +kernel

/-- SealDropRelievesTheHead and CoilReportsAreDetections: the states of their clauses on head 5. -/
theorem witness_seal_and_coil :
    let p := fun st => held .production st ctx
    (p .waitFill).phase ≠ .inReset ∧ (p .waitFill).fitted 5 = true ∧ (p .waitFill).context 5 = some ctx ∧
    (p .waitFill).calOn 5 = none ∧ ((p .waitFill).entry 5).state ≠ .vent ∧ ((p .relief).entry 5).state = .relief ∧
    ((p .sealing).entry 5).state ∈ [HeadState.testing, .sealing, .settle, .waitRelief, .waitDischarge] ∧
    (p .waitFill).fitted 7 = false ∧ ((p .waitFill).entry 5).isOpen .gas = false ∧
    (((p .waitFill).modEntry 5 fun e => { e with gas := true }).entry 5).isOpen .gas = true ∧
    (((part .drain).entry 5).state = .rest ∧ (part .drain).control.prod = .drain) ∧
    ((p .waitFill).diag 5).isLive .sealLost = false := by decide +kernel

/-- ModulesAnswerOrFallSilent: module 0 watched, module 1 not, silent and answering, in CONFIG, SAFE and PRODUCTION. -/
theorem witness_modules :
    let p := fun prod => ({ part prod with modules := (resetPart.modules.set 0 ⟨false, .running 5⟩).set 7 ⟨true, .stopped⟩ } : Part)
    (p .production).phase = .running ∧ (p .production).watched 0 = true ∧ (p .production).watched 1 = false ∧
    (p .production).modules[7].silent = true ∧ (p .production).modules[0] = ⟨false, .running 5⟩ ∧
    (p .config).control.prod = .config ∧ (p .safe).control.prod = .safe ∧
    (p .production).control.prod ∉ [Prod.config, .safe] := by decide +kernel

/-- InfeedCrossingAdmits: a CAL DOSE, VENT, DRAIN, an empty infeed, an admission, and a head that still holds its
container. -/
theorem witness_infeed :
    ((calibrating (cal .fast 0)).calOn 5).isSome = true ∧
    let p := { part .production with pins := { resetPart.pins with infeed := true } }
    p.calOn 5 = none ∧ ((venting .drain resetPart.modules).entry 5).state = .vent ∧
    (p.entry 5).state ∈ [HeadState.rest, .testing, .skip] ∧ (part .drain).control.prod ∈ [Prod.config, .drain] ∧
    (p.control.prod ∉ [Prod.config, .drain] ∧ p.pins.infeed = true) ∧ (part .production).pins.infeed = false ∧
    ((held .production .waitDischarge ctx).entry 5).state.holds = true := by decide +kernel

/-- AdmissionComputesTheDose: the worked case, a head OUT, and STANDBY. -/
theorem witness_dose :
    (part .production).record 5 = record ∧ (part .production).activeRecipe = some ⟨7, recipe⟩ ∧
    (part .production).control.prod ∈ [Prod.production, .hold, .stopping] ∧ record.stored.inService = true ∧
    record.method = .flow ∧ ({ record with method := .timed } : HeadRecord).method = .timed ∧
    ({ record with method := .out } : HeadRecord).method = .out ∧ storedHeadOk record.stored = true ∧
    recipeRangesOk recipe = true ∧ (part .standby).control.prod ∈ [Prod.standby, .safe] := by decide +kernel

/-- PressuriseAndFillStartCrossings: a false seal, a sealed head, method NONE, SAFE, and WAIT_FILL in its three cases. -/
theorem witness_pressurise_crossing :
    let p := held .production .sealing ctx
    let q := p.setSeal 5 true
    let r := { held .production .waitFill ctx with supply := blankSupply }
    (p.entry 5).state = .sealing ∧ p.context 5 = some ctx ∧ p.sealRead 5 = false ∧ q.sealRead 5 = true ∧
    ctx.method ≠ .none ∧ (notProducingContext 812).method = .none ∧ (held .safe .sealing ctx).control.prod = .safe ∧
    q.control.prod ≠ .safe ∧ (r.entry 5).state = .waitFill ∧ r.inhibited = true ∧
    (held .hold .waitFill ctx).control.prod = .hold ∧ (held .production .waitFill ctx).inhibited = false := by
  decide +kernel

/-- FillEndAndReliefCrossings: a fill, SETTLE, WAIT_RELIEF, PRESSURIZE and a state in which neither acts. -/
theorem witness_relief_crossing :
    let p := fun st => held .production st ctx
    (p .fillFast).context 5 = some ctx ∧ ((p .fillFast).entry 5).state = .fillFast ∧
    ((p .settle).entry 5).state = .settle ∧ ((p .waitRelief).entry 5).state = .waitRelief ∧
    ((p .pressurize).entry 5).state = .pressurize ∧
    ((p .sealing).entry 5).state ∈ [HeadState.rest, .testing, .skip, .sealing, .relief, .waitDischarge, .vent] := by
  decide +kernel

/-- Head 5 holding container 812 before its discharge, head 6 holding container 811, which was admitted earlier. -/
def discharging : Part :=
  { held .production .waitDischarge ctx with track := track }.modHead 6 fun x =>
    { x with entry := { x.entry with state := .waitDischarge }, context := some (notProducingContext 811) }

/-- DischargeCrossingGivesTheVerdict: its premise on the track, where the container is the oldest and where it is not. -/
theorem witness_discharge_tracks :
    ({ held .production .waitDischarge ctx with track := track } : Part).TrackAgrees ∧
    ({ discharging with track := [⟨740, 5, some 2, some outcome⟩, ⟨811, 6, none, none⟩, ⟨812, 5, some 2, none⟩] } :
      Part).TrackAgrees := by
  unfold Part.TrackAgrees; decide +kernel

/-- DischargeCrossingGivesTheVerdict: REST, SKIP, the oldest record and one that is not the oldest, 51 of 52 DISCHARGED
records, the dose that ends a warm-up, a RELIEF_SHORT with the action REPORT and with OUT, and a judgement. -/
theorem witness_discharge :
    let p := { held .production .waitDischarge ctx with track := track }
    let q := { discharging with track := [⟨740, 5, some 2, some outcome⟩, ⟨811, 6, none, none⟩, ⟨812, 5, some 2, none⟩] }
    let short := (p.modEntry 5 fun e => { e with pressurised := true }).entry 5
    let timed := { record with method := .timed, cause := some .meterSilent, promo := 2 }
    (ctx.used ≠ .none ∧ ({ record with warm := 1 } : HeadRecord).warm = 1 ∧ short.pressurised = true ∧ short.vented = false ∧
      (p.record 5).warm = 0 ∧ (p.diag 5).isLive .reliefShort = false ∧ actionFor machine .reliefShort = .report ∧
      actionFor { machine with actions := machine.actions.set 9 .out } .reliefShort = .out ∧
      (timed.judged (some .plausible) 3 false).method = .flow ∧ (timed.judged (some .plausible) 3 true).method = .timed) ∧
    let skip := fun prod => (part prod).modEntry 5 fun e => { e with state := .skip }
    ((part .production).entry 5).state ∈ [HeadState.rest, .testing, .vent] ∧
    (((skip .hold).entry 5).state = .skip ∧ (skip .hold).control.prod ≠ .drain) ∧ (p.entry 5).state.holds = true ∧ p.context 5 = some ctx ∧
    p.track.find? (TrackRecord.standsOn 5) = some ⟨812, 5, some 2, none⟩ ∧ isOldest p.track 5 = true ∧
    isOldest q.track 5 = false ∧
    dischargedCount (List.replicate 51 ⟨740, 5, some 2, some outcome⟩) < p.machine.inspection + 12 := by decide +kernel

/-- SupplyDataSetsThePressureRequest: table temperatures 0 and 299, no recipe, a recipe, and each state of the watch. -/
theorem witness_supply_data :
    0 < 6 ∧ 5 < 6 ∧ 49 < 50 ∧ (part .standby).takes .supply ∧ (part .standby).activeRecipe = some ⟨7, recipe⟩ ∧
    ({ part .standby with control := { blankControl with prod := .standby } } : Part).activeRecipe = none ∧
    (part .standby).supply.watch = .clear ∧ 2138 + 200 < 2339 ∧ ¬ 2139 + 200 < 2339 ∧ 2339 ≤ 2239 + 100 ∧
    2238 + 100 < 2339 := by decide +kernel

/-- SupplyTimersExpire: the three timers stopped and running. -/
theorem witness_supply_timers :
    (part .standby).supplyTimer = .stopped ∧ (part .standby).supply.watchTimer = .stopped ∧
    (part .standby).supply.demandTimer = .stopped ∧
    ({ part .standby with supplyTimer := .running 500 } : Part).supplyTimer = .running 500 ∧
    ({ blankSupply with watchTimer := .running 900, demandTimer := .running 1000 } : Supply).watchTimer = .running 900 := by
  decide

/-- StartHoldAndResume: START refused four ways and accepted, a hold limit of 60 and of 0, RESUME, and the expiry. -/
theorem witness_start_and_hold :
    let p := part .standby
    (p.takes ∧ p.control.prod = .standby ∧ p.configBad = false ∧ p.activeRecipe = some ⟨7, recipe⟩ ∧ p.slot.isCal = false) ∧
    (part .drain).control.prod ≠ .standby ∧ ({ p with configBad := true } : Part).configBad = true ∧
    ({ p with control := { blankControl with prod := .standby } } : Part).activeRecipe = none ∧
    (calibrating (cal .fast 0)).slot.isCal = true ∧ (part .production).control.prod = .production ∧
    recipe.hold ≠ 0 ∧ ({ recipe with hold := 0 } : Recipe).hold = 0 ∧ (part .hold).control.prod = .hold ∧
    ({ blankControl with holdTimer := .running 60000 } : Control).holdTimer = .running 60000 := by decide +kernel

/-- StopAndRecover: no container and one, a head in RELIEF, a silent module, and RECOVER accepted with a marked head. -/
theorem witness_stop_and_recover :
    let p := part .safe
    p.takes ∧ (part .standby).control.prod ∉ [Prod.production, .hold] ∧ (part .hold).control.prod ∈ [Prod.production, .hold] ∧
    (∀ h, (part .hold).context h = none) ∧ (held .production .settle ctx).context 5 ≠ none ∧ p.control.prod = .safe ∧
    (∀ h, (p.entry h).state ≠ .relief ∧ (p.entry h).state ≠ .vent) ∧
    (∀ m : ModuleNo, p.watched m = true → p.modules[m].silent = false) ∧
    ((held .safe .relief ctx).entry 5).state = .relief ∧
    (venting .safe (Vector.replicate 8 ⟨true, .stopped⟩)).modules[0].silent = true := by decide +kernel

/-- SafeEntryActsOnEveryHead: the states of its clauses, a CAL DOSE, TEST COILS, a SAVE, SAFE, and both line timers. -/
theorem witness_safe_entry :
    let p := fun st => held .production st ctx
    (p .fillFast).takes ∧ (p .fillFast).control.prod ≠ .safe ∧ (p .fillFast).control.prod ≠ .drain ∧
    (p .fillFast).fitted 5 = true ∧ (p .fillFast).slot.isCal = false ∧ (p .fillFast).context 5 = some ctx ∧
    (calibrating (cal .fast 0)).slot = .pendingCal (cal .fast 0) ∧ (part .safe).control.prod = .safe ∧
    ({ part .standby with slot := .pendingTest, coilTest := .running } : Part).slot = .pendingTest ∧
    ({ part .standby with slot := .pendingSave [] } : Part).slot.isSave = true ∧
    (part .drain).lineTimer = .stopped ∧ ({ part .drain with lineTimer := .running 100 } : Part).lineTimer = .running 100 ∧
    (part .drain).control.prod ∈ [Prod.production, .hold, .stopping, .drain] ∧
    (part .standby).control.prod ∈ [Prod.config, .standby, .safe] := by decide +kernel

/-- CleaningOpensAndClosesTheValves. -/
theorem witness_cleaning :
    (part .standby).takes ∧ (part .standby).control.prod = .standby ∧ (∀ h, (part .standby).context h = none) ∧
    (part .standby).slot.isCal = false ∧ (held .standby .waitDischarge ctx).context 5 ≠ none ∧
    (part .drain).control.prod = .drain ∧ (part .hold).control.prod ≠ .drain ∧
    (calibrating (cal .fast 0)).slot.isCal = true := by decide +kernel

/-- RecipesAreSelectedWrittenAndAdjusted: slots 7 and 8, an empty and a DEFINED slot, valid and invalid fields, the active
slot in and out of STANDBY, and adjustments that are out of range, empty and accepted; the speed advisory with
head 5 the slowest of the two heads, with no such head, without a recipe and with CONFIG_BAD. -/
theorem witness_recipes :
    let able := fun (p : Part) (g : HeadNo) => p.fitted g = true ∧ (p.record g).stored.inService = true ∧
      ((p.record g).method = .flow ∨ (p.record g).method = .timed)
    let speed := fun (g : HeadNo) =>
      (6000 * ((part .production).record g).stored.r / (5000 + ((part .production).record g).stored.t).toNat)
    (able (part .production) 5 ∧ (∀ g, able (part .production) g → speed 5 ≤ speed g) ∧
      (∀ g, ¬ able { part .production with machine := { machine with fitted := 0 } } g) ∧
      (part .production).activeRecipe = some ⟨7, recipe⟩ ∧ (part .production).configBad = false) ∧
    let none' : AdjustFields := ⟨none, none, none, none, none, none, none, none⟩
    let p := part .standby
    p.takes ∧ p.control.prod = .standby ∧ 8 ≤ 8 ∧ p.recipes[(7 : SlotNo)] = none ∧
    p.recipes[(2 : SlotNo)] = some ⟨7, recipe⟩ ∧ p.control.activeSlot = some 2 ∧
    recipeOfFields (recipeToFields recipe) = some recipe ∧
    recipeOfFields { recipeToFields recipe with v := 30001 } = none ∧ (part .hold).control.prod ≠ .standby ∧
    p.control.activeSlot ≠ some 7 ∧ adjustOk { none' with hold := some 601 } = false ∧
    adjustOk { none' with gross := some 50 } = true ∧ adjustOk none' = true ∧ recipe.deadband < recipe.gross ∧
    (∀ o ∈ [none'.v, none'.b, none'.gain], o = none) ∧
    ({ part .standby with control := { blankControl with prod := .standby } } : Part).activeRecipe = none := by
  decide +kernel

/-- WriteHeadChangesTheRecord: heads 5, 7 and 64, fields at and beyond their limits, both changes of service, and a
warm-up of the recipe and none. -/
theorem witness_write_head :
    ((part .hold).activeRecipe = some ⟨7, recipe⟩ ∧ recipe.warmup = 0 ∧ ({ recipe with warmup := 5 } : Recipe).warmup = 5) ∧
    let f : HeadFields := ⟨some 50000, some 400, some 50, some (-200), some 0, some 0⟩
    (part .hold).takes ∧ (part .hold).fitted 5 = true ∧ (∀ g : HeadNo, g.val = 7 → (part .hold).fitted g = false) ∧
    (∀ g : HeadNo, g.val = 64 → (part .hold).fitted g = false) ∧ headFieldsOk f = true ∧
    headFieldsOk { f with k := some 50001 } = false ∧ f.t = some (-200) ∧
    ((part .hold).record 5).stored.inService = true ∧ (f.inService.bind yesNoOf).getD true = false ∧
    (({ f with inService := some 1 } : HeadFields).inService.bind yesNoOf).getD false = true ∧
    ({ record with stored := { record.stored with inService := false } } : HeadRecord).stored.inService = false := by
  decide +kernel

/-- RestoreAndClearHeads: not fitted, out of service, a live coil kind, a live meter kind, and none. -/
theorem witness_restore :
    (part .hold).takes ∧ (part .hold).fitted 5 = true ∧ (∀ g : HeadNo, g.val = 254 → (part .hold).fitted g = false) ∧
    254 ≠ 255 ∧ ((part .hold).record 5).stored.inService = true ∧
    (({ part .hold with machine := { machine with fitted := 0x80 } } : Part).record 7).stored.inService = false ∧
    (Diag.raise .coilShort blankDiag).isLive .coilShort = true ∧ blankDiag.isLive .coilOpen = false ∧
    (Diag.raise .rateDeviation blankDiag).isLive .rateDeviation = true := by decide +kernel

/-- DiagnosticsAndCoilTests: a window of 8 cut to 4, with 3 and with 2 of the newest 4 deviant, on a FLOW head that may be
TIMED and on one that may not. -/
theorem witness_shortened_window :
    let f : DiagFields := ⟨some 4, none, Vector.replicate 10 none⟩
    let window := [false, false, false, false, true, false, true, true]
    let newest := fun (w : List Bool) => w.drop (w.length - 4)
    let p := (part .standby).modDiag 5 fun d => { d with window := window }
    p.takes ∧ diagFieldsOk f = true ∧ p.control.prod = .standby ∧ 4 ≠ p.machine.window ∧ (∀ o : Fin 10, f.actions[o] = none) ∧
    p.fitted 5 = true ∧ (p.diag 5).window = window ∧ 4 < 2 * ((newest window).filter id).length ∧
    ¬ 4 < 2 * ((newest (window.set 4 false)).filter id).length ∧ (p.diag 5).isLive .rateDeviation = false ∧
    (p.rungAfter 5 .rateDeviation).method = .timed ∧ (p.record 5).method ≠ .timed ∧
    ((p.modRecord 5 fun x => { x with stored := { x.stored with timedAllowed := false } }).rungAfter 5
      .rateDeviation).method = .out := by decide +kernel

/-- DiagnosticsAndCoilTests: N of 3, 4 and 32, a smaller N out of STANDBY, mode OFF, and TEST COILS in its cases. -/
theorem witness_diagnostics :
    let f : DiagFields := ⟨some 4, some 0, Vector.replicate 10 none⟩
    let p := part .standby
    p.takes ∧ diagFieldsOk f = true ∧ diagFieldsOk { f with window := some 3 } = false ∧
    (f.window.getD p.machine.window < p.machine.window ∧ (part .hold).control.prod ≠ .standby) ∧
    p.machine.window ≤ 32 ∧ ({ f with window := none } : DiagFields).window.getD p.machine.window = p.machine.window ∧
    f.window.getD p.machine.window ≠ p.machine.window ∧ (∀ o : Fin 10, f.actions[o] = none) ∧ p.machine.mode ≠ .off ∧
    ((f.mode.bind modeOf).getD p.machine.mode = .off) ∧
    (part .drain).control.prod ∈ [Prod.config, .drain, .safe] ∧ (calibrating (cal .fast 0)).slot.isPending = true ∧
    p.slot.isPending = false ∧ (p.fitted 5 && (p.record 5).stored.inService) = true ∧
    (∀ h, ({ p with machine := { machine with fitted := 0 } } : Part).fitted h = false) ∧
    (∀ h, (p.diag h).mark = false) := by decide +kernel

/-- CalibrationDosesBeginAndStop: counts 0, 1, 200000 and 200001, and the checks of CAL DOSE in their order. -/
theorem witness_cal_dose :
    let p := part .standby
    p.takes ∧ (part .hold).control.prod ≠ .standby ∧ p.control.prod = .standby ∧ p.fitted 5 = true ∧
    (∀ g : HeadNo, g.val = 64 → p.fitted g = false) ∧ ¬ (1 ≤ 0) ∧ ¬ (200001 ≤ 200000) ∧ 1 ≤ 1 ∧ 200000 ≤ 200000 ∧
    ((p.record 5).stored.inService = true ∧ (p.entry 5).state = .rest ∧ p.carousel.standstill = true) ∧
    ((held .standby .waitDischarge ctx).entry 5).state ≠ .rest ∧ p.slot.isPending = false ∧ p.slot.isCal = false ∧
    (calibrating (cal .fast 0)).slot = .pendingCal (cal .fast 0) := by decide +kernel

/-- CalibrationDosesEndWithAResult: pulses 1, 12000 and 12480 and an after-run pulse, and the three timers. -/
theorem witness_cal_end :
    let p := calibrating (cal .fast 0)
    p.slot = .pendingCal (cal .fast 0) ∧ p.phase ≠ .inReset ∧ p.fitted 5 = true ∧
    p.control.prod ∉ [Prod.config, .drain] ∧ (cal .settle 12480).phase = .settle ∧
    ((cal .fine 12479).phase ≠ .settle ∧ (cal .fine 12479).counted + 1 = (cal .fine 12479).pCal) ∧
    ((cal .fast 11999).phase = .fast ∧ 0 < (cal .fast 11999).pFine ∧ 11999 + 1 = 12480 - 480 ∧ 11999 + 1 ≠ 12480) ∧
    (0 + 1 ≠ 12480 - 480 ∧ 0 + 1 ≠ 12480) ∧ (cal .fine 12000).phase = .fine ∧
    (cal .fast 0).silenceTimer = .running 8300 ∧ (cal .fast 0).timeoutTimer = .running 30000 ∧
    (cal .settle 0).settleTimer = .running 6600 ∧ (part .standby).slot.isCal = false ∧
    ({ cal .fast 0 with settleTimer := .stopped } : CalRecord).settleTimer = .stopped := by decide +kernel

/-- MeasurementsCorrectTheTrim: an unknown number, and errors 5, 6, 100 and 101 of a record that passes the checks. -/
theorem witness_measurement :
    let p := { (part .production).modRecord 5 fun x => { x with trimFrom := some 740 } with track := track }
    let r : TrackRecord := ⟨740, 5, some 2, some outcome⟩
    p.takes .inspection ∧ (∀ y ∈ p.track, (y.isDischarged && y.number == 812) = false) ∧
    p.track.find? (fun y => y.isDischarged && y.number == 740) = some r ∧ r.result = some outcome ∧
    p.unsuitable r outcome = false ∧ p.outOfDate r outcome = false ∧ p.activeRecipe = some ⟨7, recipe⟩ ∧
    (part .production).outOfDate r outcome = true ∧ p.unsuitable r { outcome with verdict := .reject } = true ∧
    [5005, 5006, 5100, 5101].map (fun v => distance v 5000) = [5, 6, 100, 101] ∧ 0 < recipe.gain := by decide +kernel

/-- StepKeepsEveryValueInRange: a part with a frame held behind an unsent reply. -/
theorem witness_links_in_range :
    ({ port .hunt (some (1, [])) [⟨true, 0x81, [2]⟩] with supply := { blankSupply with setpoint := 6000 } } :
      Part).SupplyAndLinksInRange := by
  refine ⟨by decide, by decide, by decide, by decide, by decide, by decide, fun p => ?_, by decide⟩
  cases p <;> decide

/-- The invariants hold together in a state that is not the reset state, and a step leads on from it. -/
theorem witness_invariants :
    let p := { held .production .fillFast { ctx with filling := true } with track := track }
    let m := p.modEntry 5 fun e => { e with gas := true, fast := true, fine := true }
    (∀ h, (m.entry h).reliefOk = true) ∧
    (∀ h, (m.entry h).fast = true ∨ (m.entry h).fine = true →
      (m.entry h).state.isFill = true ∨ m.cleans h = true ∨ m.calDoses h = true) ∧
    (∀ h, m.fitted h = false → m.context h = none ∧ m.entry h = blankEntry) ∧
    (∀ h, (m.entry h).cleanWaiting = true → m.cleans h = true) ∧
    (∀ h, (m.context h).isSome = (m.entry h).state.holds) ∧
    (∀ h, (m.track.filter (TrackRecord.standsOn h)).map (·.number) = (m.context h).toList.map (·.number)) ∧
    dischargedCount m.track ≤ m.machine.inspection + 12 ∧
    (∀ h, (m.record h).inRange = true ∧ (m.diag h).inRange m.machine.window = true) ∧
    (match step ⟨[.enterSafe], m⟩ with
      | .next t => decide ((t.part.entry 5).state = .relief)
      | .fault _ | .refused _ => false) = true := by decide +kernel

end Sys2Proof.Tests
end

section
/-! The Tracker's own values, the configuration they refer to and the boundary pointers are written by a few operations
alone; every other operation leaves them as they are. -/

namespace Sys2Proof.Machine

open Sys2Proof

/-- What `Part.TrackerInRange` and the examination of the heads read: phase, configuration, position, lag, zero-mark check
and the boundary pointers. -/
structure Tracking where
  phase : Phase
  machine : MachineConfig
  configBad : Bool
  position : Nat
  lag : Nat
  zero : Option ZeroCheck
  pointers : HeadNo → Option Boundary

/-- The Tracker's view of a part. -/
def Part.tracking (p : Part) : Tracking :=
  ⟨p.phase, p.machine, p.configBad, p.carousel.position, p.carousel.lag, p.carousel.zero, fun h => (p.head h).pointer⟩

/-! ### Reading the view -/

section reading

variable {p q : Part} (e : p.tracking = q.tracking)
include e

theorem Part.phase_of_tracking : p.phase = q.phase := congrArg Tracking.phase e
theorem Part.machine_of_tracking : p.machine = q.machine := congrArg Tracking.machine e
theorem Part.configBad_of_tracking : p.configBad = q.configBad := congrArg Tracking.configBad e
theorem Part.position_of_tracking : p.carousel.position = q.carousel.position := congrArg Tracking.position e
theorem Part.lag_of_tracking : p.carousel.lag = q.carousel.lag := congrArg Tracking.lag e
theorem Part.zero_of_tracking : p.carousel.zero = q.carousel.zero := congrArg Tracking.zero e

theorem Part.pointer_of_tracking (h : HeadNo) : (p.head h).pointer = (q.head h).pointer :=
  congrFun (congrArg Tracking.pointers e) h

theorem Part.fitted_of_tracking (h : HeadNo) : p.fitted h = q.fitted h := by
  simp only [Part.fitted, Part.machine_of_tracking e]

theorem Part.pointersLive_of_tracking : p.pointersLive = q.pointersLive := by
  simp only [Part.pointersLive, Part.zero_of_tracking e, Part.configBad_of_tracking e]

theorem Part.furthestAngle_of_tracking (h : HeadNo) : p.furthestAngle h = q.furthestAngle h := by
  simp only [Part.furthestAngle, Part.furthest, Part.machine_of_tracking e, Part.position_of_tracking e,
    Part.lag_of_tracking e]

/-- The invariant is a statement about the view. -/
theorem Part.trackerInRange_of_tracking (hp : q.TrackerInRange) : p.TrackerInRange := by
  simpa only [Part.TrackerInRange, Part.phase_of_tracking e, Part.machine_of_tracking e, Part.configBad_of_tracking e,
    Part.position_of_tracking e, Part.lag_of_tracking e, Part.zero_of_tracking e, Part.pointer_of_tracking e,
    Part.fitted_of_tracking e, Part.pointersLive_of_tracking e] using hp

end reading

/-! ### Changes of heads that keep the pointers -/

section heads

variable (h : HeadNo) (p : Part)

theorem Part.tracking_setHeads (hs : Vector Head 64) (keeps : ∀ h : HeadNo, (hs[h]).pointer = (p.head h).pointer) :
    { p with heads := hs }.tracking = p.tracking :=
  congrArg (Tracking.mk p.phase p.machine p.configBad p.carousel.position p.carousel.lag p.carousel.zero) (funext keeps)

theorem Part.modHead_tracking {f : Head → Head} (keeps : ∀ x, (f x).pointer = x.pointer) :
    (p.modHead h f).tracking = p.tracking := by
  refine Part.tracking_setHeads p _ fun g => ?_
  refine (congrArg Head.pointer (Part.head_modHead h g f p)).trans ?_
  split
  · next same => subst same; exact keeps _
  · rfl

@[simp] theorem Part.modEntry_tracking (f : Entry → Entry) : (p.modEntry h f).tracking = p.tracking :=
  Part.modHead_tracking h p fun _ => rfl
@[simp] theorem Part.modContext_tracking (f : Context → Context) : (p.modContext h f).tracking = p.tracking :=
  Part.modHead_tracking h p fun _ => rfl
@[simp] theorem Part.modRecord_tracking (f : HeadRecord → HeadRecord) : (p.modRecord h f).tracking = p.tracking :=
  Part.modHead_tracking h p fun _ => rfl
@[simp] theorem Part.modDiag_tracking (f : Diag → Diag) : (p.modDiag h f).tracking = p.tracking :=
  Part.modHead_tracking h p fun _ => rfl

/-! ### Head Table and Diagnostics Monitor -/

@[simp] theorem Part.recomputeAdvisory_tracking : p.recomputeAdvisory.tracking = p.tracking := rfl

@[simp] theorem Part.setMethod_tracking (m : Method) (c : Option FaultKind) :
    (p.setMethod h m c).tracking = p.tracking := by
  unfold Part.setMethod
  exact (Part.recomputeAdvisory_tracking _).trans (Part.modHead_tracking h p fun _ => rfl)

@[simp] theorem Part.clearKind_tracking (k : FaultKind) : (p.clearKind h k).tracking = p.tracking :=
  Part.modDiag_tracking h p _

@[simp] theorem Part.degrade_tracking (k : FaultKind) : (p.degrade h k).tracking = p.tracking := by
  unfold Part.degrade; split <;> (try split) <;> simp

@[simp] theorem Part.putOut_tracking (k : FaultKind) : (p.putOut h k).tracking = p.tracking := by
  unfold Part.putOut; split <;> simp

@[simp] theorem Part.decideKind_tracking (k : FaultKind) : (p.decideKind h k).tracking = p.tracking := by
  unfold Part.decideKind; split <;> simp

@[simp] theorem Part.detect_tracking (k : FaultKind) : (p.detect h k).tracking = p.tracking := by
  unfold Part.detect; split
  · rfl
  · dsimp only; split <;> simp

@[simp] theorem Part.coilDetect_tracking (c : CoilFault) (v : Valve) : (p.coilDetect h c v).tracking = p.tracking := by
  simp [Part.coilDetect]

@[simp] theorem Part.evaluateRate_tracking : (p.evaluateRate h).tracking = p.tracking := by
  unfold Part.evaluateRate; split <;> simp

@[simp] theorem Part.decideLive_tracking : (p.decideLive h).tracking = p.tracking :=
  foldl_view Part.tracking _ (fun q k => by split <;> simp) _ p

@[simp] theorem Part.admitAfter_tracking (a : Nat) : (p.admitAfter h a).tracking = p.tracking := by
  unfold Part.admitAfter; dsimp only; split
  · split <;> simp
  · simp

@[simp] theorem Part.admitRate_tracking (r : Nat) (b : Bool) : (p.admitRate h r b).tracking = p.tracking := by
  simp [Part.admitRate, Part.modHead_tracking]

@[simp] theorem Part.takeSamples_tracking (full : Bool) : (p.takeSamples h full).tracking = p.tracking := by
  unfold Part.takeSamples; split
  · rfl
  · split
    · dsimp only; split <;> split <;> simp
    · rfl

@[simp] theorem Part.applyJudgement_tracking (j : Option Judgement) : (p.applyJudgement h j).tracking = p.tracking := by
  unfold Part.applyJudgement; dsimp only; split
  · rfl
  · split
    · split
      · simp
      · split <;> simp
    · rfl

@[simp] theorem Part.countWarmup_tracking : (p.countWarmup h).tracking = p.tracking := by
  unfold Part.countWarmup; dsimp only; split
  · rfl
  · split <;> simp

@[simp] theorem Part.tableOutcome_tracking (c : Context) : (p.tableOutcome h c).tracking = p.tracking := by
  unfold Part.tableOutcome; dsimp only; split <;> simp

@[simp] theorem Part.countUninspected_tracking : (p.countUninspected h).tracking = p.tracking :=
  Part.modRecord_tracking h p _

@[simp] theorem Part.changeTrim_tracking (t : Int) : (p.changeTrim h t).tracking = p.tracking := by
  unfold Part.changeTrim; dsimp only; split <;> simp

@[simp] theorem Part.startWarmup_tracking (w : Nat) : (p.startWarmup w).tracking = p.tracking :=
  forFitted_view Part.tracking _ (fun h q => by split <;> simp) p

@[simp] theorem Part.clearDrainTotals_tracking : p.clearDrainTotals.tracking = p.tracking :=
  Part.tracking_setHeads p _ fun h => by simp

@[simp] theorem Part.dropTimed_tracking : p.dropTimed.tracking = p.tracking :=
  forFitted_view Part.tracking _ (fun h q => by split <;> simp) p

@[simp] theorem Part.restoreHead_tracking : (p.restoreHead h).tracking = p.tracking := by
  unfold Part.restoreHead; dsimp only; split
  · simp
  · split <;> simp

@[simp] theorem Part.applyWindow_tracking : p.applyWindow.tracking = p.tracking := by
  unfold Part.applyWindow
  exact (forFitted_view Part.tracking _ (fun h q => by simp) _).trans (Part.tracking_setHeads p _ fun h => by simp)

@[simp] theorem Part.applyActions_tracking (ks : List FaultKind) : (p.applyActions ks).tracking = p.tracking :=
  forFitted_view Part.tracking _ (fun h q => foldl_view Part.tracking _ (fun q k => by split <;> simp) ks q) p

/-! ### Coil tests and the Operation Slot -/

@[simp] theorem Part.beginTest_tracking : (p.beginTest h).tracking = p.tracking := Part.modEntry_tracking h p _

@[simp] theorem Part.enterRest_tracking : (p.enterRest h).tracking = p.tracking := by
  unfold Part.enterRest; dsimp only; split <;> simp

@[simp] theorem Part.beginMarked_tracking : p.beginMarked.tracking = p.tracking :=
  forFitted_view Part.tracking _ (fun h q => by split <;> simp) p

@[simp] theorem Part.markHead_tracking : (p.markHead h).tracking = p.tracking := by
  unfold Part.markHead; split
  · dsimp only; split <;> simp
  · rfl

theorem Part.slot_tracking (s : Slot) : { p with slot := s }.tracking = p.tracking := rfl

@[simp] theorem Part.finish_tracking (r : OpResult) : (p.finish r).tracking = p.tracking := by
  unfold Part.finish; split <;> rfl

@[simp] theorem Part.endTestCoils_tracking (r : OpResult) : (p.endTestCoils r).tracking = p.tracking :=
  Part.finish_tracking _ r

@[simp] theorem Part.checkTestCoils_tracking : p.checkTestCoils.tracking = p.tracking := by
  unfold Part.checkTestCoils; split <;> simp

@[simp] theorem Part.removeMark_tracking : (p.removeMark h).tracking = p.tracking := by
  unfold Part.removeMark; split <;> simp

@[simp] theorem Part.removeAllMarks_tracking : p.removeAllMarks.tracking = p.tracking := by
  have unmarked := Part.tracking_setHeads p
    (Vector.ofFn fun h => let x := p.head h; { x with diag := { x.diag with mark := false } }) fun h => by simp
  unfold Part.removeAllMarks; dsimp only; split
  · exact (Part.endTestCoils_tracking _ _).trans unmarked
  · exact unmarked

@[simp] theorem Part.applyDiag_tracking (old : MachineConfig) : (p.applyDiag old).tracking = p.tracking := by
  unfold Part.applyDiag; dsimp only; split <;> split <;> simp

@[simp] theorem Part.endCal_tracking (c : CalRecord) (r : OpResult) : (p.endCal c r).tracking = p.tracking := by
  simp [Part.endCal]

@[simp] theorem Part.abortCal_tracking (c : AbortCause) : (p.abortCal c).tracking = p.tracking := by
  unfold Part.abortCal; split <;> simp

@[simp] theorem Part.abortCalOn_tracking (c : AbortCause) : (p.abortCalOn h c).tracking = p.tracking := by
  unfold Part.abortCalOn; split <;> simp

@[simp] theorem Part.coilReportCal_tracking (v : Valve) : (p.coilReportCal h v).tracking = p.tracking := by
  unfold Part.coilReportCal; split <;> simp

@[simp] theorem Part.leaveTest_tracking : (p.leaveTest h).tracking = p.tracking := Part.modEntry_tracking h p _

@[simp] theorem Part.outcomeDetections_tracking (t : TestReport) (c : CoilFault) (rs : List (Valve × TestReport)) :
    (p.outcomeDetections h t c rs).tracking = p.tracking :=
  foldl_view Part.tracking _ (fun q r => by simp) _ p

@[simp] theorem Part.testOutcome_tracking (rs : List (Valve × TestReport)) :
    (p.testOutcome h rs).tracking = p.tracking := by
  unfold Part.testOutcome; dsimp only; split <;> simp

@[simp] theorem Part.testExpiry_tracking : (p.testExpiry h).tracking = p.tracking := by
  unfold Part.testExpiry; dsimp only; split <;> simp

@[simp] theorem Part.beginCal_tracking (n m : Nat) : (p.beginCal h n m).tracking = p.tracking := by
  simp [Part.beginCal, Part.slot_tracking]

@[simp] theorem Part.calCount_tracking (c : CalRecord) : (p.calCount c).tracking = p.tracking := by
  unfold Part.calCount; dsimp only; split
  · simp [Part.slot_tracking]
  · split <;> simp [Part.slot_tracking]

@[simp] theorem Part.calPulse_tracking (c : CalRecord) : (p.calPulse c).tracking = p.tracking := by
  unfold Part.calPulse; split
  · simp
  · simp
  · rfl

/-! ### The runaway count -/

@[simp] theorem Part.judgeRunaway_tracking : (p.judgeRunaway h).tracking = p.tracking := by
  unfold Part.judgeRunaway; dsimp only; split <;> simp [Part.modHead_tracking]

@[simp] theorem Part.dischargeRunaway_tracking : (p.dischargeRunaway h).tracking = p.tracking := by
  unfold Part.dischargeRunaway; dsimp only; split <;> simp [Part.modHead_tracking]

@[simp] theorem Part.runawayPulse_tracking : (p.runawayPulse h).tracking = p.tracking := by
  unfold Part.runawayPulse; dsimp only; split <;> simp [Part.modHead_tracking]

/-! ### The head cycle -/

@[simp] theorem Part.addContextFlag_tracking (f : ContainerFlag) : (p.addContextFlag h f).tracking = p.tracking :=
  Part.modContext_tracking h p _
@[simp] theorem Part.goTo_tracking (st : HeadState) : (p.goTo h st).tracking = p.tracking :=
  Part.modEntry_tracking h p _
@[simp] theorem Part.openRelief_tracking : (p.openRelief h).tracking = p.tracking := Part.modEntry_tracking h p _

@[simp] theorem Part.cutSettle_tracking : (p.cutSettle h).tracking = p.tracking := by simp [Part.cutSettle]

@[simp] theorem Part.toSettle_tracking (st : DoseStatus) : (p.toSettle h st).tracking = p.tracking :=
  Part.modHead_tracking h p fun _ => rfl

@[simp] theorem Part.completeDose_tracking : (p.completeDose h).tracking = p.tracking := by
  unfold Part.completeDose; split <;> simp

@[simp] theorem Part.fastClose_tracking : (p.fastClose h).tracking = p.tracking := by
  unfold Part.fastClose; split <;> simp

@[simp] theorem Part.refuseFill_tracking (f : ContainerFlag) : (p.refuseFill h f).tracking = p.tracking := by
  simp [Part.refuseFill]

@[simp] theorem Part.startFill_tracking (c : Context) : (p.startFill h c).tracking = p.tracking := by
  simp [Part.startFill, Part.modHead_tracking]

@[simp] theorem Part.fillDecision_tracking : (p.fillDecision h).tracking = p.tracking := by
  unfold Part.fillDecision; split
  · rfl
  · split
    · simp
    · split <;> simp

@[simp] theorem Part.shutHead_tracking : (p.shutHead h).tracking = p.tracking := Part.modHead_tracking h p fun _ => rfl

@[simp] theorem Part.reliefCheck_tracking : (p.reliefCheck h).tracking = p.tracking := by
  unfold Part.reliefCheck; split <;> simp

@[simp] theorem Part.dischargeReports_tracking (fl : BitVec 13) : (p.dischargeReports h fl).tracking = p.tracking := by
  unfold Part.dischargeReports; dsimp only; split <;> split <;> split <;> simp

@[simp] theorem Part.pressuriseCrossing_tracking : (p.pressuriseCrossing h).tracking = p.tracking := by
  unfold Part.pressuriseCrossing; split
  · split
    · simp
    · split
      · simp
      · split <;> simp
  · rfl

@[simp] theorem Part.fillStartCrossing_tracking : (p.fillStartCrossing h).tracking = p.tracking := by
  unfold Part.fillStartCrossing; split <;> simp

@[simp] theorem Part.overrunFill_tracking : (p.overrunFill h).tracking = p.tracking := by simp [Part.overrunFill]

@[simp] theorem Part.fillEndCrossing_tracking : (p.fillEndCrossing h).tracking = p.tracking := by
  unfold Part.fillEndCrossing; split <;> simp

@[simp] theorem Part.reliefCrossing_tracking : (p.reliefCrossing h).tracking = p.tracking := by
  unfold Part.reliefCrossing; split <;> simp

@[simp] theorem Part.headSafe_tracking : (p.headSafe h).tracking = p.tracking := by
  unfold Part.headSafe; split <;> simp

@[simp] theorem Part.closeCleanValves_tracking : p.closeCleanValves.tracking = p.tracking :=
  forFitted_view Part.tracking _ (fun h q => by simp) p

@[simp] theorem Part.openCleanAt_tracking : (p.openCleanAt h).tracking = p.tracking := by
  unfold Part.openCleanAt; split
  · split <;> simp
  · rfl

@[simp] theorem Part.ventHead_tracking : (p.ventHead h).tracking = p.tracking := by
  unfold Part.ventHead; split <;> simp

@[simp] theorem Part.lose_tracking (f : ContainerFlag) : (p.lose h f).tracking = p.tracking := by
  unfold Part.lose; dsimp only; split <;> split <;> split <;> simp

@[simp] theorem Part.sealDropAt_tracking : (p.sealDropAt h).tracking = p.tracking := by
  unfold Part.sealDropAt; split <;> simp

@[simp] theorem Part.settleEnd_tracking : (p.settleEnd h).tracking = p.tracking := by
  simp [Part.settleEnd, Part.modHead_tracking]

@[simp] theorem Part.reliefEnd_tracking : (p.reliefEnd h).tracking = p.tracking := Part.modEntry_tracking h p _

@[simp] theorem Part.pressuriseEnd_tracking : (p.pressuriseEnd h).tracking = p.tracking := by
  unfold Part.pressuriseEnd; dsimp only; split <;> simp

@[simp] theorem Part.markHeldLong_tracking : p.markHeldLong.tracking = p.tracking :=
  Part.tracking_setHeads p _ fun h => by simp

/-! ### Pulses and the timers of a dose -/

@[simp] theorem Part.demandPulse_tracking : (p.demandPulse h).tracking = p.tracking :=
  Part.modHead_tracking h p fun _ => rfl

@[simp] theorem Part.reportAlive_tracking : (p.reportAlive h).tracking = p.tracking := by simp [Part.reportAlive]

@[simp] theorem Part.fillPulse_tracking (c : Context) : (p.fillPulse h c).tracking = p.tracking := by
  unfold Part.fillPulse; dsimp only; split <;> split <;> (try split) <;> simp

@[simp] theorem Part.shadowPulse_tracking (c : Context) : (p.shadowPulse h c).tracking = p.tracking := by
  unfold Part.shadowPulse; dsimp only; split <;> simp

@[simp] theorem Part.afterPulse_tracking : (p.afterPulse h).tracking = p.tracking := Part.modContext_tracking h p _

@[simp] theorem Part.dosePulse_tracking : (p.dosePulse h).tracking = p.tracking := by
  unfold Part.dosePulse; split
  · simp
  · split
    · split <;> (try split) <;> simp
    · simp

@[simp] theorem Part.pulse_tracking : (p.pulse h).tracking = p.tracking := by
  unfold Part.pulse; split
  · rfl
  · simp
  all_goals dsimp only; split <;> simp

@[simp] theorem Part.clockTo_tracking (due : Nat) : (p.clockTo due).tracking = p.tracking := rfl

theorem Part.atExpiry_tracking (t : Timer) {handle : Part → Part} (keeps : ∀ q, (handle q).tracking = q.tracking) :
    (p.atExpiry t handle).tracking = p.tracking := by
  unfold Part.atExpiry; split
  · rfl
  · exact keeps _

theorem Part.phaseExpiry_tracking (st : HeadState) {handle : Part → Part}
    (keeps : ∀ q, (handle q).tracking = q.tracking) : (p.phaseExpiry h st handle).tracking = p.tracking := by
  unfold Part.phaseExpiry; split
  · exact Part.atExpiry_tracking p _ keeps
  · rfl

@[simp] theorem Part.openExpiry_tracking : (p.openExpiry h).tracking = p.tracking := by
  unfold Part.openExpiry; split
  · rfl
  · exact Part.atExpiry_tracking p _ fun q => by simp

@[simp] theorem Part.meterSilence_tracking (c : Context) : (p.meterSilence h c).tracking = p.tracking := by
  unfold Part.meterSilence; dsimp only; split <;> simp

@[simp] theorem Part.silenceExpiry_tracking : (p.silenceExpiry h).tracking = p.tracking := by
  unfold Part.silenceExpiry; split
  · rfl
  · split
    · exact Part.atExpiry_tracking p _ fun q => by simp
    · rfl

/-! ### Production state, track, admission and discharge -/

theorem Part.control_tracking (c : Control) : { p with control := c }.tracking = p.tracking := rfl

@[simp] theorem Part.setProd_tracking (new : Prod) : (p.setProd new).tracking = p.tracking := by
  unfold Part.setProd; dsimp only; split
  · exact Part.beginMarked_tracking _
  · rfl

@[simp] theorem Part.setPort_tracking (port : Port) (s : PortState) : (p.setPort port s).tracking = p.tracking := rfl

@[simp] theorem Part.enqueue_tracking (port : Port) (f : OutFrame) : (p.enqueue port f).tracking = p.tracking := by
  unfold Part.enqueue; dsimp only; split <;> rfl

@[simp] theorem Part.reply_tracking (port : Port) (k : Nat) (a : Answer) : (p.reply port k a).tracking = p.tracking := by
  simp [Part.reply]

@[simp] theorem Part.crcPassed_tracking (port : Port) : (p.crcPassed port).tracking = p.tracking := by
  cases port <;> rfl

theorem Part.track_tracking (t : List TrackRecord) : { p with track := t }.tracking = p.tracking := rfl

@[simp] theorem Part.ageOldest_tracking : p.ageOldest.tracking = p.tracking := by
  unfold Part.ageOldest; split
  · rfl
  · exact Part.countUninspected_tracking _ _

@[simp] theorem Part.ageByCount_tracking : p.ageByCount.tracking = p.tracking := by
  unfold Part.ageByCount; split <;> simp

@[simp] theorem ageExcess_tracking (n : Nat) : (ageExcess n p).tracking = p.tracking := by
  induction n generalizing p with
  | zero => rfl
  | succ n ih => simp [ageExcess, ih]

@[simp] theorem Part.ageByNumber_tracking (m : Nat) : (p.ageByNumber m).tracking = p.tracking :=
  forEach_view Part.tracking Part.countUninspected Part.countUninspected_tracking _ _

@[simp] theorem Part.trackAdmit_tracking (c : Context) : (p.trackAdmit h c).tracking = p.tracking := by
  unfold Part.trackAdmit
  exact (Part.ageByNumber_tracking _ _).trans (Part.modRecord_tracking h _ _)

@[simp] theorem Part.countDischarge_tracking : p.countDischarge.tracking = p.tracking := rfl

@[simp] theorem Part.trackDischarge_tracking (c : Context) : (p.trackDischarge h c).tracking = p.tracking := by
  unfold Part.trackDischarge; dsimp only; split
  · simp
  · split
    · simp [Part.track_tracking]
    · simp [Part.track_tracking]

@[simp] theorem Part.removeContext_tracking : (p.removeContext h).tracking = p.tracking := by
  unfold Part.removeContext; dsimp only; split <;> simp [Part.modHead_tracking]

@[simp] theorem Part.completeContainer_tracking : (p.completeContainer h).tracking = p.tracking := by
  unfold Part.completeContainer; dsimp only; split <;> simp

@[simp] theorem Part.dischargeHead_tracking : (p.dischargeHead h).tracking = p.tracking := by simp [Part.dischargeHead]

@[simp] theorem Part.admitContainer_tracking : (p.admitContainer h).tracking = p.tracking := by
  simp [Part.admitContainer, Part.modHead_tracking]

@[simp] theorem Part.infeedFromRest_tracking : (p.infeedFromRest h).tracking = p.tracking := by
  have left : (if (p.entry h).state = .testing then p.leaveTest h else p).tracking = p.tracking := by split <;> simp
  unfold Part.infeedFromRest; dsimp only
  generalize (if (p.entry h).state = .testing then p.leaveTest h else p) = q at left
  split
  · simp [left]
  · simp [left]
  · split <;> simp [left]

@[simp] theorem Part.infeedCrossing_tracking : (p.infeedCrossing h).tracking = p.tracking := by
  unfold Part.infeedCrossing; dsimp only; split <;> simp

@[simp] theorem Part.dischargeCrossing_tracking : (p.dischargeCrossing h).tracking = p.tracking := by
  unfold Part.dischargeCrossing; split
  · rfl
  · rfl
  · rfl
  · split <;> simp
  · simp

/-- A crossing moves no pointer itself: the examination that finds it does. -/
@[simp] theorem Part.crossing_tracking (b : Boundary) : (p.crossing h b).tracking = p.tracking := by
  cases b
  · exact Part.infeedCrossing_tracking h p
  · exact Part.pressuriseCrossing_tracking h p
  · exact Part.fillStartCrossing_tracking h p
  · exact Part.fillEndCrossing_tracking h p
  · exact Part.reliefCrossing_tracking h p
  · exact Part.dischargeCrossing_tracking h p

/-! ### SAFE, the vent sweep and the head bus -/

@[simp] theorem Part.enterSafe_tracking (c : Cause) : (p.enterSafe c).tracking = p.tracking := by
  have heads : ∀ q : Part, (forFitted Part.headSafe q).tracking = q.tracking :=
    forFitted_view Part.tracking _ fun h q => by simp
  unfold Part.enterSafe; dsimp only; split <;> simp [heads, Part.control_tracking]

@[simp] theorem Part.raiseSafe_tracking (c : Cause) : (p.raiseSafe c).tracking = p.tracking := by
  unfold Part.raiseSafe; split
  · rfl
  · rfl
  all_goals simp

@[simp] theorem Part.sweepDone_tracking : p.sweepDone.tracking = p.tracking := by
  have standby := Part.setProd_tracking p .standby
  unfold Part.sweepDone; dsimp only; split
  · exact (Part.raiseSafe_tracking _ _).trans standby
  · exact standby

@[simp] theorem Part.checkSweep_tracking : p.checkSweep.tracking = p.tracking := by
  unfold Part.checkSweep; split <;> simp

@[simp] theorem Part.ventSweep_tracking : p.ventSweep.tracking = p.tracking :=
  (Part.checkSweep_tracking _).trans (forFitted_view Part.tracking _ (fun h q => by simp) p)

@[simp] theorem Part.ventEnd_tracking : (p.ventEnd h).tracking = p.tracking := by simp [Part.ventEnd]

@[simp] theorem Part.coilReportAt_tracking (v : Valve) : (p.coilReportAt h v).tracking = p.tracking := by
  unfold Part.coilReportAt; dsimp only; split <;> (try split) <;> simp

@[simp] theorem Part.coilReport_tracking (v : Valve) (c : CoilFault) : (p.coilReport h v c).tracking = p.tracking := by
  simp [Part.coilReport]

@[simp] theorem Part.setSeal_tracking (level : Bool) : (p.setSeal h level).tracking = p.tracking := rfl

@[simp] theorem Part.moduleAnswers_tracking (m : ModuleNo) : (p.moduleAnswers m).tracking = p.tracking := by
  unfold Part.moduleAnswers; split <;> rfl

theorem Part.busArrival_tracking {handle : Part → Part} (keeps : ∀ q, (handle q).tracking = q.tracking) :
    (p.busArrival h handle).tracking = p.tracking := by
  unfold Part.busArrival; dsimp only; split
  · rfl
  · split <;> simp [keeps]

end heads

end Sys2Proof.Machine
end

section
/-! Every operation that writes what the Tracker's invariant reads keeps the invariant; so does every command, and every
step. -/

namespace Sys2Proof.Machine

open Sys2Proof

/-! ### Valid configurations -/

theorem sectorOk_of_validMachine {m : MachineConfig} (valid : validMachine m = true) : sectorOk m = true := by
  simp only [validMachine, machineRangesOk, Bool.and_eq_true] at valid
  obtain ⟨⟨⟨⟨-, sector⟩, -⟩, -⟩, -⟩ := valid
  exact sector

theorem nInc_pos_of_sectorOk {m : MachineConfig} (ok : sectorOk m = true) : 0 < m.nInc := by
  simp only [sectorOk, Bool.and_eq_true, decide_eq_true_eq] at ok
  omega

theorem permitted_of_permittedCode {k : FaultKind} {n : Nat} (h : permittedCode k n = true) (other : Action) :
    permitted k ((actionOf n).getD other) = true := by
  unfold permittedCode at h
  cases code : actionOf n with
  | none => simp [code] at h
  | some a => simpa [code] using h

/-- Fields that pass the checks of R210 give a valid configuration. -/
theorem validMachine_of_machineOfFields {f : MachineFields} {m : MachineConfig} (h : machineOfFields f = some m) :
    validMachine m = true := by
  unfold machineOfFields at h
  split at h
  · split at h
    · next ok =>
      obtain ⟨ranges, actions⟩ := (Bool.and_eq_true ..).mp ok
      cases h
      refine (Bool.and_eq_true ..).mpr ⟨ranges, List.all_eq_true.mpr fun k hk => ?_⟩
      simpa [actionFor] using permitted_of_permittedCode (List.all_eq_true.mp actions k hk) .report
    · cases h
  · cases h

/-- What a good memory holds is a valid configuration. -/
theorem validMachine_of_loadMemory {mem : List Host.Cell} {l : Loaded} (h : loadMemory mem = some l) :
    validMachine l.machine = true := by
  unfold loadMemory at h
  split at h
  · split at h
    · cases h
    · next m at' =>
      split at h
      · cases h
        obtain ⟨f, -, valid⟩ := Option.bind_eq_some_iff.mp at'
        exact validMachine_of_machineOfFields valid
      · cases h
  · cases h

/-- The fields that a SET DIAGNOSTICS may write leave a valid configuration valid. -/
theorem validMachine_machineWithDiag {f : DiagFields} {m : MachineConfig} (fields : diagFieldsOk f = true)
    (valid : validMachine m = true) : validMachine (machineWithDiag f m) = true := by
  simp only [diagFieldsOk, Bool.and_eq_true] at fields
  obtain ⟨⟨window, -⟩, actions⟩ := fields
  obtain ⟨ranges, permits⟩ := (Bool.and_eq_true ..).mp valid
  have window' : inRange 4 32 (f.window.getD m.window) = true := by
    cases given : f.window with
    | none =>
      simp only [machineRangesOk, Bool.and_eq_true] at ranges
      obtain ⟨⟨⟨⟨⟨-, kept⟩, -⟩, -⟩, -⟩, -⟩ := ranges
      exact kept
    | some n => simpa [given, optInRange] using window
  refine (Bool.and_eq_true ..).mpr ⟨?_, List.all_eq_true.mpr fun k hk => ?_⟩
  · simp only [machineRangesOk, Bool.and_eq_true] at ranges ⊢
    obtain ⟨⟨⟨⟨⟨before, -⟩, bowl⟩, sector⟩, heads⟩, limit⟩ := ranges
    exact ⟨⟨⟨⟨⟨before, window'⟩, bowl⟩, sector⟩, heads⟩, limit⟩
  · have kept := List.all_eq_true.mp permits k hk
    have given := List.all_eq_true.mp actions k hk
    simp only [actionFor, machineWithDiag, Fin.getElem_fin, Vector.getElem_ofFn] at kept ⊢
    cases code : f.actions[k.idx] with
    | none => simpa [code] using kept
    | some n =>
      have := permitted_of_permittedCode (by simpa [code] using given : permittedCode k n = true)
      simpa [code] using this _

/-- Configurations of one geometry have the same positions and heads and valid sector tables at once. -/
theorem sameGeometry_iff {a b : MachineConfig} (same : sameGeometry a b = true) :
    a.nInc = b.nInc ∧ a.fitted = b.fitted ∧ sectorOk a = sectorOk b := by
  simp only [sameGeometry, Bool.and_eq_true, decide_eq_true_eq] at same
  simp [sectorOk, same]

/-! ### Operations that write what the invariant reads -/

/-- The Tracker moves: position and lag stay in their ranges, and the position is referenced as before. -/
theorem Part.TrackerInRange.modCarousel {p : Part} (hp : p.TrackerInRange) (run : p.phase = .running)
    {f : Carousel → Carousel} (position : (f p.carousel).position < p.machine.nInc)
    (lag : (f p.carousel).lag ≤ p.machine.reverseLimit)
    (zero : (f p.carousel).zero.isSome = p.carousel.zero.isSome) : (p.modCarousel f).TrackerInRange := by
  obtain ⟨-, -, pointers, bad, valid, -⟩ := hp
  refine ⟨position, lag, fun h => ?_, bad, valid, fun off => absurd run off⟩
  exact (pointers h).trans (by simp [Part.pointersLive, Part.fitted, zero])

/-- A head's pointer is written: it is there exactly where the invariant asks for one. -/
theorem Part.TrackerInRange.modHead {p : Part} (hp : p.TrackerInRange) {h : HeadNo} {f : Head → Head}
    (pointer : (f (p.head h)).pointer.isSome = (p.pointersLive && p.fitted h)) : (p.modHead h f).TrackerInRange := by
  obtain ⟨position, lag, pointers, bad, valid, off⟩ := hp
  refine ⟨position, lag, fun g => ?_, bad, valid, off⟩
  rw [Part.head_modHead]
  split
  · next same => subst same; exact pointer
  · exact pointers g

/-- With the position unreferenced the invariant asks for no pointer at all. -/
theorem Part.TrackerInRange.blank {p : Part} (hp : p.TrackerInRange) (zero : p.carousel.zero = none) {h : HeadNo}
    {f : Head → Head} (pointer : (f (p.head h)).pointer = none) : (p.modHead h f).TrackerInRange :=
  hp.modHead (by simp [pointer, Part.pointersLive, zero])

/-! ### Crossings -/

/-- The crossing of a boundary by a head, its pointer then at the next boundary (R12). -/
def Part.crossTo (h : HeadNo) (x : Boundary) (p : Part) : Part :=
  (p.crossing h x).modHead h fun y => { y with pointer := some x.next }

/-- A head at the boundary its pointer names. -/
def Part.atBoundary (p : Part) (h : HeadNo) (x : Boundary) : Prop :=
  (p.head h).pointer = some x ∧ p.furthestAngle h = boundaryAngle p.machine x

/-- A head at its boundary crosses it. -/
theorem Part.crossIfDue_of_atBoundary {p : Part} {h : HeadNo} {x : Boundary} (due : p.atBoundary h x) :
    p.crossIfDue h = p.crossTo h x := by
  simp [Part.crossIfDue, Part.crossTo, due.1, due.2]

/-- A head at no boundary does nothing. -/
theorem Part.crossIfDue_of_not_atBoundary {p : Part} {h : HeadNo} (idle : ∀ x, ¬ p.atBoundary h x) :
    p.crossIfDue h = p := by
  unfold Part.crossIfDue
  split
  · rfl
  · next x pointer => exact if_neg fun angle => idle x ⟨pointer, angle⟩

theorem Part.crossTo_keeps_trackerInRange {p : Part} (hp : p.TrackerInRange) {h : HeadNo} {x : Boundary}
    (pointer : (p.head h).pointer = some x) : (p.crossTo h x).TrackerInRange := by
  have view := Part.crossing_tracking h p x
  refine (Part.trackerInRange_of_tracking view hp).modHead ?_
  obtain ⟨-, -, pointers, -⟩ := hp
  rw [Part.pointersLive_of_tracking view, Part.fitted_of_tracking view, ← pointers h, pointer]; rfl

theorem Part.crossIfDue_keeps_trackerInRange {p : Part} (hp : p.TrackerInRange) (h : HeadNo) :
    (p.crossIfDue h).TrackerInRange := by
  by_cases due : ∃ x, p.atBoundary h x
  · obtain ⟨x, due⟩ := due
    rw [Part.crossIfDue_of_atBoundary due]
    exact Part.crossTo_keeps_trackerInRange hp due.1
  · rwa [Part.crossIfDue_of_not_atBoundary (not_exists.mp due)]

theorem forEach_keeps {P : Part → Prop} {f : HeadNo → Part → Part} (keeps : ∀ h p, P p → P (f h p)) (l : List HeadNo)
    {p : Part} (hp : P p) : P (forEach l f p) := by
  induction l generalizing p with
  | nil => exact hp
  | cons a l ih => exact ih (keeps a p hp)

theorem Part.examineAll_keeps_trackerInRange {p : Part} (hp : p.TrackerInRange) : p.examineAll.TrackerInRange := by
  unfold Part.examineAll
  split
  · exact forEach_keeps (P := Part.TrackerInRange) (f := Part.examine)
      (fun h q hq => Part.crossIfDue_keeps_trackerInRange (Part.crossIfDue_keeps_trackerInRange hq h) h) _ hp
  · exact hp

theorem Part.carousel_of_offCycle {p q : Part} (e : p.offCycle = q.offCycle) : p.carousel = q.carousel := by
  have := congrArg Part.carousel e; exact this

@[simp] theorem Part.examineAll_phase (p : Part) : p.examineAll.phase = p.phase := by
  have := congrArg Part.phase (Part.examineAll_offCycle p); exact this
@[simp] theorem Part.examineAll_machine (p : Part) : p.examineAll.machine = p.machine := by
  have := congrArg Part.machine (Part.examineAll_offCycle p); exact this
@[simp] theorem Part.examineAll_carousel (p : Part) : p.examineAll.carousel = p.carousel :=
  Part.carousel_of_offCycle (Part.examineAll_offCycle p)

/-! ### Steps and zero marks -/

theorem positionUp_lt {n position : Nat} (h : position < n) : positionUp n position < n := by
  unfold positionUp; split <;> omega

theorem positionDown_lt {n position : Nat} (h : position < n) : positionDown n position < n := by
  unfold positionDown; split <;> omega

theorem Part.positionForward_keeps_trackerInRange {p : Part} (hp : p.TrackerInRange) (run : p.phase = .running) :
    p.positionForward.TrackerInRange := by
  obtain ⟨position, lag, -⟩ := id hp
  exact hp.modCarousel run (positionUp_lt position) lag rfl

theorem Part.stepForward_keeps_trackerInRange {p : Part} (hp : p.TrackerInRange) (run : p.phase = .running) :
    p.stepForward.TrackerInRange := by
  have moved := Part.positionForward_keeps_trackerInRange hp run
  unfold Part.stepForward
  split
  · obtain ⟨position, lag, -⟩ := id moved
    exact moved.modCarousel run position ((Nat.sub_le _ 1).trans lag) rfl
  · exact Part.examineAll_keeps_trackerInRange moved

theorem Part.stepBackward_keeps_trackerInRange {p : Part} (hp : p.TrackerInRange) (run : p.phase = .running) :
    p.stepBackward.TrackerInRange := by
  obtain ⟨position, lag, -⟩ := id hp
  have moved : (p.modCarousel fun c =>
      { c with
        position := positionDown p.machine.nInc c.position
        lag := if c.lag < p.machine.reverseLimit then c.lag + 1 else c.lag }).TrackerInRange :=
    hp.modCarousel run (positionDown_lt position) (by dsimp only; split <;> omega) rfl
  unfold Part.stepBackward
  dsimp only
  split
  · exact moved
  · split
    · exact Part.trackerInRange_of_tracking (Part.raiseSafe_tracking _ _) moved
    · exact moved

theorem Part.noteStep_tracking (d : Direction) (p : Part) : (p.noteStep d).tracking = p.tracking := by
  unfold Part.noteStep; dsimp only; split
  · exact Part.abortCal_tracking _ _
  · rfl

theorem Part.takeStep_keeps_trackerInRange {p : Part} (hp : p.TrackerInRange) (run : p.phase = .running)
    (d : Direction) : (p.takeStep d).TrackerInRange := by
  have noted := fun d => Part.trackerInRange_of_tracking (Part.noteStep_tracking d p) hp
  have runs := fun d => (Part.phase_of_tracking (Part.noteStep_tracking d p)).trans run
  cases d
  · exact Part.stepForward_keeps_trackerInRange (noted _) (runs _)
  · exact Part.stepBackward_keeps_trackerInRange (noted _) (runs _)

theorem Part.pins_tracking (p : Part) (pins : Pins) : { p with pins := pins }.tracking = p.tracking := rfl

theorem Part.encoderEdge_keeps_trackerInRange {p : Part} (hp : p.TrackerInRange) (a b infeed : Bool) :
    (p.encoderEdge a b infeed).TrackerInRange := by
  have pinned := Part.trackerInRange_of_tracking
    (Part.pins_tracking p { p.pins with chanA := a, chanB := b, infeed := infeed }) hp
  unfold Part.encoderEdge
  dsimp only
  split
  · next run =>
    split
    · exact pinned
    · exact Part.takeStep_keeps_trackerInRange pinned run _
  · exact pinned

theorem correctForward_keeps_trackerInRange (n : Nat) {p : Part} (hp : p.TrackerInRange) (run : p.phase = .running) :
    (correctForward n p).TrackerInRange ∧ (correctForward n p).phase = .running := by
  induction n generalizing p with
  | zero => exact ⟨hp, run⟩
  | succ n ih =>
    exact ih (Part.examineAll_keeps_trackerInRange (Part.positionForward_keeps_trackerInRange hp run))
      ((Part.examineAll_phase _).trans run)

theorem Part.setZero_keeps_trackerInRange {p : Part} (hp : p.TrackerInRange) (run : p.phase = .running)
    (referenced : p.carousel.zero.isSome = true) (z : ZeroCheck) : (p.setZero z).TrackerInRange := by
  obtain ⟨position, lag, -⟩ := id hp
  exact hp.modCarousel run position lag referenced.symm

theorem Part.applyCorrection_keeps_trackerInRange {p : Part} (hp : p.TrackerInRange) (run : p.phase = .running)
    (c : Correction) : (p.applyCorrection c).TrackerInRange ∧ (p.applyCorrection c).phase = .running := by
  unfold Part.applyCorrection
  split
  · exact correctForward_keeps_trackerInRange c.forward hp run
  · obtain ⟨position, lag, -⟩ := id hp
    exact ⟨hp.modCarousel run (Nat.zero_lt_of_lt position) lag rfl, run⟩

/-- A correction forward moves the position alone of the Tracker's own state. -/
theorem correctForward_carousel (n : Nat) (p : Part) :
    (correctForward n p).carousel =
      { p.carousel with position := (positionUp p.machine.nInc)^[n] p.carousel.position } := by
  induction n generalizing p with
  | zero => rfl
  | succ n ih =>
    rw [correctForward, ih, Part.examineAll_carousel, Part.examineAll_machine]; rfl

theorem Part.applyCorrection_zero (c : Correction) (p : Part) :
    (p.applyCorrection c).carousel.zero = p.carousel.zero := by
  unfold Part.applyCorrection
  split
  · rw [correctForward_carousel]
  · rfl

/-- The pointers after they were aimed afresh (R11). -/
theorem Part.aimPointers_pointer (p : Part) (h : HeadNo) : (p.aimPointers.head h).pointer =
    if p.pointersLive && p.fitted h then some (aimAt p.machine (p.furthestAngle h)) else none := by
  simp [Part.aimPointers, Part.head]

/-- Pointers aimed afresh are there where the invariant asks for them, whatever they were. -/
theorem Part.aimPointers_trackerInRange {p : Part} (run : p.phase = .running)
    (position : p.carousel.position < p.machine.nInc) (lag : p.carousel.lag ≤ p.machine.reverseLimit)
    (bad : p.configBad = true → sectorOk p.machine = false)
    (valid : p.phase = .running → p.configBad = false → validMachine p.machine = true) :
    p.aimPointers.TrackerInRange := by
  have aimed : ∀ h, (p.aimPointers.head h).pointer.isSome = (p.pointersLive && p.fitted h) := fun h => by
    rw [Part.aimPointers_pointer]; split <;> simp_all
  unfold Part.aimPointers at aimed ⊢
  generalize (Vector.ofFn _ : Vector Head 64) = heads at aimed ⊢
  exact ⟨position, lag, aimed, bad, valid, fun off => absurd run off⟩

theorem Part.takeZeroMark_keeps_trackerInRange {p : Part} (hp : p.TrackerInRange) (run : p.phase = .running) :
    p.takeZeroMark.TrackerInRange := by
  obtain ⟨position, lag, -, bad, valid, -⟩ := id hp
  unfold Part.takeZeroMark
  dsimp only
  split
  · exact Part.aimPointers_trackerInRange run (Nat.zero_lt_of_lt position) lag bad valid
  · next z zero =>
    obtain ⟨kept, runs⟩ :=
      Part.applyCorrection_keeps_trackerInRange hp run (correctionOf p.machine.nInc p.carousel.position)
    have set := Part.setZero_keeps_trackerInRange kept runs (by rw [Part.applyCorrection_zero, zero]; rfl)
    split
    · exact set .clear
    · cases z
      · exact set .pending
      · exact Part.trackerInRange_of_tracking (Part.raiseSafe_tracking _ _) kept

theorem Part.zeroMark_keeps_trackerInRange {p : Part} (hp : p.TrackerInRange) (infeed : Bool) :
    (p.zeroMark infeed).TrackerInRange := by
  have pinned := Part.trackerInRange_of_tracking (Part.pins_tracking p { p.pins with infeed := infeed }) hp
  unfold Part.zeroMark
  dsimp only
  split
  · next taken => exact Part.takeZeroMark_keeps_trackerInRange pinned taken.1
  · exact pinned

/-! ### Full resets, the load, RESTART and WRITE MACHINE -/

theorem sectorOk_defaultMachine : sectorOk defaultMachine = false := by decide

/-- A full reset clears the Tracker and takes the defaults, which are valid in CONFIG alone. -/
theorem Part.clearAll_trackerInRange (p : Part) : p.clearAll.TrackerInRange := by
  refine ⟨(by decide : 0 < 14400), Nat.zero_le _, fun h => ?_, fun bad => (by cases bad), fun run => (by cases run),
    fun _ => ⟨rfl, rfl, rfl⟩⟩
  simp [Part.head, Part.clearAll, resetPart, blankHead, Part.pointersLive, blankCarousel]

theorem Part.fullReset_trackerInRange (p : Part) : (fullReset p).TrackerInRange := Part.clearAll_trackerInRange _

theorem brownout_keeps_trackerInRange {p : Part} (hp : p.TrackerInRange) (micros : Nat) :
    (brownout micros p).TrackerInRange := by
  unfold brownout; split
  · exact Part.fullReset_trackerInRange p
  · exact hp

theorem fullResetEnd_keeps_trackerInRange {p : Part} (hp : p.TrackerInRange) : (fullResetEnd p).TrackerInRange := by
  unfold fullResetEnd
  split
  · next inReset =>
    obtain ⟨position, lag, pointers, bad, -, off⟩ := hp
    exact ⟨position, lag, pointers, bad, fun run => (by cases run), fun _ => off (by simp [inReset])⟩
  · exact hp

@[simp] theorem Part.recomputePressure_tracking (p : Part) : p.recomputePressure.tracking = p.tracking := rfl
@[simp] theorem Part.startPeriods_tracking (p : Part) : p.startPeriods.tracking = p.tracking := rfl
@[simp] theorem Part.startModules_tracking (p : Part) : p.startModules.tracking = p.tracking := rfl

/-- What follows the load and RESTART writes nothing that the invariant reads. -/
theorem Part.startUp_tracking (p : Part) : p.startUp.tracking = p.tracking := by
  simp [Part.startUp, Part.control_tracking]

/-- The load sets a configuration that is valid or known to be bad, on a part whose Tracker is clear. -/
theorem Part.setCopies_trackerInRange {p : Part} (hp : p.TrackerInRange) (off : p.phase ≠ .running) {l : Loaded}
    {bad : Bool} (positive : 0 < l.machine.nInc) (invalid : bad = true → sectorOk l.machine = false)
    (valid : bad = false → validMachine l.machine = true) : (p.setCopies l bad).TrackerInRange := by
  obtain ⟨-, -, -, -, -, clear⟩ := hp
  obtain ⟨position, lag, zero⟩ := clear off
  refine ⟨?_, ?_, fun h => ?_, invalid, fun _ => valid, fun stopped => absurd rfl stopped⟩
  · exact position ▸ positive
  · exact lag ▸ Nat.zero_le _
  · simp [Part.head, Part.setCopies, blankHead, Part.pointersLive, zero]

theorem loadEnd_keeps_trackerInRange {p : Part} (hp : p.TrackerInRange) (acknowledged : Bool) :
    (loadEnd acknowledged p).TrackerInRange := by
  unfold loadEnd
  split
  · next loading =>
    have off : p.phase ≠ .running := by simp [loading]
    split
    · next l load =>
      have valid : validMachine l.machine = true := by
        split at load
        · exact validMachine_of_loadMemory load
        · cases load
      exact Part.trackerInRange_of_tracking (Part.startUp_tracking _)
        (Part.setCopies_trackerInRange hp off (nInc_pos_of_sectorOk (sectorOk_of_validMachine valid))
          (fun bad => (by cases bad)) fun _ => valid)
    · exact Part.trackerInRange_of_tracking (Part.startUp_tracking _)
        (Part.setCopies_trackerInRange hp off (by decide) (fun _ => sectorOk_defaultMachine) fun good => (by cases good))
  · exact hp

theorem Part.clearRun_keeps_trackerInRange {p : Part} (hp : p.TrackerInRange) : p.clearRun.TrackerInRange := by
  obtain ⟨position, -, -, bad, valid, -⟩ := hp
  refine ⟨Nat.zero_lt_of_lt position, Nat.zero_le _, fun h => ?_, bad, valid, fun _ => ⟨rfl, rfl, rfl⟩⟩
  simp [Part.head, Part.clearRun, blankHead, Part.pointersLive, blankCarousel]

/-- The configuration in force is replaced by a valid one and the Tracker follows (R18, R211). -/
theorem Part.retrack_trackerInRange {p : Part} (hp : p.TrackerInRange) {new : MachineConfig}
    (valid : validMachine new = true) :
    ({ p with machine := new, configBad := false }.retrack p.machine).TrackerInRange := by
  obtain ⟨position, lag, pointers, bad, -, off⟩ := hp
  have sector := sectorOk_of_validMachine valid
  unfold Part.retrack
  split
  · next same =>
    obtain ⟨nInc, fitted, sectors⟩ := sameGeometry_iff (b := new) same
    have good : p.configBad = false := by
      cases known : p.configBad with
      | false => rfl
      | true => rw [bad known] at sectors; exact absurd (sectors.trans sector) (by simp)
    refine ⟨nInc ▸ position, Nat.min_le_right _ _, fun h => (pointers h).trans ?_, fun b => (by cases b),
      fun _ _ => valid, fun stopped => ?_⟩
    · simp [Part.pointersLive, Part.fitted, good, fitted]
    · obtain ⟨position, lag, zero⟩ := off stopped
      exact ⟨position, by simp [lag], zero⟩
  · refine ⟨nInc_pos_of_sectorOk sector, Nat.zero_le _, fun h => ?_, fun b => (by cases b), fun _ _ => valid,
      fun _ => ⟨rfl, rfl, rfl⟩⟩
    simp [Part.head, Part.pointersLive]

@[simp] theorem Part.withdrawHead_tracking (h : HeadNo) (p : Part) : (p.withdrawHead h).tracking = p.tracking := by
  unfold Part.withdrawHead; dsimp only; split <;> simp

@[simp] theorem Part.rewatch_tracking (old : MachineConfig) (p : Part) : (p.rewatch old).tracking = p.tracking := rfl

/-- Heads that leave or join the fitted set lose their pointers: the position is then unreferenced. -/
theorem refit_keeps_trackerInRange {f : HeadNo → Part → Part} (l : List HeadNo) {p : Part}
    (keeps : ∀ h q, q.TrackerInRange ∧ q.carousel.zero = none → (f h q).TrackerInRange ∧ (f h q).carousel.zero = none)
    (hp : p.TrackerInRange ∧ (l = [] ∨ p.carousel.zero = none)) :
    (forEach l f p).TrackerInRange ∧ (p.carousel.zero = none → (forEach l f p).carousel.zero = none) := by
  obtain ⟨inRange, rfl | zero⟩ := hp
  · exact ⟨inRange, id⟩
  · obtain ⟨kept, unreferenced⟩ :=
      forEach_keeps (P := fun q => q.TrackerInRange ∧ q.carousel.zero = none) keeps l ⟨inRange, zero⟩
    exact ⟨kept, fun _ => unreferenced⟩

theorem Part.dropHead_keeps (h : HeadNo) (q : Part) (hq : q.TrackerInRange ∧ q.carousel.zero = none) :
    (q.dropHead h).TrackerInRange ∧ (q.dropHead h).carousel.zero = none := by
  obtain ⟨inRange, zero⟩ := hq
  have view : ((q.removeMark h).setMethod h .out none).tracking = q.tracking := by simp
  have zero' := (Part.zero_of_tracking view).trans zero
  exact ⟨(Part.trackerInRange_of_tracking view inRange).blank zero' rfl, zero'⟩

theorem Part.joinHead_keeps (h : HeadNo) (q : Part) (hq : q.TrackerInRange ∧ q.carousel.zero = none) :
    (q.joinHead h).TrackerInRange ∧ (q.joinHead h).carousel.zero = none := by
  obtain ⟨inRange, zero⟩ := hq
  exact ⟨inRange.blank zero rfl, zero⟩

theorem leavingHeads_of_fitted {old new : MachineConfig} (same : old.fitted = new.fitted) (l : List HeadNo) :
    leavingHeads old new l = [] := by simp [leavingHeads, same]

theorem joiningHeads_of_fitted {old new : MachineConfig} (same : old.fitted = new.fitted) (l : List HeadNo) :
    joiningHeads old new l = [] := by simp [joiningHeads, same]

/-- The fitted set changes only with the geometry, and the position is then unreferenced (R18). -/
theorem Part.retrack_fitted (old : MachineConfig) (p : Part) :
    old.fitted = p.machine.fitted ∨ (p.retrack old).carousel.zero = none := by
  unfold Part.retrack
  split
  · next same =>
    obtain ⟨-, fitted, -⟩ := sameGeometry_iff same
    exact .inl fitted
  · exact .inr rfl

theorem Part.writeMachine_keeps_trackerInRange {p : Part} (hp : p.TrackerInRange) {new : MachineConfig}
    (valid : validMachine new = true) : (p.writeMachine new).TrackerInRange := by
  unfold Part.writeMachine
  dsimp only
  have view : (forEach (leavingHeads p.machine new (allHeads.map (p.firstHead + ·))) Part.withdrawHead p).tracking =
      p.tracking := forEach_view Part.tracking _ Part.withdrawHead_tracking _ p
  generalize forEach (leavingHeads p.machine new (allHeads.map (p.firstHead + ·))) Part.withdrawHead p = q at view
  have retracked := Part.retrack_trackerInRange (Part.trackerInRange_of_tracking view hp) valid
  have refit := Part.retrack_fitted p.machine { q with machine := new, configBad := false }
  rw [Part.machine_of_tracking view] at retracked
  generalize Part.retrack p.machine { q with machine := new, configBad := false } = r at retracked refit
  obtain ⟨dropped, unreferenced⟩ := refit_keeps_trackerInRange _ Part.dropHead_keeps
    ⟨retracked, refit.imp (leavingHeads_of_fitted · allHeads) id⟩
  have joined := (refit_keeps_trackerInRange _ Part.joinHead_keeps
    ⟨dropped, refit.imp (joiningHeads_of_fitted · allHeads) unreferenced⟩).1
  exact Part.trackerInRange_of_tracking (by simp) joined

/-- A configuration that differs in what SET DIAGNOSTICS may write. -/
theorem Part.setDiag_keeps_trackerInRange {p : Part} (hp : p.TrackerInRange) {f : DiagFields}
    (fields : diagFieldsOk f = true) : { p with machine := machineWithDiag f p.machine }.TrackerInRange := by
  obtain ⟨position, lag, pointers, bad, valid, off⟩ := hp
  exact ⟨position, lag, pointers, bad, fun run good => validMachine_machineWithDiag fields (valid run good), off⟩

/-! ### Requests -/

@[simp] theorem accept_part (p : Part) : (accept p).1 = p := rfl
@[simp] theorem refusal_part (s : Status) (p : Part) : (refusal s p).1 = p := rfl

section requests

variable (p : Part)

theorem takeStart_tracking : (takeStart p).1.tracking = p.tracking := by
  unfold takeStart; split
  · rfl
  · split
    · rfl
    · split
      · rfl
      · split <;> simp

theorem Part.setHoldTimer_tracking (t : Timer) : (p.setHoldTimer t).tracking = p.tracking := rfl
theorem Part.setClean_tracking (b : Bool) : (p.setClean b).tracking = p.tracking := rfl
theorem Part.setRecipe_tracking (i : SlotNo) (r : StoredRecipe) : (p.setRecipe i r).tracking = p.tracking := rfl

theorem takeHold_tracking : (takeHold p).1.tracking = p.tracking := by
  unfold takeHold; split <;> simp [Part.setHoldTimer_tracking]

theorem takeResume_tracking : (takeResume p).1.tracking = p.tracking := by
  unfold takeResume; split <;> simp [Part.setHoldTimer_tracking]

theorem takeStop_tracking : (takeStop p).1.tracking = p.tracking := by
  unfold takeStop; split <;> simp [Part.setHoldTimer_tracking]

theorem takeRecover_tracking : (takeRecover p).1.tracking = p.tracking := by
  unfold takeRecover
  repeat' split
  all_goals simp [Part.control_tracking]

theorem takeCleanBegin_tracking : (takeCleanBegin p).1.tracking = p.tracking := by
  unfold takeCleanBegin
  repeat' split
  all_goals simp

theorem takeCleanOpen_tracking : (takeCleanOpen p).1.tracking = p.tracking := by
  unfold takeCleanOpen; split
  · rfl
  · exact forFitted_view Part.tracking _ Part.openCleanAt_tracking _

theorem takeCleanClose_tracking : (takeCleanClose p).1.tracking = p.tracking := by
  unfold takeCleanClose; split <;> simp [Part.setClean_tracking]

theorem takeCleanEnd_tracking : (takeCleanEnd p).1.tracking = p.tracking := by
  unfold takeCleanEnd; split <;> simp [Part.setClean_tracking]

@[simp] theorem Part.recipeChanged_tracking : p.recipeChanged.tracking = p.tracking := by simp [Part.recipeChanged]

theorem takeSelectRecipe_tracking (slot : Nat) : (takeSelectRecipe slot p).1.tracking = p.tracking := by
  unfold takeSelectRecipe
  repeat' split
  all_goals simp [Part.control_tracking]

theorem takeWriteRecipe_tracking (slot : Nat) (f : RecipeFields) : (takeWriteRecipe slot f p).1.tracking = p.tracking := by
  unfold takeWriteRecipe; split
  · dsimp only; split
    · rfl
    · split <;> simp [Part.setRecipe_tracking]
  · rfl

theorem takeAdjustRecipe_tracking (f : AdjustFields) : (takeAdjustRecipe f p).1.tracking = p.tracking := by
  unfold takeAdjustRecipe; split
  · dsimp only; split
    · rfl
    · split
      · rfl
      · split <;> simp [Part.setRecipe_tracking]
  · rfl

theorem takeReadRecipe_tracking (slot : Nat) : (takeReadRecipe slot p).1.tracking = p.tracking := by
  unfold takeReadRecipe; split <;> rfl

@[simp] theorem Part.writeHeadCal_tracking (h : HeadNo) (f : HeadFields) : (p.writeHeadCal h f).tracking = p.tracking := by
  unfold Part.writeHeadCal; dsimp only; split <;> simp

@[simp] theorem Part.writeHeadTrim_tracking (h : HeadNo) (t : Option Int) :
    (p.writeHeadTrim h t).tracking = p.tracking := by
  unfold Part.writeHeadTrim; split <;> simp

@[simp] theorem Part.writeHeadTimed_tracking (h : HeadNo) (v : Option Bool) :
    (p.writeHeadTimed h v).tracking = p.tracking := by
  unfold Part.writeHeadTimed; split
  · rfl
  · dsimp only; split <;> simp

@[simp] theorem Part.leaveService_tracking (h : HeadNo) : (p.leaveService h).tracking = p.tracking := by
  unfold Part.leaveService; dsimp only; split <;> simp

@[simp] theorem Part.enterService_tracking (h : HeadNo) : (p.enterService h).tracking = p.tracking := by
  unfold Part.enterService; dsimp only; split <;> simp

@[simp] theorem Part.writeHeadService_tracking (h : HeadNo) (v : Option Bool) :
    (p.writeHeadService h v).tracking = p.tracking := by
  unfold Part.writeHeadService; split <;> simp

theorem takeWriteHead_tracking (head : Nat) (f : HeadFields) : (takeWriteHead head f p).1.tracking = p.tracking := by
  unfold takeWriteHead; split
  · rfl
  · split <;> simp [Part.writeHead]

theorem takeReadHead_tracking (head : Nat) : (takeReadHead head p).1.tracking = p.tracking := by
  unfold takeReadHead; split <;> rfl

theorem takeRestoreHead_tracking (head : Nat) : (takeRestoreHead head p).1.tracking = p.tracking := by
  unfold takeRestoreHead; split
  · rfl
  · split
    · rfl
    · split <;> simp

theorem takeClearFaults_tracking (head : Nat) : (takeClearFaults head p).1.tracking = p.tracking := by
  unfold takeClearFaults; split
  · exact forFitted_view Part.tracking _ (fun h q => by simp) p
  · split <;> simp

theorem takeClearTotals_tracking (head : Nat) : (takeClearTotals head p).1.tracking = p.tracking := by
  unfold takeClearTotals; split
  · exact forEach_view Part.tracking _ (fun h q => by simp) _ p
  · split <;> simp

theorem takeTestCoils_tracking : (takeTestCoils p).1.tracking = p.tracking := by
  unfold takeTestCoils; split
  · rfl
  · split
    · rfl
    · exact (Part.checkTestCoils_tracking _).trans (forFitted_view Part.tracking _ Part.markHead_tracking _)

theorem takeCalDose_tracking (head pCal pFine : Nat) : (takeCalDose head pCal pFine p).1.tracking = p.tracking := by
  unfold takeCalDose; split
  · rfl
  · split
    · rfl
    · repeat' split
      all_goals simp

theorem takeStopCal_tracking : (takeStopCal p).1.tracking = p.tracking := by unfold takeStopCal; split <;> simp

theorem takeSave_tracking : (takeSave p).1.tracking = p.tracking := by
  unfold takeSave
  repeat' split
  all_goals rfl

theorem takeMeasurement_tracking (number volume : Nat) : (takeMeasurement number volume p).1.tracking = p.tracking := by
  unfold takeMeasurement; split
  · rfl
  · split
    · rfl
    · dsimp only; rw [Part.track_tracking]; split <;> simp

@[simp] theorem Part.watchBowl_tracking (pressure : Nat) : (p.watchBowl pressure).tracking = p.tracking := by
  unfold Part.watchBowl; split
  · rfl
  · dsimp only; split <;> split <;> rfl

theorem takeSupplyData_tracking (t : Int) (c q v : Nat) : (takeSupplyData t c q v p).1.tracking = p.tracking :=
  (Part.watchBowl_tracking _ _).trans rfl

theorem takeRestart_keeps_trackerInRange {p : Part} (hp : p.TrackerInRange) : (takeRestart p).1.TrackerInRange := by
  unfold takeRestart; split
  · exact hp
  · split
    · exact hp
    · exact Part.trackerInRange_of_tracking (Part.startUp_tracking _) (Part.clearRun_keeps_trackerInRange hp)

theorem takeWriteMachine_keeps_trackerInRange {p : Part} (hp : p.TrackerInRange) (f : MachineFields) :
    (takeWriteMachine f p).1.TrackerInRange := by
  unfold takeWriteMachine; split
  · exact hp
  · split
    · exact hp
    · next new valid => exact Part.writeMachine_keeps_trackerInRange hp (validMachine_of_machineOfFields valid)

theorem takeSetDiagnostics_keeps_trackerInRange {p : Part} (hp : p.TrackerInRange) (f : DiagFields) :
    (takeSetDiagnostics f p).1.TrackerInRange := by
  unfold takeSetDiagnostics; split
  · exact hp
  · next fields =>
    dsimp only; split
    · exact hp
    · exact Part.trackerInRange_of_tracking (Part.applyDiag_tracking _ _)
        (Part.setDiag_keeps_trackerInRange hp (by simpa using fields))

end requests

/-- A request that its owner or the Link Interface answers keeps what the owner keeps. -/
theorem Part.serve_keeps_trackerInRange {p : Part} (hp : p.TrackerInRange) {port : Port} {kind : Nat}
    {owner : Part → Part × Answer} (keeps : (owner p).1.TrackerInRange) : (p.serve port kind owner).TrackerInRange := by
  unfold Part.serve; split
  · exact Part.trackerInRange_of_tracking (Part.reply_tracking _ _ _ _) hp
  · exact Part.trackerInRange_of_tracking (Part.reply_tracking _ _ _ _) keeps

theorem Part.serve_of_tracking {p : Part} (hp : p.TrackerInRange) {port : Port} {kind : Nat}
    {owner : Part → Part × Answer} (view : (owner p).1.tracking = p.tracking) :
    (p.serve port kind owner).TrackerInRange :=
  Part.serve_keeps_trackerInRange hp (Part.trackerInRange_of_tracking view hp)

theorem Part.serveCommand_keeps_trackerInRange {p : Part} (hp : p.TrackerInRange) (c : Instr) :
    (p.serveCommand c).TrackerInRange := by
  cases c with
  | restart => exact Part.serve_keeps_trackerInRange hp (takeRestart_keeps_trackerInRange hp)
  | writeMachine m => exact Part.serve_keeps_trackerInRange hp (takeWriteMachine_keeps_trackerInRange hp m)
  | setDiagnostics f => exact Part.serve_keeps_trackerInRange hp (takeSetDiagnostics_keeps_trackerInRange hp f)
  | readStatus | operationStatus | readMachine => exact Part.serve_of_tracking hp rfl
  | start => exact Part.serve_of_tracking hp (takeStart_tracking p)
  | hold => exact Part.serve_of_tracking hp (takeHold_tracking p)
  | resume => exact Part.serve_of_tracking hp (takeResume_tracking p)
  | stop => exact Part.serve_of_tracking hp (takeStop_tracking p)
  | enterSafe => exact Part.serve_of_tracking hp (Part.raiseSafe_tracking p _)
  | recover => exact Part.serve_of_tracking hp (takeRecover_tracking p)
  | cleanBegin => exact Part.serve_of_tracking hp (takeCleanBegin_tracking p)
  | cleanOpen => exact Part.serve_of_tracking hp (takeCleanOpen_tracking p)
  | cleanClose => exact Part.serve_of_tracking hp (takeCleanClose_tracking p)
  | cleanEnd => exact Part.serve_of_tracking hp (takeCleanEnd_tracking p)
  | selectRecipe slot => exact Part.serve_of_tracking hp (takeSelectRecipe_tracking p slot)
  | writeRecipe slot r => exact Part.serve_of_tracking hp (takeWriteRecipe_tracking p slot r)
  | adjustRecipe f => exact Part.serve_of_tracking hp (takeAdjustRecipe_tracking p f)
  | readRecipe slot => exact Part.serve_of_tracking hp (takeReadRecipe_tracking p slot)
  | writeHead h f => exact Part.serve_of_tracking hp (takeWriteHead_tracking p h f)
  | readHead h => exact Part.serve_of_tracking hp (takeReadHead_tracking p h)
  | restoreHead h => exact Part.serve_of_tracking hp (takeRestoreHead_tracking p h)
  | clearFaults h => exact Part.serve_of_tracking hp (takeClearFaults_tracking p h)
  | clearTotals h => exact Part.serve_of_tracking hp (takeClearTotals_tracking p h)
  | testCoils => exact Part.serve_of_tracking hp (takeTestCoils_tracking p)
  | calDose h n m => exact Part.serve_of_tracking hp (takeCalDose_tracking p h n m)
  | stopCal => exact Part.serve_of_tracking hp (takeStopCal_tracking p)
  | save => exact Part.serve_of_tracking hp (takeSave_tracking p)
  | measurement n m => exact Part.serve_of_tracking hp (takeMeasurement_tracking p n m)
  | supplyData t c q v => exact Part.serve_of_tracking hp (takeSupplyData_tracking p t c q v)
  | _ => exact hp

/-! ### The wire -/

theorem Part.arrive_keeps_trackerInRange {p : Part} (hp : p.TrackerInRange) {port : Port} {frame : Byte × List Byte}
    {take : Part → Part} (keeps : ∀ q : Part, q.TrackerInRange → (take q).TrackerInRange) :
    (p.arrive port frame take).TrackerInRange := by
  have passed := Part.trackerInRange_of_tracking (Part.crcPassed_tracking p port) hp
  rcases Part.arrive_cases p port frame take with ⟨-, e⟩ | ⟨-, -, e⟩ | ⟨-, e⟩ <;> rw [e]
  · exact passed
  · exact Part.trackerInRange_of_tracking (Part.setPort_tracking _ _ _) passed
  · exact keeps _ passed

theorem Part.takeFrame_keeps_trackerInRange {p : Part} (hp : p.TrackerInRange) (port : Port) (kind : Byte)
    (payload : List Byte) : (p.takeFrame port kind payload).TrackerInRange := by
  unfold Part.takeFrame; split
  · exact Part.trackerInRange_of_tracking (Part.enqueue_tracking _ _ _) hp
  · exact Part.trackerInRange_of_tracking (Part.reply_tracking _ _ _ _) hp
  · exact Part.serveCommand_keeps_trackerInRange hp _

@[simp] theorem Part.dropFrame_tracking (p : Part) (port : Port) : (p.dropFrame port).tracking = p.tracking := rfl
@[simp] theorem Part.setRx_tracking (p : Part) (port : Port) (rx : Receiver) : (p.setRx port rx).tracking = p.tracking := rfl

theorem Part.frameByte_keeps_trackerInRange {p : Part} (hp : p.TrackerInRange) (port : Port) (b : Byte) :
    (p.frameByte port b).TrackerInRange := by
  have dropped := Part.trackerInRange_of_tracking (Part.dropFrame_tracking p port) hp
  have moved := fun rx => Part.trackerInRange_of_tracking (Part.setRx_tracking p port rx) hp
  unfold Part.frameByte; split
  · exact hp
  · exact moved _
  · split
    · exact moved _
    · split
      · exact moved _
      · exact dropped
  · split <;> exact moved _
  · exact moved _
  · dsimp only; split
    · exact Part.arrive_keeps_trackerInRange dropped fun q hq => Part.takeFrame_keeps_trackerInRange hq _ _ _
    · exact dropped

@[simp] theorem Part.outlast_tracking (p : Part) (port : Port) : (p.outlast port).tracking = p.tracking := by
  unfold Part.outlast; split <;> rfl

theorem byteIn_keeps_trackerInRange {p : Part} (hp : p.TrackerInRange) (port : Port) (b : Byte) (byteError : Bool) :
    (byteIn port b byteError p).TrackerInRange := by
  have outlasted := Part.trackerInRange_of_tracking (Part.outlast_tracking p port) hp
  unfold byteIn; split
  · exact hp
  · dsimp only; split
    · split
      · exact Part.trackerInRange_of_tracking (Part.setPort_tracking _ _ _) outlasted
      · exact outlasted
    · split
      · exact Part.trackerInRange_of_tracking (Part.dropFrame_tracking _ _) outlasted
      · exact Part.frameByte_keeps_trackerInRange outlasted port b

theorem frameSentEnd_keeps_trackerInRange {p : Part} (hp : p.TrackerInRange) (port : Port) :
    (frameSentEnd port p).TrackerInRange := by
  have set := fun s => Part.trackerInRange_of_tracking (Part.setPort_tracking p port s) hp
  unfold frameSentEnd; split
  · exact hp
  · dsimp only; split
    · split
      · exact set _
      · exact Part.takeFrame_keeps_trackerInRange (set _) _ _ _
    · exact set _

/-! ### The commands that are no requests -/

section arrivals

variable (p : Part)

theorem speedSample_tracking : (speedSample p).tracking = p.tracking := by unfold speedSample; split <;> rfl

theorem standstillEnd_tracking : (standstillEnd p).tracking = p.tracking := Part.atExpiry_tracking p _ fun _ => rfl

theorem moduleReport_tracking (m : ModuleNo) : (moduleReport m p).tracking = p.tracking := by
  unfold moduleReport; split <;> simp

theorem Part.modules_tracking (ms : Vector ModuleState 8) : { p with modules := ms }.tracking = p.tracking := rfl

theorem moduleSilence_tracking (m : ModuleNo) : (moduleSilence m p).tracking = p.tracking := by
  unfold moduleSilence; split
  · exact Part.atExpiry_tracking p _ fun q => by simp [Part.modules_tracking]
  · rfl

theorem holdLimitEnd_tracking : (holdLimitEnd p).tracking = p.tracking :=
  Part.atExpiry_tracking p _ fun q => by simp [Part.setHoldTimer_tracking]

theorem lineSilenceEnd_tracking : (lineSilenceEnd p).tracking = p.tracking := by
  refine Part.atExpiry_tracking p _ fun q => ?_
  dsimp only; split
  · exact (Part.raiseSafe_tracking _ _).trans rfl
  · rfl

theorem supplyExpiry_tracking : (supplyExpiry p).tracking = p.tracking := Part.atExpiry_tracking p _ fun _ => rfl
theorem bowlExpiry_tracking : (bowlExpiry p).tracking = p.tracking := Part.atExpiry_tracking p _ fun _ => rfl

theorem demandEnd_tracking : (demandEnd p).tracking = p.tracking := by
  unfold demandEnd; split
  · rfl
  · exact Part.tracking_setHeads p _ fun h => by simp [Part.head]

theorem calSilenceEnd_tracking : (calSilenceEnd p).tracking = p.tracking := by
  unfold calSilenceEnd; split
  · exact Part.atExpiry_tracking p _ fun q => by simp
  · rfl

theorem calTimeoutEnd_tracking : (calTimeoutEnd p).tracking = p.tracking := by
  unfold calTimeoutEnd; split
  · exact Part.atExpiry_tracking p _ fun q => by simp
  · rfl

theorem calSettleEnd_tracking : (calSettleEnd p).tracking = p.tracking := by
  unfold calSettleEnd; split
  · exact Part.atExpiry_tracking p _ fun q => by simp
  · rfl

theorem saveEnd_tracking (fault : Option SaveFault) : (saveEnd fault p).tracking = p.tracking := by
  unfold saveEnd; split
  · exact (Part.finish_tracking _ _).trans rfl
  · exact (Part.finish_tracking _ _).trans rfl
  · rfl

theorem frameTimerEnd_tracking (port : Port) : (frameTimerEnd port p).tracking = p.tracking :=
  Part.atExpiry_tracking p _ fun q => by simp

end arrivals

/-- A command that is a request stands for its frame, which reaches the owner that `serveCommand` names (log entry 3). -/
theorem exec_of_encodeRequest {c : Instr} (request : (encodeRequest c).isSome = true) (s : State) :
    ∃ port frame, exec c s = .next { s with part :=
      if s.part.phase = .inReset then s.part else s.part.arrive port frame (Part.serveCommand c) } := by
  cases c <;> cases request <;> exact ⟨_, _, rfl⟩

/-- A command that is no request keeps the Tracker's invariant. -/
theorem exec_arrival_keeps_trackerInRange {s : State} (hp : s.part.TrackerInRange) {c : Instr}
    (arrival : (encodeRequest c).isSome = false) :
    ∃ q : Part, exec c s = .next { s with part := q } ∧ q.TrackerInRange := by
  have same : ∀ {q : Part}, q.tracking = s.part.tracking → q.TrackerInRange :=
    fun view => Part.trackerInRange_of_tracking view hp
  cases c with
  | powerOn | resetInput => exact ⟨_, rfl, Part.fullReset_trackerInRange _⟩
  | brownout micros => exact ⟨_, rfl, brownout_keeps_trackerInRange hp micros⟩
  | fullResetEnd => exact ⟨_, rfl, fullResetEnd_keeps_trackerInRange hp⟩
  | loadCompletion acknowledged => exact ⟨_, rfl, loadEnd_keeps_trackerInRange hp acknowledged⟩
  | encoderStep a b infeed => exact ⟨_, rfl, Part.encoderEdge_keeps_trackerInRange hp a b infeed⟩
  | zeroMarkArrival infeed => exact ⟨_, rfl, Part.zeroMark_keeps_trackerInRange hp infeed⟩
  | speedSample => exact ⟨_, rfl, same (speedSample_tracking _)⟩
  | standstillExpiry => exact ⟨_, rfl, same (standstillEnd_tracking _)⟩
  | pressuriseExpiry h => exact ⟨_, rfl, same (Part.phaseExpiry_tracking h _ _ (Part.pressuriseEnd_tracking h))⟩
  | settleExpiry h => exact ⟨_, rfl, same (Part.phaseExpiry_tracking h _ _ (Part.settleEnd_tracking h))⟩
  | reliefExpiry h => exact ⟨_, rfl, same (Part.phaseExpiry_tracking h _ _ (Part.reliefEnd_tracking h))⟩
  | ventExpiry h => exact ⟨_, rfl, same (Part.phaseExpiry_tracking h _ _ (Part.ventEnd_tracking h))⟩
  | coilTestExpiry h => exact ⟨_, rfl, same (Part.phaseExpiry_tracking h _ _ (Part.testExpiry_tracking h))⟩
  | coilTestReport h v r => exact ⟨_, rfl, same (Part.busArrival_tracking h _ fun q => by split <;> simp)⟩
  | flowmeterPulse h => exact ⟨_, rfl, same (Part.busArrival_tracking h _ (Part.pulse_tracking h))⟩
  | timedOpenExpiry h => exact ⟨_, rfl, same (Part.openExpiry_tracking h _)⟩
  | meterSilenceExpiry h => exact ⟨_, rfl, same (Part.silenceExpiry_tracking h _)⟩
  | sealDrop h => exact ⟨_, rfl, same (Part.busArrival_tracking h _ (Part.sealDropAt_tracking h))⟩
  | sealInputRise h => exact ⟨_, rfl, same (Part.busArrival_tracking h _ fun _ => rfl)⟩
  | coilReport h v c => exact ⟨_, rfl, same (Part.busArrival_tracking h _ fun q => by simp)⟩
  | moduleStatusReport m => exact ⟨_, rfl, same (moduleReport_tracking _ m)⟩
  | moduleSilent m => exact ⟨_, rfl, same (moduleSilence_tracking _ m)⟩
  | holdLimitExpiry => exact ⟨_, rfl, same (holdLimitEnd_tracking _)⟩
  | lineSilenceExpiry => exact ⟨_, rfl, same (lineSilenceEnd_tracking _)⟩
  | supplySilenceExpiry => exact ⟨_, rfl, same (supplyExpiry_tracking _)⟩
  | bowlDeterminationExpiry => exact ⟨_, rfl, same (bowlExpiry_tracking _)⟩
  | demandPeriodEnd => exact ⟨_, rfl, same (demandEnd_tracking _)⟩
  | calSilenceExpiry => exact ⟨_, rfl, same (calSilenceEnd_tracking _)⟩
  | calTimeoutExpiry => exact ⟨_, rfl, same (calTimeoutEnd_tracking _)⟩
  | calSettleExpiry => exact ⟨_, rfl, same (calSettleEnd_tracking _)⟩
  | saveCompletion fault => exact ⟨_, rfl, same (saveEnd_tracking _ fault)⟩
  | byteArrival port b byteError => exact ⟨_, rfl, byteIn_keeps_trackerInRange hp port b byteError⟩
  | frameTimerExpiry port => exact ⟨_, rfl, same (frameTimerEnd_tracking _ port)⟩
  | frameSent port => exact ⟨_, rfl, frameSentEnd_keeps_trackerInRange hp port⟩
  | _ => cases arrival

/-- Every command keeps the Tracker's invariant. -/
theorem exec_keeps_trackerInRange {s t : State} (hp : s.part.TrackerInRange) (c : Instr) (run : exec c s = .next t) :
    t.part.TrackerInRange := by
  cases request : (encodeRequest c).isSome with
  | true =>
    obtain ⟨port, frame, e⟩ := exec_of_encodeRequest request s
    rw [e] at run
    cases run
    dsimp only; split
    · exact hp
    · exact Part.arrive_keeps_trackerInRange hp fun q hq => Part.serveCommand_keeps_trackerInRange hq c
  | false =>
    obtain ⟨q, e, kept⟩ := exec_arrival_keeps_trackerInRange hp request
    rw [e] at run
    cases run
    exact kept

/-- Settles O59: the invariant holds after each command, and the millisecond that passes on an empty queue writes nothing
it reads. -/
theorem stepKeepsTheTrackerInRange : Obligations.StepKeepsTheTrackerInRange := by
  intro s t hp run
  unfold step at run
  split at run
  · cases run
    exact hp
  · next c rest _ => exact exec_keeps_trackerInRange (s := { s with pending := rest }) hp c run

end Sys2Proof.Machine
end

section
/-! The Carousel Tracker's statements: steps, the examination of the heads at one increment, the zero mark, speed and
standstill, and the invariants at reset. -/

namespace Sys2Proof.Machine

open Sys2Proof

/-! ### The examination of the heads at one increment (R12, R13) -/

theorem forEach_of_idle {f : HeadNo → Part → Part} {l : List HeadNo} {p : Part} (idle : ∀ g ∈ l, f g p = p) :
    forEach l f p = p := by
  induction l with
  | nil => rfl
  | cons a l ih =>
    change forEach l f (f a p) = p
    rw [idle a List.mem_cons_self]
    exact ih fun g hg => idle g (List.mem_cons_of_mem a hg)

/-- A pass over the heads in which one head alone has something to do. -/
theorem forEach_of_one {f : HeadNo → Part → Part} {h : HeadNo} {l : List HeadNo} {p : Part} (nodup : l.Nodup)
    (mem : h ∈ l) (before : ∀ g ∈ l, g ≠ h → f g p = p) (after : ∀ g ∈ l, g ≠ h → f g (f h p) = f h p) :
    forEach l f p = f h p := by
  induction l with
  | nil => cases mem
  | cons a l ih =>
    obtain ⟨notIn, nodup⟩ := List.nodup_cons.mp nodup
    by_cases same : a = h
    · subst same
      exact forEach_of_idle fun g hg => after g (List.mem_cons_of_mem a hg) (ne_of_mem_of_not_mem hg notIn)
    · change forEach l f (f a p) = f h p
      rw [before a List.mem_cons_self same]
      exact ih nodup ((List.mem_cons.mp mem).resolve_left (Ne.symm same))
        (fun g hg => before g (List.mem_cons_of_mem a hg)) fun g hg => after g (List.mem_cons_of_mem a hg)

theorem Part.mem_crossingOrder (p : Part) (h : HeadNo) : h ∈ p.crossingOrder ↔ p.fitted h = true := by
  simp only [Part.crossingOrder, List.mem_filter, List.mem_map, and_iff_right_iff_imp]
  exact fun _ => ⟨h - p.firstHead, List.mem_finRange _, add_sub_cancel _ _⟩

theorem Part.nodup_crossingOrder (p : Part) : p.crossingOrder.Nodup :=
  ((List.nodup_finRange 64).map (add_right_injective p.firstHead)).filter _

/-- A fitted head whose furthest angle is that of the boundary its pointer names. -/
def Part.isDue (p : Part) (h : HeadNo) (x : Boundary) : Prop := p.fitted h = true ∧ p.atBoundary h x

/-- With no pointers, or no head at its boundary, nothing is crossed. -/
theorem Part.examineAll_of_none {p : Part} (none : p.pointersLive = false ∨ ∀ h x, ¬ p.isDue h x) :
    p.examineAll = p := by
  unfold Part.examineAll
  split
  · next live =>
    have idle := none.resolve_left (by simp [live])
    refine forEach_of_idle fun g hg => ?_
    have rest := Part.crossIfDue_of_not_atBoundary fun x due => idle g x ⟨(p.mem_crossingOrder g).mp hg, due⟩
    rw [Part.examine, rest, rest]
  · rfl

theorem Part.crossTo_machine (h : HeadNo) (x : Boundary) (p : Part) : (p.crossTo h x).machine = p.machine :=
  (Part.modHead_machine h _ _).trans (Part.machine_of_tracking (Part.crossing_tracking h p x))

theorem Part.crossTo_furthestAngle (h : HeadNo) (x : Boundary) (p : Part) (g : HeadNo) :
    (p.crossTo h x).furthestAngle g = p.furthestAngle g :=
  Part.furthestAngle_of_tracking (Part.crossing_tracking h p x) g

theorem Part.crossTo_pointer (h : HeadNo) (x : Boundary) (p : Part) (g : HeadNo) :
    ((p.crossTo h x).head g).pointer = if g = h then some x.next else (p.head g).pointer := by
  rw [Part.crossTo, Part.head_modHead]
  split
  · rfl
  · exact Part.pointer_of_tracking (Part.crossing_tracking h p x) g

/-- The crossing of one head leaves every other head where it stood. -/
theorem Part.crossTo_atBoundary_other {h g : HeadNo} (other : g ≠ h) (x y : Boundary) (p : Part) :
    (p.crossTo h x).atBoundary g y ↔ p.atBoundary g y := by
  simp only [Part.atBoundary, Part.crossTo_pointer, Part.crossTo_furthestAngle, Part.crossTo_machine, if_neg other]

/-- A head that has crossed a boundary is at the next one exactly when the two share their angle. -/
theorem Part.crossTo_atBoundary_self {p : Part} {h : HeadNo} {x : Boundary} (due : p.atBoundary h x) (y : Boundary) :
    (p.crossTo h x).atBoundary h y ↔ y = x.next ∧ boundaryAngle p.machine x.next = boundaryAngle p.machine x := by
  simp only [Part.atBoundary, Part.crossTo_pointer, Part.crossTo_furthestAngle, Part.crossTo_machine, if_true, due.2,
    Option.some.injEq]
  constructor
  · rintro ⟨rfl, angle⟩; exact ⟨rfl, angle.symm⟩
  · rintro ⟨rfl, angle⟩; exact ⟨rfl, angle.symm⟩

theorem Part.crossIfDue_atBoundary_other {h g : HeadNo} (other : g ≠ h) (y : Boundary) (p : Part) :
    (p.crossIfDue h).atBoundary g y ↔ p.atBoundary g y := by
  by_cases due : ∃ x, p.atBoundary h x
  · obtain ⟨x, due⟩ := due
    rw [Part.crossIfDue_of_atBoundary due, Part.crossTo_atBoundary_other other]
  · rw [Part.crossIfDue_of_not_atBoundary (not_exists.mp due)]

/-- With one head alone at its boundary, it crosses, and is then examined once more. -/
theorem Part.examineAll_of_one {p : Part} {h : HeadNo} {x : Boundary} (live : p.pointersLive = true)
    (due : p.isDue h x) (alone : ∀ g y, g ≠ h → ¬ p.isDue g y) : p.examineAll = (p.crossTo h x).crossIfDue h := by
  have first : Part.examine h p = (p.crossTo h x).crossIfDue h := by
    rw [Part.examine, Part.crossIfDue_of_atBoundary due.2]
  have idle : ∀ g ∈ p.crossingOrder, g ≠ h → ∀ y, ¬ p.atBoundary g y :=
    fun g hg other y at' => alone g y other ⟨(p.mem_crossingOrder g).mp hg, at'⟩
  rw [Part.examineAll, if_pos live, ← first]
  refine forEach_of_one p.nodup_crossingOrder ((p.mem_crossingOrder h).mpr due.1) (fun g hg other => ?_)
    fun g hg other => ?_
  · have rest := Part.crossIfDue_of_not_atBoundary (idle g hg other)
    rw [Part.examine, rest, rest]
  · have rest : Part.crossIfDue g (Part.examine h p) = Part.examine h p :=
      Part.crossIfDue_of_not_atBoundary fun y => by
        rw [Part.examine, Part.crossIfDue_atBoundary_other other, Part.crossIfDue_atBoundary_other other]
        exact idle g hg other y
    rw [Part.examine, rest, rest]

/-- The next boundary lies at another angle: one crossing. -/
theorem Part.examineAll_of_one_apart {p : Part} {h : HeadNo} {x : Boundary} (live : p.pointersLive = true)
    (due : p.isDue h x) (alone : ∀ g y, g ≠ h → ¬ p.isDue g y)
    (apart : boundaryAngle p.machine x.next ≠ boundaryAngle p.machine x) : p.examineAll = p.crossTo h x := by
  rw [Part.examineAll_of_one live due alone]
  exact Part.crossIfDue_of_not_atBoundary fun y at' => apart ((Part.crossTo_atBoundary_self due.2 y).mp at').2

/-- The next boundary lies at the same angle: both are crossed (R13). -/
theorem Part.examineAll_of_one_shared {p : Part} {h : HeadNo} {x : Boundary} (live : p.pointersLive = true)
    (due : p.isDue h x) (alone : ∀ g y, g ≠ h → ¬ p.isDue g y)
    (shared : boundaryAngle p.machine x.next = boundaryAngle p.machine x) :
    p.examineAll = (p.crossTo h x).crossTo h x.next := by
  rw [Part.examineAll_of_one live due alone]
  exact Part.crossIfDue_of_atBoundary ((Part.crossTo_atBoundary_self due.2 _).mpr ⟨rfl, shared⟩)

/-! ### Edges of the encoder (R3 to R8) -/

theorem Part.abortCal_of_noCal {p : Part} (noCal : p.slot.isCal = false) (c : AbortCause) : p.abortCal c = p := by
  unfold Part.abortCal
  split
  · next slot => rw [slot] at noCal; cases noCal
  · rfl

/-- The abort of a CAL DOSE that is pending: its valves close and its result is in the slot. -/
theorem Part.abortCal_of_pending {p : Part} {k : CalRecord} (slot : p.slot = .pendingCal k) (c : AbortCause) :
    p.abortCal c = { p.modHead k.head fun x => { x with entry := x.entry.closeFill } with
      slot := .finished (.calAborted c k.counted k.after (p.now - k.start)) } := by
  simp only [Part.abortCal, slot, Part.endCal]
  exact if_pos (by simp [Part.modEntry, slot, Slot.isPending, Slot.kind, OpResult.kind])

/-- What a step of a direction writes before position and lag when no CAL DOSE ends. -/
def Carousel.noted (d : Direction) (net : Int) (now : Nat) (c : Carousel) : Carousel :=
  { c with direction := some d, net := net, standstill := false, standTimer := .running (now + 100) }

theorem Part.noteStep_of_noCal {p : Part} (noCal : p.carousel.standstill = false ∨ p.slot.isCal = false) :
    p.noteStep .forward = p.modCarousel (fun c => c.noted .forward (c.net + 1) p.now) ∧
    p.noteStep .backward = p.modCarousel (fun c => c.noted .backward (c.net - 1) p.now) := by
  constructor
  all_goals
    unfold Part.noteStep
    dsimp only
    split
    · next still => exact Part.abortCal_of_noCal (p := p.modCarousel _) (noCal.resolve_left (by simp [still])) _
    · rfl

theorem Part.encoderEdge_of_none {p : Part} {a b : Bool} (infeed : Bool)
    (none : p.phase ≠ .running ∨ quadrature p.pins.chanA p.pins.chanB a b = none) :
    p.encoderEdge a b infeed = { p with pins := { p.pins with chanA := a, chanB := b, infeed := infeed } } := by
  unfold Part.encoderEdge
  dsimp only
  split
  · next run => rw [none.resolve_left (not_not.mpr run)]
  · rfl

theorem Part.encoderEdge_of_step {p : Part} {a b : Bool} {d : Direction} (infeed : Bool) (run : p.phase = .running)
    (edge : quadrature p.pins.chanA p.pins.chanB a b = some d) : p.encoderEdge a b infeed =
      { p with pins := { p.pins with chanA := a, chanB := b, infeed := infeed } }.takeStep d := by
  simp [Part.encoderEdge, run, edge]

/-- A step out of standstill with a CAL DOSE is that of the part in which the dose has ended with MOTION. -/
theorem Part.noteStep_of_cal {p : Part} {k : CalRecord} (still : p.carousel.standstill = true)
    (slot : p.slot = .pendingCal k) (d : Direction) : p.noteStep d = Part.noteStep d
      { p.modHead k.head fun x => { x with entry := x.entry.closeFill } with
        slot := .finished (.calAborted .motion k.counted k.after (p.now - k.start)) } := by
  unfold Part.noteStep
  dsimp only
  rw [if_pos still, if_pos (by exact still), Part.abortCal_of_pending (by exact slot), Part.abortCal_of_noCal rfl]
  rfl

theorem Part.takeStep_of_noteStep {p q : Part} {d : Direction} (same : p.noteStep d = q.noteStep d) :
    p.takeStep d = q.takeStep d := by
  cases d <;> simp only [Part.takeStep, same]

/-! ### SAFE entry at the State Controller -/

theorem Part.control_of_offWork {p q : Part} (e : p.offWork = q.offWork) : p.control = q.control := by
  have := congrArg Part.control e; exact this

/-- The machine fault record of a SAFE entry (R157). -/
theorem Part.enterSafe_control (p : Part) (c : Cause) : (p.enterSafe c).control =
    { p.control with
      prod := .safe, firstCause := some c, causes := addCause 0 c, holdTimer := .stopped, cleanOpened := false } := by
  have heads : ∀ q : Part, (forFitted Part.headSafe q).offWork = q.offWork :=
    fun q => Part.offWork_of_offHeads (forFitted_view _ _ (fun h r => by simp) q)
  have clean : ∀ q : Part, q.closeCleanValves.offWork = q.offWork := fun q => Part.offWork_of_offHeads (by simp)
  unfold Part.enterSafe
  dsimp only
  rw [Part.control_of_offWork (Part.abortCal_offWork _ _), Part.control_of_offWork (Part.removeAllMarks_offWork _)]
  split
  · rw [Part.control_of_offWork (clean _), Part.control_of_offWork (heads _)]
  · rw [Part.control_of_offWork (heads _)]

theorem Part.raiseSafe_carousel (p : Part) (c : Cause) : (p.raiseSafe c).carousel = p.carousel :=
  Part.carousel_of_offCycle (Part.raiseSafe_offCycle p c)

/-- The production states from which a SAFE cause enters SAFE (R157). -/
def Prod.entersSafe : Prod → Bool
  | .config | .safe => false
  | .standby | .production | .hold | .stopping | .drain => true

theorem Part.raiseSafe_of_entersSafe {p : Part} (enters : p.control.prod.entersSafe = true) (c : Cause) :
    p.raiseSafe c = p.enterSafe c := by
  unfold Part.raiseSafe
  split
  · next prod => rw [prod] at enters; cases enters
  · next prod => rw [prod] at enters; cases enters
  all_goals rfl

theorem Part.raiseSafe_control {p : Part} (enters : p.control.prod.entersSafe = true) (c : Cause) :
    (p.raiseSafe c).control.prod = .safe ∧ (p.raiseSafe c).control.firstCause = some c ∧
      (p.raiseSafe c).control.causes = addCause 0 c := by
  rw [Part.raiseSafe_of_entersSafe enters, Part.enterSafe_control]
  exact ⟨rfl, rfl, rfl⟩

/-! ### Position and lag (R4, R5, R6) -/

theorem Part.stepForward_of_lag {p : Part} (lag : 0 < p.carousel.lag) : p.stepForward =
    p.modCarousel fun c => { c with position := positionUp p.machine.nInc c.position, lag := c.lag - 1 } :=
  if_pos lag

theorem Part.stepForward_of_noLag {p : Part} (lag : p.carousel.lag = 0) :
    p.stepForward = p.positionForward.examineAll :=
  if_neg (by simp [lag])

theorem Part.stepBackward_below {p : Part} (lag : p.carousel.lag < p.machine.reverseLimit) : p.stepBackward =
    p.modCarousel fun c => { c with position := positionDown p.machine.nInc c.position, lag := c.lag + 1 } := by
  unfold Part.stepBackward
  simp only [Part.modCarousel, if_pos lag]

/-- At the reverse limit the lag stays, and reverse motion is a SAFE cause where the production state bars it. -/
theorem Part.stepBackward_atLimit {p : Part} (lag : p.machine.reverseLimit ≤ p.carousel.lag) : p.stepBackward =
    (fun q => if p.control.prod.barsReverse then q.raiseSafe .reverse else q)
      (p.modCarousel fun c => { c with position := positionDown p.machine.nInc c.position }) := by
  unfold Part.stepBackward
  simp only [Part.modCarousel, if_neg (Nat.not_lt.mpr lag)]

/-- Settles O22: each kind of edge by the edge's reading, and REVERSE by what an entry to SAFE writes. -/
theorem stepsBehindTheFurthestPosition : Obligations.StepsBehindTheFurthestPosition := by
  refine ⟨by decide, ?_⟩
  intro s a b infeed k p c ended pins up down moved step
  have edge : exec (.encoderStep a b infeed) s = .next { s with part := p.encoderEdge a b infeed } := rfl
  refine ⟨fun off => ?_, fun run still slot steps => ?_, fun run noCal => ?_⟩
  · rw [edge, Part.encoderEdge_of_none infeed off]
  · obtain ⟨d, stepD⟩ := Option.ne_none_iff_exists'.mp steps
    have after : exec (.encoderStep a b infeed) { s with part := ended } =
      .next { s with part := ended.encoderEdge a b infeed } := rfl
    have same := Part.takeStep_of_noteStep (Part.noteStep_of_cal (p := { p with pins := pins }) still slot d)
    rw [edge, after, Part.encoderEdge_of_step infeed run stepD, Part.encoderEdge_of_step (p := ended) infeed run stepD]
    exact congrArg (fun q => Host.Outcome.next { s with part := q }) same
  · obtain ⟨forward, backward⟩ := Part.noteStep_of_noCal (p := { p with pins := pins }) noCal
    refine ⟨fun stepD lag => ?_, fun stepD lag => ?_, fun stepD lag prod => ?_, fun stepD lag prod => ?_⟩
    all_goals rw [edge, Part.encoderEdge_of_step infeed run stepD, Part.takeStep]
    · rw [forward, Part.stepForward_of_lag (by exact lag)]
      rfl
    · rw [backward, Part.stepBackward_below (by exact lag)]
      rfl
    · have allowed : p.control.prod.barsReverse = false := by
        simp only [List.mem_cons, List.not_mem_nil, or_false] at prod
        rcases prod with e | e | e | e <;> rw [e] <;> rfl
      rw [backward, Part.stepBackward_atLimit (by exact lag)]
      dsimp only
      rw [if_neg (by simpa using allowed)]
      rfl
    · have barred : p.control.prod.barsReverse = true ∧ p.control.prod.entersSafe = true := by
        simp only [List.mem_cons, List.not_mem_nil, or_false] at prod
        rcases prod with e | e | e <;> rw [e] <;> exact ⟨rfl, rfl⟩
      rw [backward, Part.stepBackward_atLimit (by exact lag)]
      dsimp only
      rw [if_pos (by exact barred.1)]
      exact ⟨_, rfl, Part.raiseSafe_carousel _ _, Part.raiseSafe_control (by exact barred.2) _⟩

/-! ### Forward steps with no lag (R12, R13) -/

/-- Settles O23: the step moves the position, and the examination of the heads at one increment says what is crossed. -/
theorem forwardStepCrossesBoundaries : Obligations.ForwardStepCrossesBoundaries := by
  intro s a b infeed p c q due run step lag noCal
  have edge : exec (.encoderStep a b infeed) s = .next { s with part := q.examineAll } := by
    have forward :=
      (Part.noteStep_of_noCal (p := { p with pins := { p.pins with chanA := a, chanB := b, infeed := infeed } }) noCal).1
    change Host.Outcome.next { s with part := p.encoderEdge a b infeed } = _
    rw [Part.encoderEdge_of_step infeed run step, Part.takeStep, forward, Part.stepForward_of_noLag (by exact lag)]
    rfl
  rw [edge]
  refine ⟨fun none => ?_, fun h x live dueX alone => ⟨fun apart => ?_, fun shared => ?_⟩⟩
  · rw [Part.examineAll_of_none none]
  · rw [Part.examineAll_of_one_apart live dueX alone apart]; rfl
  · rw [Part.examineAll_of_one_shared live dueX alone shared]; rfl

/-! ### Speed and standstill (R7, R8) -/

/-- The speed is the nearest number to half of 25 times the sum, a half away from zero. -/
theorem roundInt_two (n : Int) : (2 * roundInt n 2 - n).natAbs ≤ 1 ∧ n.natAbs ≤ (2 * roundInt n 2).natAbs := by
  unfold roundInt roundNat
  split <;> omega

theorem speedSample_of_running {p : Part} {due : Nat} (timer : p.carousel.sampleTimer = .running due) :
    ∃ history : Vector Int 8, history.toList = p.carousel.history.toList.drop 1 ++ [p.carousel.net] ∧
      speedSample p = { p with
        now := max p.now due
        carousel := { p.carousel with history := history, net := 0, sampleTimer := .running (due + 10) } } := by
  refine ⟨Vector.ofFn fun i => if h : i.val < 7 then p.carousel.history[i.val + 1] else p.carousel.net, ?_, ?_⟩
  · refine List.ext_getElem (by simp) fun i _ _ => ?_
    by_cases h : i < 7
    · simp [h]
    · simp [h, List.getElem_append]
  · simp only [speedSample, timer]; rfl

/-- Settles O25. -/
theorem speedSamplesAndStandstill : Obligations.SpeedSamplesAndStandstill := by
  refine ⟨fun c => roundInt_two _, fun s due => ⟨fun stopped => ?_, fun running => ?_, fun stopped => ?_, fun running => ?_⟩⟩
  · change Host.Outcome.next { s with part := speedSample s.part } = _
    simp only [speedSample, stopped]
  · obtain ⟨history, shifted, e⟩ := speedSample_of_running running
    refine ⟨history, shifted, ?_⟩
    change Host.Outcome.next { s with part := speedSample s.part } = _
    rw [e]
  · change Host.Outcome.next { s with part := standstillEnd s.part } = _
    simp only [standstillEnd, Part.atExpiry, stopped]
  · change Host.Outcome.next { s with part := standstillEnd s.part } = _
    simp only [standstillEnd, Part.atExpiry, running]
    rfl

/-! ### The zero mark (R11, R14 to R17) -/

/-- The boundary a pointer is aimed at is the first beyond the angle, and INFEED when none is (R11). -/
theorem aimAt_first {m : MachineConfig} (ok : sectorOk m = true) (angle : Nat) :
    (aimAt m angle ≠ .infeed → angle < boundaryAngle m (aimAt m angle)) ∧
    ∀ y, angle < boundaryAngle m y → aimAt m angle ≠ .infeed ∧ boundaryAngle m (aimAt m angle) ≤ boundaryAngle m y := by
  simp only [sectorOk, Bool.and_eq_true, decide_eq_true_eq] at ok
  unfold aimAt
  split_ifs
  all_goals
    refine ⟨fun ne => by simp_all [boundaryAngle], fun y beyond => ?_⟩
    cases y <;> simp only [boundaryAngle, ne_eq, reduceCtorEq, not_false_eq_true, not_true_eq_false, true_and,
      false_and] at beyond ⊢ <;> omega

theorem positionUp_iterate {n position : Nat} (h : position < n) : (positionUp n)^[n - position] position = 0 := by
  obtain ⟨d, rfl⟩ : ∃ d, n = position + d + 1 := ⟨n - position - 1, by omega⟩
  rw [show position + d + 1 - position = d + 1 by omega, Function.iterate_succ_apply]
  induction d generalizing position with
  | zero => simp [positionUp]
  | succ d ih =>
    have next := ih (position := position + 1) (by omega)
    rw [show position + 1 + d + 1 = position + (d + 1) + 1 by omega] at next
    rw [Function.iterate_succ_apply]
    have up : positionUp (position + (d + 1) + 1) position = position + 1 := if_neg (by omega)
    rw [up]
    exact next

/-- A correction forward over the rest of the revolution sets the position to 0 and writes nothing else of the Tracker's own
state. -/
theorem correctForward_to_zero {p : Part} (h : p.carousel.position < p.machine.nInc) :
    (correctForward (p.machine.nInc - p.carousel.position) p).carousel = { p.carousel with position := 0 } := by
  rw [correctForward_carousel, positionUp_iterate h]

/-- The check state is set at position 0. -/
theorem Part.setZero_at_zero {p : Part} {c : Carousel} (at0 : p.carousel = { c with position := 0 }) (z : ZeroCheck) :
    p.setZero z = { p with carousel := { c with position := 0, zero := some z } } := by
  simp [Part.setZero, Part.modCarousel, at0]

theorem Part.zeroMark_of_not_taken {p : Part} (infeed : Bool)
    (off : p.phase ≠ .running ∨ p.carousel.direction ≠ some .forward) :
    p.zeroMark infeed = { p with pins := { p.pins with infeed := infeed } } :=
  if_neg fun ⟨run, direction⟩ => off.elim (· run) (· direction)

theorem Part.zeroMark_of_taken {p : Part} (infeed : Bool) (run : p.phase = .running)
    (direction : p.carousel.direction = some .forward) :
    p.zeroMark infeed = { p with pins := { p.pins with infeed := infeed } }.takeZeroMark :=
  if_pos ⟨run, direction⟩

theorem Part.takeZeroMark_first {p : Part} (zero : p.carousel.zero = none) : p.takeZeroMark =
    { p with carousel := { p.carousel with position := 0, zero := some .clear } }.aimPointers := by
  simp only [Part.takeZeroMark, zero]; rfl

theorem Part.takeZeroMark_matched {p : Part} (zero : p.carousel.zero ≠ none) {n : Nat}
    (correction : correctionOf p.machine.nInc p.carousel.position = ⟨n, true⟩) :
    p.takeZeroMark = (p.applyCorrection ⟨n, true⟩).setZero .clear := by
  obtain ⟨z, zero⟩ := Option.ne_none_iff_exists'.mp zero
  simp [Part.takeZeroMark, zero, correction]

theorem Part.takeZeroMark_mismatched {p : Part} {n : Nat}
    (correction : correctionOf p.machine.nInc p.carousel.position = ⟨n, false⟩) :
    (p.carousel.zero = some .clear → p.takeZeroMark = (p.applyCorrection ⟨n, false⟩).setZero .pending) ∧
    (p.carousel.zero = some .pending → p.takeZeroMark = (p.applyCorrection ⟨n, false⟩).raiseSafe .zeroLost) := by
  constructor
  all_goals
    intro zero
    simp [Part.takeZeroMark, zero, correction]

/-! ### Crossings and the production state -/

theorem Part.control_of_offHeads {p q : Part} (e : p.offHeads = q.offHeads) : p.control = q.control :=
  Part.control_of_offWork (Part.offWork_of_offHeads e)

theorem Part.setProd_prod (p : Part) (new : Prod) : (p.setProd new).control.prod = new := by
  unfold Part.setProd
  dsimp only
  split
  · rw [Part.control_of_offHeads (Part.beginMarked_offHeads _)]
  · rfl

theorem Part.ageByCount_control (p : Part) : p.ageByCount.control = p.control := by
  unfold Part.ageByCount Part.ageOldest
  split
  · split <;> rfl
  · rfl

theorem Part.enqueue_control (p : Part) (port : Port) (f : OutFrame) : (p.enqueue port f).control = p.control := by
  have := congrArg Part.control (Part.enqueue_offLinks p port f); exact this

theorem Part.trackDischarge_prod (h : HeadNo) (c : Context) (p : Part) :
    (p.trackDischarge h c).control.prod = p.control.prod := by
  unfold Part.trackDischarge
  dsimp only
  split
  · rfl
  · split
    · simp only [Part.countDischarge, Part.ageByCount_control, Part.enqueue_control]
    · simp only [Part.countDischarge, Part.countUninspected, Part.modRecord, Part.modHead_control, Part.enqueue_control]

theorem Part.trackAdmit_prod (h : HeadNo) (c : Context) (p : Part) :
    (p.trackAdmit h c).control.prod = p.control.prod := by
  unfold Part.trackAdmit Part.ageByNumber
  exact forEach_view (fun q => q.control.prod) Part.countUninspected (fun _ _ => rfl) _ _

/-- The removal of the last context may end STOPPING in STANDBY; it changes the production state in no other way (R156). -/
theorem Part.removeContext_entersSafe {p : Part} (enters : p.control.prod.entersSafe = true) (h : HeadNo) :
    (p.removeContext h).control.prod.entersSafe = true := by
  have same : (p.dischargeRunaway h).control = p.control := Part.control_of_offHeads (by simp)
  unfold Part.removeContext
  dsimp only
  split
  · rw [Part.setProd_prod]; rfl
  · rwa [Part.modHead_control, same]

theorem Part.dischargeHead_entersSafe {p : Part} (enters : p.control.prod.entersSafe = true) (h : HeadNo) :
    (p.dischargeHead h).control.prod.entersSafe = true := by
  have shut : ((p.shutHead h).reliefCheck h).control = p.control := Part.control_of_offHeads (by simp)
  rw [Part.dischargeHead, Part.control_of_offHeads (Part.enterRest_offHeads h _)]
  unfold Part.completeContainer
  dsimp only
  split
  · rwa [shut]
  · next c _ =>
    refine Part.removeContext_entersSafe ?_ h
    rwa [Part.control_of_offHeads (Part.recomputeAdvisory_offHeads _),
      Part.control_of_offHeads (Part.tableOutcome_offHeads h _ c),
      Part.control_of_offHeads (Part.dischargeReports_offHeads h _ c.flags), Part.trackDischarge_prod, shut]

theorem Part.infeedFromRest_prod (h : HeadNo) (p : Part) : (p.infeedFromRest h).control.prod = p.control.prod := by
  have left : (if (p.entry h).state = .testing then p.leaveTest h else p).control = p.control := by
    split
    · exact Part.control_of_offHeads (Part.leaveTest_offHeads h p)
    · rfl
  unfold Part.infeedFromRest
  dsimp only
  generalize (if (p.entry h).state = .testing then p.leaveTest h else p) = q at left
  have goTo : ∀ st, (q.goTo h st).control = q.control := fun st => Part.control_of_offHeads (Part.goTo_offHeads h q st)
  split
  · rw [goTo, left]
  · rw [goTo, left]
  · split
    · rw [Part.admitContainer, Part.modHead_control, Part.trackAdmit_prod, left]
    · rw [goTo, left]

/-- No crossing enters CONFIG or SAFE: a SAFE cause that enters SAFE before it does so after it. -/
theorem Part.crossing_entersSafe {p : Part} (enters : p.control.prod.entersSafe = true) (h : HeadNo) (b : Boundary) :
    (p.crossing h b).control.prod.entersSafe = true := by
  have heads : ∀ {q : Part}, q.offHeads = p.offHeads → q.control.prod.entersSafe = true :=
    fun e => by rwa [Part.control_of_offHeads e]
  cases b with
  | infeed =>
    have motion : (p.abortCalOn h .motion).control.prod.entersSafe = true := by
      rwa [Part.control_of_offWork (Part.abortCalOn_offWork h p .motion)]
    change (p.infeedCrossing h).control.prod.entersSafe = true
    unfold Part.infeedCrossing
    dsimp only
    split
    · exact motion
    · rwa [Part.infeedFromRest_prod]
    · rwa [Part.infeedFromRest_prod]
    · rwa [Part.infeedFromRest_prod]
    · rw [Part.infeedFromRest_prod]; exact Part.dischargeHead_entersSafe motion h
  | press => exact heads (Part.pressuriseCrossing_offHeads h p)
  | fill => exact heads (Part.fillStartCrossing_offHeads h p)
  | fillend => exact heads (Part.fillEndCrossing_offHeads h p)
  | relief => exact heads (Part.reliefCrossing_offHeads h p)
  | dis =>
    change (p.dischargeCrossing h).control.prod.entersSafe = true
    unfold Part.dischargeCrossing
    split
    · exact enters
    · exact enters
    · exact enters
    · split
      · exact enters
      · exact heads (by simp)
    · exact Part.dischargeHead_entersSafe enters h

theorem Part.crossIfDue_entersSafe {p : Part} (enters : p.control.prod.entersSafe = true) (h : HeadNo) :
    (p.crossIfDue h).control.prod.entersSafe = true := by
  unfold Part.crossIfDue
  split
  · exact enters
  · split
    · exact Part.crossing_entersSafe enters h _
    · exact enters

theorem correctForward_entersSafe (n : Nat) {p : Part} (enters : p.control.prod.entersSafe = true) :
    (correctForward n p).control.prod.entersSafe = true := by
  induction n generalizing p with
  | zero => exact enters
  | succ n ih =>
    refine ih ?_
    unfold Part.examineAll
    split
    · exact forEach_keeps (P := fun q => q.control.prod.entersSafe = true) (f := Part.examine)
        (fun h q hq => Part.crossIfDue_entersSafe (Part.crossIfDue_entersSafe hq h) h) _ enters
    · exact enters

theorem Prod.entersSafe_iff (x : Prod) : x.entersSafe = true ↔ x ∉ [Prod.config, .safe] := by cases x <;> decide

/-! ### Corrections by their size (R14, R15) -/

theorem correctionOf_near {n position : Nat} (beyond : 4 < position) (near : n - 4 ≤ position) :
    correctionOf n position = ⟨n - position, true⟩ := by
  simp [correctionOf, Nat.not_le.mpr beyond, near]

theorem correctionOf_mismatch {n position : Nat} (beyond : 4 < position) (within : position < n - 4) :
    correctionOf n position = ⟨if position ≤ n / 2 then 0 else n - position, false⟩ := by
  simp only [correctionOf, if_neg (Nat.not_le.mpr beyond), if_neg (Nat.not_le.mpr within)]
  split <;> rfl

theorem Part.applyCorrection_forward {p : Part} (within : p.carousel.position < p.machine.nInc) (matched : Bool) :
    p.applyCorrection ⟨p.machine.nInc - p.carousel.position, matched⟩ =
      correctForward (p.machine.nInc - p.carousel.position) p :=
  if_pos (Nat.sub_pos_of_lt within)

/-- The part that a mismatched correction leaves, but for its position: a correction back crosses nothing. -/
def Part.mismatchSide (p : Part) : Part :=
  if p.carousel.position ≤ p.machine.nInc / 2 then p else correctForward (p.machine.nInc - p.carousel.position) p

theorem Part.applyCorrection_mismatch {p : Part} (within : p.carousel.position < p.machine.nInc) :
    p.applyCorrection ⟨if p.carousel.position ≤ p.machine.nInc / 2 then 0 else p.machine.nInc - p.carousel.position, false⟩
      = { p.mismatchSide with carousel := { p.carousel with position := 0 } } := by
  unfold Part.mismatchSide
  split
  · rfl
  · rw [Part.applyCorrection_forward within, ← correctForward_to_zero within]

theorem Part.mismatchSide_entersSafe {p : Part} (enters : p.control.prod.entersSafe = true) :
    p.mismatchSide.control.prod.entersSafe = true := by
  unfold Part.mismatchSide
  split
  · exact enters
  · exact correctForward_entersSafe _ enters

theorem Part.takeZeroMark_small {p : Part} (zero : p.carousel.zero ≠ none) (small : p.carousel.position ≤ 4) :
    p.takeZeroMark = { p with carousel := { p.carousel with position := 0, zero := some .clear } } := by
  rw [Part.takeZeroMark_matched zero (n := 0) (if_pos small)]; rfl

theorem Part.takeZeroMark_near {p : Part} (zero : p.carousel.zero ≠ none) (beyond : 4 < p.carousel.position)
    (near : p.machine.nInc - 4 ≤ p.carousel.position) (within : p.carousel.position < p.machine.nInc) :
    p.takeZeroMark = { correctForward (p.machine.nInc - p.carousel.position) p with
      carousel := { p.carousel with position := 0, zero := some .clear } } := by
  rw [Part.takeZeroMark_matched zero (correctionOf_near beyond near), Part.applyCorrection_forward within,
    Part.setZero_at_zero (correctForward_to_zero within)]

/-- A first mismatch makes the check state PENDING (R17). -/
theorem Part.takeZeroMark_firstMismatch {p : Part} (zero : p.carousel.zero = some .clear)
    (beyond : 4 < p.carousel.position) (within : p.carousel.position < p.machine.nInc - 4) :
    p.takeZeroMark =
      { p.mismatchSide with carousel := { p.carousel with position := 0, zero := some .pending } } := by
  rw [(Part.takeZeroMark_mismatched (correctionOf_mismatch beyond within)).1 zero,
    Part.applyCorrection_mismatch (by omega), Part.setZero_at_zero rfl]

/-- A second mismatch is a SAFE cause (R17). -/
theorem Part.takeZeroMark_secondMismatch {p : Part} (zero : p.carousel.zero = some .pending)
    (beyond : 4 < p.carousel.position) (within : p.carousel.position < p.machine.nInc - 4) :
    p.takeZeroMark = Part.raiseSafe .zeroLost
      { p.mismatchSide with carousel := { p.carousel with position := 0, zero := some .pending } } := by
  rw [(Part.takeZeroMark_mismatched (correctionOf_mismatch beyond within)).2 zero,
    Part.applyCorrection_mismatch (by omega), ← zero]

/-- Settles O24: the correction by its size, the crossings of a forward one by the examination at each increment. -/
theorem zeroMarkCorrectsThePosition : Obligations.ZeroMarkCorrectsThePosition := by
  refine ⟨fun m angle ok => aimAt_first ok angle, ?_, ?_⟩
  · intro p k c q due
    have one : correctForward 1 p = q.examineAll := rfl
    refine ⟨rfl, rfl, fun none => ?_, fun h x live dueX alone => ⟨fun apart => ?_, fun shared => ?_⟩⟩
    · rw [one, Part.examineAll_of_none none]
    · rw [one, Part.examineAll_of_one_apart live dueX alone apart]; rfl
    · rw [one, Part.examineAll_of_one_shared live dueX alone shared]; rfl
  · intro s infeed p c n q at0 forward
    have mark : exec (.zeroMarkArrival infeed) s = .next { s with part := p.zeroMark infeed } := rfl
    rw [mark]
    refine ⟨fun off => by rw [Part.zeroMark_of_not_taken infeed off], fun run direction => ?_⟩
    rw [Part.zeroMark_of_taken infeed run direction]
    have next : ∀ {t : Part}, q.takeZeroMark = t →
        Host.Outcome.next (φ := Fault) (ρ := Refusal) { s with part := q.takeZeroMark } = .next { s with part := t } :=
      fun e => by rw [e]
    refine ⟨fun zero => ?_, fun zero small => ?_, fun zero beyond near within => ?_, fun zero beyond within => ?_,
      fun zero beyond within => ?_⟩
    · exact next (Part.takeZeroMark_first zero)
    · exact next (Part.takeZeroMark_small zero small)
    · have e := Part.takeZeroMark_near (p := q) zero beyond near within
      exact ⟨_, rfl, congrArg Part.carousel e, e⟩
    · have e := Part.takeZeroMark_firstMismatch (p := q) zero beyond within
      refine ⟨_, rfl, congrArg Part.carousel e, fun half => e.trans ?_, fun half => e.trans ?_⟩
      · rw [Part.mismatchSide, if_pos half]
      · rw [Part.mismatchSide, if_neg (Nat.not_le.mpr half)]
    · have e := Part.takeZeroMark_secondMismatch (p := q) zero beyond within
      refine ⟨_, rfl, (congrArg Part.carousel e).trans (Part.raiseSafe_carousel _ _), e, fun prod => ?_⟩
      have enters : q.control.prod.entersSafe = true := (Prod.entersSafe_iff _).mpr prod
      rw [e]
      exact Part.raiseSafe_control (by exact Part.mismatchSide_entersSafe enters) _

/-! ### The state after reset -/

theorem resetPart_head (h : HeadNo) : resetPart.head h = blankHead (freshRecord false defaultStored) := by
  simp [resetPart, Part.head]

theorem resetPart_entry (h : HeadNo) : resetPart.entry h = blankEntry := congrArg Head.entry (resetPart_head h)
theorem resetPart_context (h : HeadNo) : resetPart.context h = none := congrArg Head.context (resetPart_head h)
theorem resetPart_record (h : HeadNo) : resetPart.record h = freshRecord false defaultStored :=
  congrArg Head.record (resetPart_head h)
theorem resetPart_diag (h : HeadNo) : resetPart.diag h = blankDiag := congrArg Head.diag (resetPart_head h)

theorem resetPart_reliefInterlock : resetPart.ReliefInterlock := fun h => by rw [resetPart_entry]; rfl

theorem resetPart_liquidInterlock : resetPart.LiquidInterlock := by
  refine ⟨fun h opened => ?_, fun h _ => ⟨resetPart_context h, resetPart_entry h⟩, fun h waiting => ?_, fun h dose => ?_⟩
  · rw [resetPart_entry] at opened; exact absurd opened (by decide)
  · rw [resetPart_entry] at waiting; cases waiting
  · cases dose

theorem resetPart_trackAgrees : resetPart.TrackAgrees := by
  refine ⟨fun h => ?_, fun h => ?_, fun h _ => resetPart_context h, List.Pairwise.nil, by decide,
    fun _ => ⟨rfl, resetPart_context⟩⟩
  · rw [resetPart_context, resetPart_entry]; rfl
  · rw [resetPart_context]; rfl

theorem resetPart_recordsInRange : resetPart.RecordsInRange := by
  refine ⟨by decide, by decide, fun h => ?_, fun i => ?_⟩
  · rw [resetPart_record, resetPart_diag]; decide
  · simp [resetPart]

theorem resetPart_faultRecordFits : resetPart.FaultRecordFits := by
  refine ⟨⟨by decide, rfl⟩, fun timer => absurd rfl timer, fun opened => ?_⟩
  cases opened

theorem resetPart_supplyAndLinksInRange : resetPart.SupplyAndLinksInRange := by
  refine ⟨by decide, by decide, rfl, by decide, by decide, by decide, fun port => ?_, rfl⟩
  cases port <;> exact ⟨by decide, by decide, fun _ _ f => absurd f List.not_mem_nil, fun held => by cases held⟩

theorem resetPart_trackerInRange : resetPart.TrackerInRange := by
  refine ⟨by decide, by decide, fun h => ?_, fun bad => (by cases bad), fun run => (by cases run), fun _ => ⟨rfl, rfl, rfl⟩⟩
  rw [resetPart_head]; rfl

/-- Settles O60. -/
theorem resetMeetsTheInvariants : Obligations.ResetMeetsTheInvariants :=
  ⟨resetPart_reliefInterlock, resetPart_liquidInterlock, resetPart_trackAgrees, resetPart_recordsInRange,
    resetPart_supplyAndLinksInRange, resetPart_faultRecordFits, resetPart_trackerInRange⟩

end Sys2Proof.Machine
end

section
/-! The Head Table and the Diagnostics Monitor work on a head's record and diagnostic entry: they leave its entry, its
context, its service and every other head as they are. -/

namespace Sys2Proof.Machine

open Sys2Proof

/-! ### Views of one head -/

/-- A head without what the ladder, the learning and the Monitor write: what stays is its entry, its context, its pointer,
and of its record K, T, the in-service and TIMED fields, the generation and the trim-from marker. -/
def Head.offTable (x : Head) : Head :=
  { x with
    record :=
      { freshRecord false { x.record.stored with a := 0, r := 0 } with gen := x.record.gen, trimFrom := x.record.trimFrom }
    diag := blankDiag
    runaway := blankRunaway
    demandCount := 0 }

/-- The part without the table's work on head `h`, and without the speed advisory. -/
def Part.offTable (h : HeadNo) (p : Part) : Part := { p.modHead h Head.offTable with advisory := 0 }

/-- The part without head `h` and without the speed advisory. -/
def Part.offHead (h : HeadNo) (p : Part) : Part :=
  { p.modHead h fun _ => blankHead (freshRecord false defaultStored) with advisory := 0 }

theorem Part.modHead_same (h : HeadNo) (f g : Head → Head) (same : ∀ x, g (f x) = g x) (p : Part) :
    (p.modHead h f).modHead h g = p.modHead h g := by
  rw [Part.modHead_modHead]
  exact congrArg (fun k => Part.modHead h k p) (funext same)

theorem Part.modHead_offTable (h : HeadNo) (p : Part) {f : Head → Head}
    (keeps : ∀ x, (f x).offTable = x.offTable := by exact fun _ => rfl) :
    (p.modHead h f).offTable h = p.offTable h := by
  simp only [Part.offTable, Part.modHead_same h f Head.offTable keeps]

@[simp] theorem Part.modHead_offHead (h : HeadNo) (f : Head → Head) (p : Part) :
    (p.modHead h f).offHead h = p.offHead h := by
  simp only [Part.offHead, Part.modHead_same h f (fun _ => _) (fun _ => rfl)]

/-- Of one head, what the table's work leaves alone. -/
theorem Part.offTable_head (h g : HeadNo) (p : Part) :
    (p.offTable h).head g = if g = h then (p.head h).offTable else p.head g := Part.head_modHead h g _ p

theorem Part.offHead_head (h g : HeadNo) (p : Part) :
    (p.offHead h).head g = if g = h then blankHead (freshRecord false defaultStored) else p.head g :=
  Part.head_modHead h g (fun _ => _) p

theorem Part.offHead_of_offTable {h : HeadNo} {p q : Part} (e : q.offTable h = p.offTable h) :
    q.offHead h = p.offHead h := by
  have view : ∀ r : Part, (r.offTable h).offHead h = r.offHead h := fun r => by
    simp only [Part.offHead, Part.offTable]
    exact congrArg (fun s : Part => { s with advisory := 0 })
      (Part.modHead_same h Head.offTable (fun _ => _) (fun _ => rfl) r)
  rw [← view q, e, view]

theorem Part.offHeads_of_offHead {h : HeadNo} {p q : Part} (e : q.offHead h = p.offHead h) :
    q.offHeads = p.offHeads := by
  have view : ∀ r : Part, (r.offHead h).offHeads = r.offHeads := fun _ => rfl
  rw [← view q, e, view]

/-- A change at head `h` leaves every other head as it is. -/
theorem Part.head_of_offHead {h : HeadNo} {p q : Part} (e : q.offHead h = p.offHead h) {g : HeadNo} (other : g ≠ h) :
    q.head g = p.head g := by
  have view := congrArg (fun r : Part => r.head g) e
  simpa only [Part.offHead_head, if_neg other] using view

theorem Head.entry_of_offTable {x y : Head} (e : x.offTable = y.offTable) : x.entry = y.entry := by
  have view := congrArg Head.entry e
  exact view

theorem Head.context_of_offTable {x y : Head} (e : x.offTable = y.offTable) : x.context = y.context := by
  have view := congrArg Head.context e
  exact view

theorem Head.inService_of_offTable {x y : Head} (e : x.offTable = y.offTable) :
    x.record.stored.inService = y.record.stored.inService := by
  have view := congrArg (fun z : Head => z.record.stored.inService) e
  exact view

section reading

variable {h : HeadNo} {p q : Part} (e : q.offTable h = p.offTable h)
include e

theorem Part.headOffTable_of_offTable : (q.head h).offTable = (p.head h).offTable := by
  have view := congrArg (fun r : Part => r.head h) e
  simpa only [Part.offTable_head, if_true] using view

theorem Part.entry_of_offTable (g : HeadNo) : q.entry g = p.entry g := by
  by_cases same : g = h
  · subst same
    exact Head.entry_of_offTable (Part.headOffTable_of_offTable e)
  · exact congrArg Head.entry (Part.head_of_offHead (Part.offHead_of_offTable e) same)

theorem Part.context_of_offTable (g : HeadNo) : q.context g = p.context g := by
  by_cases same : g = h
  · subst same
    exact Head.context_of_offTable (Part.headOffTable_of_offTable e)
  · exact congrArg Head.context (Part.head_of_offHead (Part.offHead_of_offTable e) same)

theorem Part.inService_of_offTable (g : HeadNo) : (q.record g).stored.inService = (p.record g).stored.inService := by
  by_cases same : g = h
  · subst same
    exact Head.inService_of_offTable (Part.headOffTable_of_offTable e)
  · exact congrArg (·.record.stored.inService) (Part.head_of_offHead (Part.offHead_of_offTable e) same)

end reading

/-! ### The table's operations -/

section table

variable (h : HeadNo) (p : Part)

@[simp] theorem Part.modDiag_offTable (f : Diag → Diag) : (p.modDiag h f).offTable h = p.offTable h :=
  Part.modHead_offTable h p

@[simp] theorem Part.recomputeAdvisory_offTable : p.recomputeAdvisory.offTable h = p.offTable h := rfl

@[simp] theorem Part.clearKind_offTable (k : FaultKind) : (p.clearKind h k).offTable h = p.offTable h :=
  Part.modDiag_offTable h p _

@[simp] theorem Part.setMethod_offTable (m : Method) (c : Option FaultKind) :
    (p.setMethod h m c).offTable h = p.offTable h :=
  (Part.recomputeAdvisory_offTable h _).trans (Part.modHead_offTable h p)

@[simp] theorem Part.degrade_offTable (k : FaultKind) : (p.degrade h k).offTable h = p.offTable h := by
  unfold Part.degrade; split <;> (try split) <;> simp

@[simp] theorem Part.putOut_offTable (k : FaultKind) : (p.putOut h k).offTable h = p.offTable h := by
  unfold Part.putOut; split <;> simp

@[simp] theorem Part.decideKind_offTable (k : FaultKind) : (p.decideKind h k).offTable h = p.offTable h := by
  unfold Part.decideKind; split <;> simp

@[simp] theorem Part.detect_offTable (k : FaultKind) : (p.detect h k).offTable h = p.offTable h := by
  unfold Part.detect; split
  · rfl
  · dsimp only; split <;> simp

@[simp] theorem Part.coilDetect_offTable (c : CoilFault) (v : Valve) :
    (p.coilDetect h c v).offTable h = p.offTable h := by simp [Part.coilDetect]

@[simp] theorem Part.evaluateRate_offTable : (p.evaluateRate h).offTable h = p.offTable h := by
  unfold Part.evaluateRate; split <;> simp

@[simp] theorem Part.decideLive_offTable : (p.decideLive h).offTable h = p.offTable h :=
  foldl_view (Part.offTable h) _ (fun q k => by split <;> simp) _ p

@[simp] theorem Part.admitAfter_offTable (a : Nat) : (p.admitAfter h a).offTable h = p.offTable h := by
  have run : ∀ n, (p.modRecord h fun x => { x with outlierRun := n }).offTable h = p.offTable h :=
    fun n => Part.modHead_offTable h p
  have learned : (p.modRecord h fun x =>
      { x with outlierRun := 0, stored := { x.stored with a := learnAfter x.stored.a a } }).offTable h = p.offTable h :=
    Part.modHead_offTable h p
  unfold Part.admitAfter; dsimp only; split
  · split <;> simp [run]
  · exact (Part.clearKind_offTable h _ _).trans learned

@[simp] theorem Part.admitRate_offTable (r : Nat) (b : Bool) : (p.admitRate h r b).offTable h = p.offTable h := by
  unfold Part.admitRate
  refine (Part.evaluateRate_offTable h _).trans ((Part.recomputeAdvisory_offTable h _).trans ?_)
  exact Part.modHead_offTable h p

@[simp] theorem Part.takeSamples_offTable (full : Bool) : (p.takeSamples h full).offTable h = p.offTable h := by
  unfold Part.takeSamples; split
  · rfl
  · split
    · dsimp only; split <;> split <;> simp
    · rfl

@[simp] theorem Part.applyJudgement_offTable (j : Option Judgement) :
    (p.applyJudgement h j).offTable h = p.offTable h := by
  have promo : ∀ n, (p.modRecord h fun x => { x with promo := n }).offTable h = p.offTable h :=
    fun n => Part.modHead_offTable h p
  unfold Part.applyJudgement; dsimp only; split
  · rfl
  · split
    · split
      · exact promo 0
      · split
        · simp
        · exact promo _
    · rfl

@[simp] theorem Part.countWarmup_offTable : (p.countWarmup h).offTable h = p.offTable h := by
  have warm : ∀ n, (p.modRecord h fun x => { x with warm := n }).offTable h = p.offTable h :=
    fun n => Part.modHead_offTable h p
  unfold Part.countWarmup; dsimp only; split
  · rfl
  · split <;> simp [warm]

@[simp] theorem Part.tableOutcome_offTable (c : Context) : (p.tableOutcome h c).offTable h = p.offTable h := by
  unfold Part.tableOutcome; dsimp only; split
  · exact (Part.applyJudgement_offTable h _ _).trans (Part.modHead_offTable h p)
  · exact (Part.countWarmup_offTable h _).trans
      ((Part.applyJudgement_offTable h _ _).trans (Part.modHead_offTable h p))

@[simp] theorem Part.countUninspected_offTable : (p.countUninspected h).offTable h = p.offTable h :=
  Part.modHead_offTable h p

@[simp] theorem Part.judgeRunaway_offTable : (p.judgeRunaway h).offTable h = p.offTable h := by
  unfold Part.judgeRunaway; dsimp only
  refine (Part.modHead_offTable h _).trans ?_
  split <;> simp

@[simp] theorem Part.dischargeRunaway_offTable : (p.dischargeRunaway h).offTable h = p.offTable h := by
  unfold Part.dischargeRunaway; dsimp only
  refine (Part.modHead_offTable h _).trans ?_
  split <;> simp

@[simp] theorem Part.runawayPulse_offTable : (p.runawayPulse h).offTable h = p.offTable h := by
  unfold Part.runawayPulse; dsimp only; split
  · exact (Part.detect_offTable h _ _).trans (Part.modHead_offTable h p)
  · exact Part.modHead_offTable h p

@[simp] theorem Part.demandPulse_offTable : (p.demandPulse h).offTable h = p.offTable h :=
  Part.modHead_offTable h p

@[simp] theorem Part.dischargeReports_offTable (fl : BitVec 13) :
    (p.dischargeReports h fl).offTable h = p.offTable h := by
  unfold Part.dischargeReports; dsimp only; split <;> split <;> split <;> simp

end table

end Sys2Proof.Machine
end

section
/-! The valve interlocks and the agreement of track and heads: what they read, what a change of one head has to keep, and
the operations of the head cycle that keep all three. -/

namespace Sys2Proof.Machine

open Sys2Proof

/-! ### What the three invariants read -/

/-- What the relief interlock, the liquid interlock and the agreement of track and heads read. Of a context they read its
presence and its number. -/
structure Stage where
  entry : HeadNo → Entry
  number : HeadNo → Option Nat
  inService : HeadNo → Bool
  fitted : BitVec 64
  inspection : Nat
  phase : Phase
  prod : Prod
  cleanOpened : Bool
  slot : Slot
  track : List TrackRecord

/-- The number of the container on a head. -/
def Part.numberOn (p : Part) (h : HeadNo) : Option Nat := (p.context h).map (·.number)

def Part.stage (p : Part) : Stage :=
  ⟨p.entry, p.numberOn, fun h => (p.record h).stored.inService, p.machine.fitted, p.machine.inspection, p.phase,
    p.control.prod, p.control.cleanOpened, p.slot, p.track⟩

theorem Part.numberOn_isSome (p : Part) (h : HeadNo) : (p.numberOn h).isSome = (p.context h).isSome := by
  simp [Part.numberOn]

theorem Part.numberOn_eq_none {p : Part} {h : HeadNo} : p.numberOn h = none ↔ p.context h = none := by
  simp [Part.numberOn]

theorem Part.numberOn_toList (p : Part) (h : HeadNo) :
    (p.numberOn h).toList = (p.context h).toList.map (·.number) := by
  unfold Part.numberOn; cases p.context h <;> rfl

/-- A liquid valve that is open out of the fill states. -/
def Entry.stray (e : Entry) : Bool := (e.fast || e.fine) && !e.state.isFill

/-- The liquid interlock at one head. -/
structure Part.LiquidAt (p : Part) (h : HeadNo) : Prop where
  open_ : (p.entry h).stray = true → p.cleans h = true ∨ p.calDoses h = true
  unfitted : p.fitted h = false → p.numberOn h = none ∧ p.entry h = blankEntry
  waits : (p.entry h).cleanWaiting = true → p.cleans h = true
  settles : p.calDoses h = true → (p.calOn h).all (fun c => decide (c.settleTimer = .stopped)) = true

theorem Part.liquidInterlock_iff {p : Part} : p.LiquidInterlock ↔ ∀ h, p.LiquidAt h := by
  have stray : ∀ h, ((p.entry h).fast = true ∨ (p.entry h).fine = true →
      (p.entry h).state.isFill = true ∨ p.cleans h = true ∨ p.calDoses h = true) ↔
      ((p.entry h).stray = true → p.cleans h = true ∨ p.calDoses h = true) := fun h => by
    unfold Entry.stray
    cases (p.entry h).fast <;> cases (p.entry h).fine <;> cases (p.entry h).state.isFill <;> simp
  simp only [Part.LiquidInterlock, stray, ← Part.numberOn_eq_none]
  exact ⟨fun ⟨a, b, c, d⟩ h => ⟨a h, b h, c h, d h⟩,
    fun all => ⟨fun h => (all h).open_, fun h => (all h).unfitted, fun h => (all h).waits, fun h => (all h).settles⟩⟩

/-- The agreement of track and heads, in the numbers on the heads. -/
structure Part.Agrees (p : Part) : Prop where
  holds : ∀ h, (p.numberOn h).isSome = (p.entry h).state.holds
  record : ∀ h, (p.track.filter (TrackRecord.standsOn h)).map (·.number) = (p.numberOn h).toList
  unfitted : ∀ h, p.fitted h = false → p.numberOn h = none
  order : p.track.Pairwise (fun a b => a.isDischarged = true ∨ b.isDischarged = false)
  bound : dischargedCount p.track ≤ p.machine.inspection + 12
  bare : p.phase ≠ .running → p.track = [] ∧ ∀ h, p.numberOn h = none

theorem Part.trackAgrees_iff {p : Part} : p.TrackAgrees ↔ p.Agrees := by
  have view : p.TrackAgrees ↔
      (∀ h, (p.numberOn h).isSome = (p.entry h).state.holds) ∧
      (∀ h, (p.track.filter (TrackRecord.standsOn h)).map (·.number) = (p.numberOn h).toList) ∧
      (∀ h, p.fitted h = false → p.numberOn h = none) ∧
      p.track.Pairwise (fun a b => a.isDischarged = true ∨ b.isDischarged = false) ∧
      dischargedCount p.track ≤ p.machine.inspection + 12 ∧
      (p.phase ≠ .running → p.track = [] ∧ ∀ h, p.numberOn h = none) := by
    simp only [Part.TrackAgrees, Part.numberOn_isSome, Part.numberOn_toList, Part.numberOn_eq_none]
  rw [view]
  exact ⟨fun ⟨a, b, c, d, e, f⟩ => ⟨a, b, c, d, e, f⟩,
    fun all => ⟨all.holds, all.record, all.unfitted, all.order, all.bound, all.bare⟩⟩

/-- `q` meets each of the three invariants that `p` meets. -/
structure Part.Keeps (p q : Part) : Prop where
  relief : p.ReliefInterlock → q.ReliefInterlock
  liquid : p.LiquidInterlock → q.LiquidInterlock
  track : p.TrackAgrees → q.TrackAgrees

theorem Part.Keeps.refl (p : Part) : p.Keeps p := ⟨id, id, id⟩

theorem Part.Keeps.trans {p q r : Part} (first : p.Keeps q) (second : q.Keeps r) : p.Keeps r :=
  ⟨second.relief ∘ first.relief, second.liquid ∘ first.liquid, second.track ∘ first.track⟩

theorem Part.Keeps.ite {b : Prop} [Decidable b] {p q : Part} (keeps : b → p.Keeps q) : p.Keeps (if b then q else p) := by
  split
  · next holds => exact keeps holds
  · exact .refl p

section stage

variable {p q : Part} (e : q.stage = p.stage)
include e

theorem Part.entry_of_stage (h : HeadNo) : q.entry h = p.entry h := congrFun (congrArg Stage.entry e) h
theorem Part.numberOn_of_stage (h : HeadNo) : q.numberOn h = p.numberOn h := congrFun (congrArg Stage.number e) h
theorem Part.prod_of_stage : q.control.prod = p.control.prod := congrArg Stage.prod e
theorem Part.slot_of_stage : q.slot = p.slot := congrArg Stage.slot e
theorem Part.phase_of_stage : q.phase = p.phase := congrArg Stage.phase e

theorem Part.fitted_of_stage (h : HeadNo) : q.fitted h = p.fitted h :=
  congrArg (fun s : Stage => s.fitted.getLsbD h) e

theorem Part.cleans_of_stage (h : HeadNo) : q.cleans h = p.cleans h :=
  congrArg (fun s : Stage =>
    s.fitted.getLsbD h && s.inService h && s.cleanOpened && decide (s.prod = .drain)) e

theorem Part.calOn_of_stage (h : HeadNo) : q.calOn h = p.calOn h := by
  unfold Part.calOn; rw [Part.slot_of_stage e]

theorem Part.calDoses_of_stage (h : HeadNo) : q.calDoses h = p.calDoses h := by
  unfold Part.calDoses; rw [Part.calOn_of_stage e]

theorem Part.keeps_of_stage : p.Keeps q where
  relief inv h := by rw [Part.entry_of_stage e]; exact inv h
  liquid inv := by
    rw [Part.liquidInterlock_iff] at inv ⊢
    intro h
    obtain ⟨stray, unfitted, waits, settles⟩ := inv h
    constructor <;> simpa only [Part.entry_of_stage e, Part.numberOn_of_stage e, Part.fitted_of_stage e,
      Part.cleans_of_stage e, Part.calOn_of_stage e, Part.calDoses_of_stage e]
  track inv := by
    rw [Part.trackAgrees_iff] at inv ⊢
    have track : q.track = p.track := congrArg Stage.track e
    have inspection : q.machine.inspection = p.machine.inspection := congrArg Stage.inspection e
    obtain ⟨holds, record, unfitted, order, bound, bare⟩ := inv
    constructor <;> simpa only [Part.entry_of_stage e, Part.numberOn_of_stage e, Part.fitted_of_stage e,
      Part.phase_of_stage e, track, inspection]

end stage

/-! ### Changes of one head -/

section oneHead

variable {h : HeadNo} {p q : Part} (e : q.offHead h = p.offHead h)
include e

theorem Part.machine_of_offHead : q.machine = p.machine := by
  have view := congrArg Part.machine (Part.offHeads_of_offHead e)
  exact view

theorem Part.control_of_offHead : q.control = p.control := by
  have view := congrArg Part.control (Part.offHeads_of_offHead e)
  exact view

theorem Part.slot_of_offHead : q.slot = p.slot := by
  have view := congrArg Part.slot (Part.offHeads_of_offHead e)
  exact view

theorem Part.phase_of_offHead : q.phase = p.phase := by
  have view := congrArg Part.phase (Part.offHeads_of_offHead e)
  exact view

theorem Part.track_of_offHead : q.track = p.track := by
  have view := congrArg Part.track (Part.offHeads_of_offHead e)
  exact view


theorem Part.fitted_of_offHead (g : HeadNo) : q.fitted g = p.fitted g := by
  simp only [Part.fitted, Part.machine_of_offHead e]

theorem Part.calOn_of_offHead (g : HeadNo) : q.calOn g = p.calOn g := by
  unfold Part.calOn; rw [Part.slot_of_offHead e]

theorem Part.calDoses_of_offHead (g : HeadNo) : q.calDoses g = p.calDoses g := by
  unfold Part.calDoses; rw [Part.calOn_of_offHead e]

theorem Part.entry_of_offHead {g : HeadNo} (other : g ≠ h) : q.entry g = p.entry g :=
  congrArg Head.entry (Part.head_of_offHead e other)

theorem Part.context_of_offHead {g : HeadNo} (other : g ≠ h) : q.context g = p.context g :=
  congrArg Head.context (Part.head_of_offHead e other)

theorem Part.numberOn_of_offHead {g : HeadNo} (other : g ≠ h) : q.numberOn g = p.numberOn g := by
  unfold Part.numberOn; rw [Part.context_of_offHead e other]

theorem Part.cleans_of_offHead {g : HeadNo}
    (service : g = h → (q.record h).stored.inService = (p.record h).stored.inService) : q.cleans g = p.cleans g := by
  have same : (q.record g).stored.inService = (p.record g).stored.inService := by
    by_cases at_ : g = h
    · subst at_; exact service rfl
    · unfold Part.record; rw [Part.head_of_offHead e at_]
  unfold Part.cleans
  rw [Part.fitted_of_offHead e, Part.control_of_offHead e, same]

/-- Away from the head that changes, the liquid interlock stands as it stood. -/
theorem Part.liquidAt_of_offHead {g : HeadNo} (other : g ≠ h) (at_ : p.LiquidAt g) : q.LiquidAt g := by
  obtain ⟨stray, unfitted, waits, settles⟩ := at_
  have cleans := Part.cleans_of_offHead e (g := g) fun same => absurd same other
  constructor <;> simpa only [Part.entry_of_offHead e other, Part.numberOn_of_offHead e other,
    Part.fitted_of_offHead e, Part.calOn_of_offHead e, Part.calDoses_of_offHead e, cleans]

end oneHead

/-- The table's work on a head leaves all that the three invariants read. -/
theorem Part.stage_of_offTable {h : HeadNo} {p q : Part} (e : q.offTable h = p.offTable h) : q.stage = p.stage := by
  have off := Part.offHead_of_offTable e
  simp only [Part.stage, Part.machine_of_offHead off, Part.control_of_offHead off, Part.slot_of_offHead off,
    Part.phase_of_offHead off, Part.track_of_offHead off, Stage.mk.injEq, and_true]
  exact ⟨funext (Part.entry_of_offTable e),
    funext fun g => congrArg (Option.map Context.number) (Part.context_of_offTable e g),
    funext (Part.inService_of_offTable e)⟩

theorem Part.keeps_of_offTable {h : HeadNo} {p q : Part} (e : q.offTable h = p.offTable h) : p.Keeps q :=
  Part.keeps_of_stage (Part.stage_of_offTable e)

/-- What an entry may become while the head keeps its container, or stays without one. A liquid valve opens out of the
fill states only where the clean valves waited for the end of a coil test (R41). -/
structure Entry.Follows (e e' : Entry) : Prop where
  relief : e.reliefOk = true → e'.reliefOk = true
  holds : e'.state.holds = e.state.holds
  stray : e'.stray = true → e.stray = true ∨ e.cleanWaiting = true
  waits : e'.cleanWaiting = true → e.cleanWaiting = true

theorem Entry.Follows.refl (e : Entry) : e.Follows e := ⟨id, rfl, .inl, id⟩

/-- A change of one head keeps the three invariants when its container stays, and its entry keeps the relief interlock, the
state's word on the container and the liquid interlock at the head. -/
theorem Part.keeps_of_offHead {h : HeadNo} {p q : Part} (off : q.offHead h = p.offHead h)
    (number : q.numberOn h = p.numberOn h) (relief : (p.entry h).reliefOk = true → (q.entry h).reliefOk = true)
    (holds : (q.entry h).state.holds = (p.entry h).state.holds) (liquid : p.LiquidAt h → q.LiquidAt h) : p.Keeps q where
  relief inv g := by
    by_cases same : g = h
    · subst same; exact relief (inv g)
    · rw [Part.entry_of_offHead off same]; exact inv g
  liquid inv := by
    rw [Part.liquidInterlock_iff] at inv ⊢
    intro g
    by_cases same : g = h
    · subst same; exact liquid (inv g)
    · exact Part.liquidAt_of_offHead off same (inv g)
  track inv := by
    rw [Part.trackAgrees_iff] at inv ⊢
    have numbers : ∀ g, q.numberOn g = p.numberOn g := fun g => by
      by_cases same : g = h
      · subst same; exact number
      · exact Part.numberOn_of_offHead off same
    have states : ∀ g, (q.entry g).state.holds = (p.entry g).state.holds := fun g => by
      by_cases same : g = h
      · subst same; exact holds
      · rw [Part.entry_of_offHead off same]
    obtain ⟨held, record, unfitted, order, bound, bare⟩ := inv
    constructor <;> simpa only [numbers, states, Part.fitted_of_offHead off, Part.phase_of_offHead off,
      Part.track_of_offHead off, Part.machine_of_offHead off]

/-- A change of one head keeps the three invariants when its entry follows, its container and service stay, and an entry
that stands at its blank values for want of a fitted head stays there. -/
theorem Part.keeps_of_follows {h : HeadNo} {p q : Part} (off : q.offHead h = p.offHead h)
    (service : (q.record h).stored.inService = (p.record h).stored.inService) (number : q.numberOn h = p.numberOn h)
    (follows : (p.entry h).Follows (q.entry h))
    (blank : p.fitted h = true ∨ (p.entry h = blankEntry → q.entry h = blankEntry)) : p.Keeps q := by
  refine Part.keeps_of_offHead off number follows.relief follows.holds fun at_ => ?_
  obtain ⟨stray, unfitted, waits, settles⟩ := at_
  have cleans := Part.cleans_of_offHead off (g := h) fun _ => service
  constructor
  · rw [cleans, Part.calDoses_of_offHead off]
    exact fun opened => (follows.stray opened).elim stray (.inl ∘ waits)
  · rw [Part.fitted_of_offHead off, number]
    intro out
    obtain ⟨none, entry⟩ := unfitted out
    exact ⟨none, (blank.resolve_left (by simp [out])) entry⟩
  · rw [cleans]; exact waits ∘ follows.waits
  · rw [Part.calDoses_of_offHead off, Part.calOn_of_offHead off]; exact settles

/-- A change of an entry that follows. -/
theorem Part.modEntry_keeps {h : HeadNo} {p : Part} {f : Entry → Entry} (follows : (p.entry h).Follows (f (p.entry h)))
    (blank : p.fitted h = true ∨ (p.entry h = blankEntry → f (p.entry h) = blankEntry)) : p.Keeps (p.modEntry h f) := by
  apply Part.keeps_of_follows (h := h)
  · exact Part.modHead_offHead h _ p
  · simp
  · simp [Part.numberOn]
  · simpa using follows
  · simpa using blank

/-- A change of a context that leaves its number. -/
theorem Part.modContext_keeps {h : HeadNo} {p : Part} {f : Context → Context}
    (number : ∀ c, (f c).number = c.number := by exact fun _ => rfl) : p.Keeps (p.modContext h f) := by
  apply Part.keeps_of_follows (h := h)
  · exact Part.modHead_offHead h _ p
  · simp
  · simp [Part.numberOn, Function.comp_def, number]
  · simpa using Entry.Follows.refl _
  · simp

end Sys2Proof.Machine
end

section
/-! The operations of the head cycle keep the three invariants. -/

namespace Sys2Proof.Machine

open Sys2Proof

/-! ### Reading a head after the table's work -/

section reading

variable (h g : HeadNo) (p : Part)

@[simp] theorem Part.entry_detect (k : FaultKind) : (p.detect h k).entry g = p.entry g :=
  Part.entry_of_offTable (Part.detect_offTable h p k) g
@[simp] theorem Part.context_detect (k : FaultKind) : (p.detect h k).context g = p.context g :=
  Part.context_of_offTable (Part.detect_offTable h p k) g
@[simp] theorem Part.entry_coilDetect (c : CoilFault) (v : Valve) : (p.coilDetect h c v).entry g = p.entry g :=
  Part.entry_of_offTable (Part.coilDetect_offTable h p c v) g
@[simp] theorem Part.context_coilDetect (c : CoilFault) (v : Valve) : (p.coilDetect h c v).context g = p.context g :=
  Part.context_of_offTable (Part.coilDetect_offTable h p c v) g
@[simp] theorem Part.entry_takeSamples (full : Bool) : (p.takeSamples h full).entry g = p.entry g :=
  Part.entry_of_offTable (Part.takeSamples_offTable h p full) g
@[simp] theorem Part.context_takeSamples (full : Bool) : (p.takeSamples h full).context g = p.context g :=
  Part.context_of_offTable (Part.takeSamples_offTable h p full) g
@[simp] theorem Part.entry_judgeRunaway : (p.judgeRunaway h).entry g = p.entry g :=
  Part.entry_of_offTable (Part.judgeRunaway_offTable h p) g
@[simp] theorem Part.context_judgeRunaway : (p.judgeRunaway h).context g = p.context g :=
  Part.context_of_offTable (Part.judgeRunaway_offTable h p) g
@[simp] theorem Part.entry_dischargeRunaway : (p.dischargeRunaway h).entry g = p.entry g :=
  Part.entry_of_offTable (Part.dischargeRunaway_offTable h p) g
@[simp] theorem Part.context_dischargeRunaway : (p.dischargeRunaway h).context g = p.context g :=
  Part.context_of_offTable (Part.dischargeRunaway_offTable h p) g
@[simp] theorem Part.entry_clearKind (k : FaultKind) : (p.clearKind h k).entry g = p.entry g :=
  Part.entry_of_offTable (Part.clearKind_offTable h p k) g
@[simp] theorem Part.context_clearKind (k : FaultKind) : (p.clearKind h k).context g = p.context g :=
  Part.context_of_offTable (Part.clearKind_offTable h p k) g

@[simp] theorem Part.entry_addContextFlag (f : ContainerFlag) : (p.addContextFlag h f).entry g = p.entry g :=
  Part.entry_modContext h g _ p
@[simp] theorem Part.entry_goTo (st : HeadState) :
    (p.goTo h st).entry g = if g = h then { p.entry h with state := st } else p.entry g := Part.entry_modEntry h g _ p
@[simp] theorem Part.entry_cutSettle : (p.cutSettle h).entry g = p.entry g := by simp [Part.cutSettle]
@[simp] theorem Part.entry_reportAlive : (p.reportAlive h).entry g = p.entry g := by simp [Part.reportAlive]

end reading

theorem HeadState.isFill_iff {st : HeadState} : st.isFill = true ↔ st = .fillFast ∨ st = .fillFine := by
  cases st <;> decide

/-- The states in which the relief valve is open (R21). -/
def HeadState.vents : HeadState → Bool
  | .relief | .vent => true
  | _ => false

theorem Entry.reliefOk_iff {e : Entry} : e.reliefOk = true ↔
    e.relief = e.state.vents ∧ (e.relief = true → e.gas = false ∧ e.fast = false ∧ e.fine = false) := by
  have vents : (e.state == .relief || e.state == .vent) = e.state.vents := by cases e.state <;> rfl
  unfold Entry.reliefOk
  rw [vents]
  cases e.relief <;> cases e.state.vents <;> cases e.gas <;> cases e.fast <;> cases e.fine <;> decide

/-- A closed relief valve stays closed from one state to another that does not open it. -/
theorem Entry.follows_of_closed {e e' : Entry} (before : e.state.vents = false) (after : e'.state.vents = false)
    (relief : e'.relief = e.relief) (holds : e'.state.holds = e.state.holds) (stray : e'.stray = true → e.stray = true)
    (waits : e'.cleanWaiting = true → e.cleanWaiting = true) : e.Follows e' where
  relief ok := by
    obtain ⟨closed, -⟩ := Entry.reliefOk_iff.mp ok
    rw [before] at closed
    rw [Entry.reliefOk_iff, relief, closed, after]
    exact ⟨rfl, fun opened => absurd opened (by decide)⟩
  holds := holds
  stray := .inl ∘ stray
  waits := waits

theorem Entry.ne_blank_of_holds {e : Entry} (holds : e.state.holds = true) : e ≠ blankEntry := by
  rintro rfl; cases holds

theorem Entry.ne_blank_of_state {e : Entry} (st : e.state ≠ .rest) : e ≠ blankEntry := by
  rintro rfl; exact st rfl

section cycle

variable {h : HeadNo} {p : Part}

/-! ### Fill, settle and relief of a container -/

theorem Part.addContextFlag_keeps (f : ContainerFlag) : p.Keeps (p.addContextFlag h f) :=
  Part.modContext_keeps

theorem Part.detect_keeps (k : FaultKind) : p.Keeps (p.detect h k) :=
  Part.keeps_of_offTable (Part.detect_offTable h p k)

/-- A head that holds a container may move its state, as long as no liquid valve stays open outside the fill and no relief
valve is concerned. -/
theorem Part.modEntry_keeps_of_state {f : Entry → Entry} (st : (p.entry h).state ≠ .rest)
    (follows : (p.entry h).Follows (f (p.entry h))) : p.Keeps (p.modEntry h f) :=
  Part.modEntry_keeps follows (.inr fun blank => absurd blank (Entry.ne_blank_of_state st))

theorem Part.openRelief_keeps (holds : (p.entry h).state.holds = true) : p.Keeps (p.openRelief h) := by
  unfold Part.openRelief
  refine Part.modEntry_keeps ?_ (.inr fun blank => absurd blank (Entry.ne_blank_of_holds holds))
  constructor
  · simp [Entry.reliefOk_iff, Entry.closeFill, HeadState.vents]
  · exact holds.symm
  · simp [Entry.stray, Entry.closeFill]
  · exact id

theorem Part.cutSettle_keeps : p.Keeps (p.cutSettle h) := by
  unfold Part.cutSettle
  exact Part.Keeps.trans Part.modContext_keeps (Part.keeps_of_offTable (Part.takeSamples_offTable h _ _))

@[simp] theorem Part.entry_toSettle (g : HeadNo) (status : DoseStatus) : (p.toSettle h status).entry g =
    if g = h then { (p.entry h).closeFill with
      state := .settle, timer := p.startTimer (((p.context h).map Context.settleTime).getD 0) }
    else p.entry g := by
  simp only [Part.toSettle, Part.entry, Part.head_modHead]; split <;> rfl

@[simp] theorem Part.context_toSettle (g : HeadNo) (status : DoseStatus) : (p.toSettle h status).context g =
    if g = h then (p.context h).map fun c => { c.stopFilling with status := status, afterState := .counting }
    else p.context g := by
  simp only [Part.toSettle, Part.context, Part.head_modHead]; split <;> rfl

theorem Part.toSettle_keeps (fills : (p.entry h).state.isFill = true) (status : DoseStatus) :
    p.Keeps (p.toSettle h status) := by
  have st := HeadState.isFill_iff.mp fills
  apply Part.keeps_of_follows (h := h)
  · exact Part.modHead_offHead h _ p
  · simp [Part.record, Part.toSettle]
  · simp [Part.numberOn, Function.comp_def, Context.stopFilling]
  · rw [Part.entry_toSettle, if_pos rfl]
    refine Entry.follows_of_closed ?_ rfl rfl ?_ ?_ id
    · rcases st with st | st <;> rw [st] <;> rfl
    · rcases st with st | st <;> rw [st] <;> rfl
    · simp [Entry.stray, Entry.closeFill]
  · refine .inr fun blank => absurd blank (Entry.ne_blank_of_state ?_)
    rcases st with st | st <;> rw [st] <;> decide

theorem Part.completeDose_keeps : p.Keeps (p.completeDose h) := by
  unfold Part.completeDose; split
  · next fills => exact Part.toSettle_keeps fills _
  · exact .refl p

theorem Part.fastClose_keeps : p.Keeps (p.fastClose h) := by
  unfold Part.fastClose; split
  · next st =>
    refine Part.modEntry_keeps_of_state (by simp [st]) (Entry.follows_of_closed ?_ rfl rfl ?_ ?_ id)
    · rw [st]; rfl
    · rw [st]; rfl
    · simp [Entry.stray, HeadState.isFill]
  · exact .refl p

theorem Part.refuseFill_keeps (st : (p.entry h).state = .waitFill) (f : ContainerFlag) :
    p.Keeps (p.refuseFill h f) := by
  refine (Part.addContextFlag_keeps f).trans (Part.modEntry_keeps_of_state ?_ ?_)
  · simp [st]
  · simp only [Part.entry_addContextFlag]
    refine Entry.follows_of_closed ?_ rfl rfl ?_ ?_ id
    · rw [st]; rfl
    · rw [st]; rfl
    · simp [Entry.stray, st, HeadState.isFill]

/-- The fill start writes the liquid valves, the state, and nothing else of the entry. -/
@[simp] theorem Part.entry_startFill (c : Context) (g : HeadNo) : (p.startFill h c).entry g =
    if g = h then
      { p.entry h with
        fast := decide (c.method = .timed) || decide (0 < c.f)
        fine := true
        state := if decide (c.method = .timed) || decide (0 < c.f) then .fillFast else .fillFine }
    else p.entry g := by
  have runaway : ∀ q : Part, (q.modHead h fun x => { x with runaway := { x.runaway with filled := true } }).entry g =
      q.entry g := fun q => Part.entry_of_offTable (Part.modHead_offTable h q) g
  unfold Part.startFill
  rw [runaway, Part.entry_judgeRunaway]
  simp only [Part.entry, Part.head_modHead]
  split <;> rfl

theorem Part.numberOn_startFill (c : Context) (g : HeadNo) : (p.startFill h c).numberOn g = p.numberOn g := by
  have runaway : ∀ q : Part,
      (q.modHead h fun x => { x with runaway := { x.runaway with filled := true } }).context g = q.context g :=
    fun q => Part.context_of_offTable (Part.modHead_offTable h q) g
  unfold Part.startFill Part.numberOn
  rw [runaway, Part.context_judgeRunaway]
  simp only [Part.context, Part.head_modHead]
  split
  · next same => subst same; simp [Function.comp_def]
  · rfl

theorem Part.inService_startFill (c : Context) :
    ((p.startFill h c).record h).stored.inService = (p.record h).stored.inService := by
  have runaway : ∀ q : Part, ((q.modHead h fun x =>
      { x with runaway := { x.runaway with filled := true } }).record h).stored.inService = (q.record h).stored.inService :=
    fun q => Part.inService_of_offTable (Part.modHead_offTable h q) h
  unfold Part.startFill
  rw [runaway, Part.inService_of_offTable (Part.judgeRunaway_offTable h _) h]
  simp [Part.record]

theorem Part.startFill_offHead (c : Context) : (p.startFill h c).offHead h = p.offHead h := by
  unfold Part.startFill
  rw [Part.modHead_offHead, Part.offHead_of_offTable (Part.judgeRunaway_offTable h _), Part.modHead_offHead]

theorem Part.startFill_keeps (st : (p.entry h).state = .waitFill) (c : Context) : p.Keeps (p.startFill h c) := by
  apply Part.keeps_of_follows (Part.startFill_offHead c) (Part.inService_startFill c) (Part.numberOn_startFill c h)
  · rw [Part.entry_startFill, if_pos rfl]
    refine Entry.follows_of_closed ?_ ?_ rfl ?_ ?_ id
    · rw [st]; rfl
    · dsimp only; split <;> rfl
    · rw [st]; dsimp only; split <;> rfl
    · simp only [Entry.stray]; split <;> simp [HeadState.isFill]
  · exact .inr fun blank => absurd blank (Entry.ne_blank_of_state (by simp [st]))

theorem Part.fillDecision_keeps (st : (p.entry h).state = .waitFill) : p.Keeps (p.fillDecision h) := by
  unfold Part.fillDecision; split
  · exact .refl p
  · split
    · exact Part.refuseFill_keeps st _
    · split
      · exact Part.refuseFill_keeps st _
      · exact Part.startFill_keeps st _

/-! ### Crossings of a head with a container -/

theorem Part.goTo_keeps {st : HeadState} (before : (p.entry h).state.holds = true)
    (closed : (p.entry h).state.vents = false) (after : st.holds = true) (closed' : st.vents = false)
    (fill : (p.entry h).state.isFill = false) : p.Keeps (p.goTo h st) := by
  refine Part.modEntry_keeps ?_ (.inr fun blank => absurd blank (Entry.ne_blank_of_holds before))
  refine Entry.follows_of_closed closed closed' rfl (after.trans before.symm) ?_ id
  simp only [Entry.stray, fill, Bool.not_false, Bool.and_true, Bool.and_eq_true]
  exact And.left

theorem Part.pressuriseCrossing_keeps : p.Keeps (p.pressuriseCrossing h) := by
  unfold Part.pressuriseCrossing; split
  · next c st _ =>
    have waits : ∀ q : Part, (q.entry h).state = .sealing → q.Keeps (q.goTo h .waitDischarge) := fun q at_ =>
      Part.goTo_keeps (by rw [at_]; rfl) (by rw [at_]; rfl) rfl rfl (by rw [at_]; rfl)
    split
    · exact (Part.addContextFlag_keeps _).trans (waits _ (by simpa using st))
    · split
      · exact waits p st
      · split
        · exact (Part.addContextFlag_keeps _).trans (waits _ (by simpa using st))
        · refine Part.modEntry_keeps_of_state (by simp [st]) (Entry.follows_of_closed ?_ rfl rfl ?_ ?_ id)
          · rw [st]; rfl
          · rw [st]; rfl
          · simp [Entry.stray, st, HeadState.isFill]
  · exact .refl p

/-- A note in the entry of a head that does not rest. -/
theorem Part.note_keeps {f : Entry → Entry} (st : (p.entry h).state ≠ .rest)
    (state : (f (p.entry h)).state = (p.entry h).state)
    (relief : (f (p.entry h)).relief = (p.entry h).relief) (gas : (f (p.entry h)).gas = (p.entry h).gas)
    (fast : (f (p.entry h)).fast = (p.entry h).fast) (fine : (f (p.entry h)).fine = (p.entry h).fine)
    (waits : (f (p.entry h)).cleanWaiting = (p.entry h).cleanWaiting) : p.Keeps (p.modEntry h f) := by
  refine Part.modEntry_keeps_of_state st ⟨?_, by rw [state], ?_, by rw [waits]; exact id⟩
  · simp only [Entry.reliefOk, state, relief, gas, fast, fine]; exact id
  · simp only [Entry.stray, state, fast, fine]; exact .inl

theorem Part.fillStartCrossing_keeps : p.Keeps (p.fillStartCrossing h) := by
  unfold Part.fillStartCrossing; split
  · next st => exact Part.fillDecision_keeps st
  · next st => exact Part.note_keeps (by simp [st]) rfl rfl rfl rfl rfl rfl
  · exact .refl p

theorem Part.overrunFill_keeps (fills : (p.entry h).state.isFill = true) : p.Keeps (p.overrunFill h) :=
  ((Part.addContextFlag_keeps _).trans (Part.detect_keeps _)).trans (Part.toSettle_keeps (by simpa using fills) _)

theorem Part.fillEndCrossing_keeps : p.Keeps (p.fillEndCrossing h) := by
  unfold Part.fillEndCrossing; split
  · next st => exact Part.overrunFill_keeps (by rw [st]; rfl)
  · next st => exact Part.overrunFill_keeps (by rw [st]; rfl)
  · next st => exact Part.note_keeps (by simp [st]) rfl rfl rfl rfl rfl rfl
  · exact .refl p

theorem Part.flagRelief_keeps (holds : (p.entry h).state.holds = true) (f : ContainerFlag) (k : FaultKind) :
    p.Keeps (((p.addContextFlag h f).detect h k).openRelief h) :=
  ((Part.addContextFlag_keeps _).trans (Part.detect_keeps _)).trans (Part.openRelief_keeps (by simpa using holds))

theorem Part.cutRelief_keeps (holds : (p.entry h).state.holds = true) : p.Keeps ((p.cutSettle h).openRelief h) :=
  Part.cutSettle_keeps.trans (Part.openRelief_keeps (by simpa using holds))

@[simp] theorem Part.entry_overrunFill_state : ((p.overrunFill h).entry h).state = .settle := by
  simp [Part.overrunFill]

theorem Part.reliefCrossing_keeps : p.Keeps (p.reliefCrossing h) := by
  have overrun : (p.entry h).state.isFill = true → p.Keeps (((p.overrunFill h).cutSettle h).openRelief h) :=
    fun fills => (Part.overrunFill_keeps fills).trans (Part.cutRelief_keeps (by simp [HeadState.holds]))
  unfold Part.reliefCrossing; split
  · next st => exact Part.openRelief_keeps (by rw [st]; rfl)
  · next st => exact Part.cutRelief_keeps (by rw [st]; rfl)
  · next st => exact Part.flagRelief_keeps (by rw [st]; rfl) _ _
  · next st => exact Part.flagRelief_keeps (by rw [st]; rfl) _ _
  · next st => exact overrun (by rw [st]; rfl)
  · next st => exact overrun (by rw [st]; rfl)
  all_goals exact .refl p

/-! ### SAFE, seal drops -/

theorem Part.headSafe_keeps : p.Keeps (p.headSafe h) := by
  have abort : (p.entry h).state.holds = true →
      p.Keeps ((p.modContext h fun c => c.abortFill.flag .safeAbort).openRelief h) := fun holds =>
    Part.Keeps.trans Part.modContext_keeps (Part.openRelief_keeps (by simpa using holds))
  have flag : (p.entry h).state.holds = true → p.Keeps ((p.addContextFlag h .safeAbort).openRelief h) := fun holds =>
    (Part.addContextFlag_keeps _).trans (Part.openRelief_keeps (by simpa using holds))
  unfold Part.headSafe; split
  · next st => exact abort (by rw [st]; rfl)
  · next st => exact abort (by rw [st]; rfl)
  · next st => exact flag (by rw [st]; rfl)
  · next st => exact flag (by rw [st]; rfl)
  · next st => exact Part.cutRelief_keeps (by rw [st]; rfl)
  · next st => exact Part.openRelief_keeps (by rw [st]; rfl)
  all_goals exact .refl p

theorem Part.lose_keeps (holds : (p.entry h).state.holds = true) (f : ContainerFlag) : p.Keeps (p.lose h f) := by
  have step : ∀ (b : Prop) [Decidable b] (q r : Part), q.Keeps r → r.entry h = q.entry h →
      q.Keeps (if b then r else q) ∧ (if b then r else q).entry h = q.entry h := fun b _ q r keeps same => by
    split
    · exact ⟨keeps, same⟩
    · exact ⟨.refl q, rfl⟩
  unfold Part.lose
  obtain ⟨detects, at1⟩ := step (f = .sealLost) (p.addContextFlag h f) _ (Part.detect_keeps _)
    (Part.entry_detect h h _ .sealLost)
  obtain ⟨aborts, at2⟩ := step ((p.entry h).state.isFill = true) _ _
    (Part.modContext_keeps (h := h) (f := Context.abortFill)) (Part.entry_modContext h h _ _)
  obtain ⟨cuts, at3⟩ := step ((p.entry h).state = .settle) _ _ (Part.cutSettle_keeps (h := h)) (Part.entry_cutSettle h h _)
  refine ((((Part.addContextFlag_keeps f).trans detects).trans aborts).trans cuts).trans (Part.openRelief_keeps ?_)
  rw [at3, at2, at1, Part.entry_addContextFlag]
  exact holds

theorem Part.sealDropAt_keeps : p.Keeps (p.sealDropAt h) := by
  unfold Part.sealDropAt; split
  case h_7 => exact (Part.addContextFlag_keeps _).trans (Part.detect_keeps _)
  case h_1 st | h_2 st | h_3 st | h_4 st | h_5 st | h_6 st => exact Part.lose_keeps (by rw [st]; rfl) _
  all_goals exact .refl p

end cycle

end Sys2Proof.Machine
end

section
/-! Timers, pulses, coil tests, the Operation Slot and the production state keep the three invariants. -/

namespace Sys2Proof.Machine

open Sys2Proof

/-! ### Operations on the whole part that the invariants do not see -/

section stage

variable (h : HeadNo) (p : Part)

theorem Part.stage_setHeads {hs : Vector Head 64} (entry : ∀ g : HeadNo, (hs[g]).entry = p.entry g)
    (number : ∀ g : HeadNo, (hs[g]).context.map (·.number) = p.numberOn g)
    (service : ∀ g : HeadNo, (hs[g]).record.stored.inService = (p.record g).stored.inService) :
    { p with heads := hs }.stage = p.stage := by
  simp only [Part.stage, Stage.mk.injEq, and_true]
  exact ⟨funext entry, funext number, funext service⟩

@[simp] theorem Part.clockTo_stage (due : Nat) : (p.clockTo due).stage = p.stage := rfl
@[simp] theorem Part.modCarousel_stage (f : Carousel → Carousel) : (p.modCarousel f).stage = p.stage := rfl
@[simp] theorem Part.setSeal_stage (b : Bool) : (p.setSeal h b).stage = p.stage := rfl
@[simp] theorem Part.recomputePressure_stage : p.recomputePressure.stage = p.stage := rfl
@[simp] theorem Part.recomputeAdvisory_stage : p.recomputeAdvisory.stage = p.stage := rfl
@[simp] theorem Part.setHoldTimer_stage (t : Timer) : (p.setHoldTimer t).stage = p.stage := rfl
@[simp] theorem Part.setPort_stage (port : Port) (s : PortState) : (p.setPort port s).stage = p.stage := rfl

@[simp] theorem Part.moduleAnswers_stage (m : ModuleNo) : (p.moduleAnswers m).stage = p.stage := by
  unfold Part.moduleAnswers; split <;> rfl

@[simp] theorem Part.enqueue_stage (port : Port) (f : OutFrame) : (p.enqueue port f).stage = p.stage := by
  unfold Part.enqueue; dsimp only; split <;> rfl

@[simp] theorem Part.reply_stage (port : Port) (k : Nat) (a : Answer) : (p.reply port k a).stage = p.stage := by
  simp [Part.reply]

@[simp] theorem Part.crcPassed_stage (port : Port) : (p.crcPassed port).stage = p.stage := by cases port <;> rfl

@[simp] theorem Part.setMethod_stage (m : Method) (c : Option FaultKind) : (p.setMethod h m c).stage = p.stage :=
  Part.stage_of_offTable (Part.setMethod_offTable h p m c)
@[simp] theorem Part.modDiag_stage (f : Diag → Diag) : (p.modDiag h f).stage = p.stage :=
  Part.stage_of_offTable (Part.modDiag_offTable h p f)
@[simp] theorem Part.clearKind_stage (k : FaultKind) : (p.clearKind h k).stage = p.stage :=
  Part.stage_of_offTable (Part.clearKind_offTable h p k)
@[simp] theorem Part.decideKind_stage (k : FaultKind) : (p.decideKind h k).stage = p.stage :=
  Part.stage_of_offTable (Part.decideKind_offTable h p k)
@[simp] theorem Part.detect_stage (k : FaultKind) : (p.detect h k).stage = p.stage :=
  Part.stage_of_offTable (Part.detect_offTable h p k)
@[simp] theorem Part.coilDetect_stage (c : CoilFault) (v : Valve) : (p.coilDetect h c v).stage = p.stage :=
  Part.stage_of_offTable (Part.coilDetect_offTable h p c v)
@[simp] theorem Part.evaluateRate_stage : (p.evaluateRate h).stage = p.stage :=
  Part.stage_of_offTable (Part.evaluateRate_offTable h p)
@[simp] theorem Part.decideLive_stage : (p.decideLive h).stage = p.stage :=
  Part.stage_of_offTable (Part.decideLive_offTable h p)
@[simp] theorem Part.runawayPulse_stage : (p.runawayPulse h).stage = p.stage :=
  Part.stage_of_offTable (Part.runawayPulse_offTable h p)
@[simp] theorem Part.dischargeRunaway_stage : (p.dischargeRunaway h).stage = p.stage :=
  Part.stage_of_offTable (Part.dischargeRunaway_offTable h p)
@[simp] theorem Part.demandPulse_stage : (p.demandPulse h).stage = p.stage :=
  Part.stage_of_offTable (Part.demandPulse_offTable h p)
@[simp] theorem Part.countUninspected_stage : (p.countUninspected h).stage = p.stage :=
  Part.stage_of_offTable (Part.countUninspected_offTable h p)

/-- A change of a record that leaves the service of the head. -/
theorem Part.modRecord_stage {f : HeadRecord → HeadRecord}
    (service : (f (p.record h)).stored.inService = (p.record h).stored.inService) :
    (p.modRecord h f).stage = p.stage := by
  refine Part.stage_setHeads p (fun g => ?_) (fun g => ?_) (fun g => ?_)
  · exact Part.entry_modRecord h g f p
  · exact congrArg (Option.map _) (Part.context_modRecord h g f p)
  · refine (congrArg (·.stored.inService) (Part.record_modRecord h g f p)).trans ?_
    split
    · next same => subst same; exact service
    · rfl

@[simp] theorem Part.outcomeDetections_stage (t : TestReport) (c : CoilFault) (rs : List (Valve × TestReport)) :
    (p.outcomeDetections h t c rs).stage = p.stage :=
  foldl_view Part.stage _ (fun q r => by simp) _ p

@[simp] theorem Part.markHeldLong_stage : p.markHeldLong.stage = p.stage :=
  Part.stage_setHeads p (fun g => by simp; rfl)
    (fun g => by simp [Part.numberOn, Part.context, Function.comp_def, Context.flag]) (fun g => by simp; rfl)

@[simp] theorem Part.clearDrainTotals_stage : p.clearDrainTotals.stage = p.stage :=
  Part.stage_setHeads p (fun g => by simp; rfl) (fun g => by simp; rfl) (fun g => by simp; rfl)

end stage

/-! ### Expiries and bus arrivals -/

section expiries

variable {h : HeadNo} {p : Part}

theorem Part.atExpiry_keeps {t : Timer} {handle : Part → Part}
    (keeps : ∀ due, (p.clockTo due).Keeps (handle (p.clockTo due))) : p.Keeps (p.atExpiry t handle) := by
  unfold Part.atExpiry; split
  · exact .refl p
  · exact (Part.keeps_of_stage (Part.clockTo_stage p _)).trans (keeps _)

/-- An expiry of a phase timer is taken in its state alone. -/
theorem Part.phaseExpiry_keeps {st : HeadState} {handle : Part → Part}
    (keeps : ∀ q : Part, (q.entry h).state = st → q.Keeps (handle q)) : p.Keeps (p.phaseExpiry h st handle) := by
  unfold Part.phaseExpiry; split
  · next at_ => exact Part.atExpiry_keeps fun due => keeps _ at_
  · exact .refl p

/-- A bus arrival of a fitted head is handled behind the answer of its module. -/
theorem Part.busArrival_keeps {handle : Part → Part} (keeps : ∀ q : Part, q.fitted h = true → q.Keeps (handle q)) :
    p.Keeps (p.busArrival h handle) := by
  unfold Part.busArrival; split
  · exact .refl p
  · have answers := Part.keeps_of_stage (Part.moduleAnswers_stage p (moduleOf h))
    dsimp only; split
    · next fitted => exact answers.trans (keeps _ fitted)
    · exact answers

theorem Part.pressuriseEnd_keeps (st : (p.entry h).state = .pressurize) : p.Keeps (p.pressuriseEnd h) := by
  have waits : p.Keeps (p.modEntry h fun e => { e with state := .waitFill, timer := .stopped }) := by
    refine Part.modEntry_keeps_of_state (by simp [st]) (Entry.follows_of_closed ?_ rfl rfl ?_ ?_ id)
    · rw [st]; rfl
    · rw [st]; rfl
    · simp [Entry.stray, st, HeadState.isFill]
  unfold Part.pressuriseEnd; dsimp only; split
  · exact waits.trans (Part.fillDecision_keeps (by simp))
  · exact waits

theorem Part.settleEnd_keeps (st : (p.entry h).state = .settle) : p.Keeps (p.settleEnd h) := by
  unfold Part.settleEnd
  refine Part.Keeps.trans ?_ (Part.keeps_of_offTable (Part.takeSamples_offTable h _ _))
  apply Part.keeps_of_follows (h := h)
  · exact Part.modHead_offHead h _ p
  · simp [Part.record]
  · simp [Part.numberOn, Part.context, Function.comp_def]
  · simp only [Part.entry, Part.head_modHead, if_true]
    refine Entry.follows_of_closed ?_ rfl rfl ?_ ?_ id
    · rw [Part.entry] at st; rw [st]; rfl
    · rw [Part.entry] at st; rw [st]; rfl
    · rw [Part.entry] at st; simp [Entry.stray, st, HeadState.isFill]
  · exact .inr fun blank => absurd blank (Entry.ne_blank_of_state (by simp [st]))

/-- The relief valve closes as the head leaves RELIEF or VENT. -/
theorem Part.closeRelief_keeps {f : Entry → Entry} (vents : (p.entry h).state.vents = true)
    (closed : (f (p.entry h)).relief = false) (after : (f (p.entry h)).state.vents = false)
    (holds : (f (p.entry h)).state.holds = (p.entry h).state.holds)
    (stray : (f (p.entry h)).stray = true → (p.entry h).stray = true)
    (waits : (f (p.entry h)).cleanWaiting = (p.entry h).cleanWaiting) : p.Keeps (p.modEntry h f) := by
  refine Part.modEntry_keeps_of_state ?_ ⟨fun _ => ?_, holds, .inl ∘ stray, by rw [waits]; exact id⟩
  · intro rest; rw [rest] at vents; cases vents
  · rw [Entry.reliefOk_iff, closed, after]
    exact ⟨rfl, fun opened => absurd opened (by decide)⟩

theorem Part.reliefEnd_keeps (st : (p.entry h).state = .relief) : p.Keeps (p.reliefEnd h) := by
  refine Part.closeRelief_keeps ?_ rfl rfl ?_ ?_ rfl
  · rw [st]; rfl
  · rw [st]; rfl
  · simp [Entry.stray, st, HeadState.isFill]

/-- A coil test ends in REST; the clean valves that waited for its end open (R41). -/
theorem Part.leaveTest_keeps (st : (p.entry h).state = .testing) : p.Keeps (p.leaveTest h) := by
  unfold Part.leaveTest
  refine Part.modEntry_keeps_of_state (by simp [st]) ?_
  constructor
  · simp only [Entry.reliefOk_iff, st, HeadState.vents]
    rintro ⟨closed, -⟩
    split <;> simp [Entry.openClean, closed]
  · rw [st]; dsimp only; split <;> rfl
  · dsimp only; split
    · next opens =>
      simp only [Bool.and_eq_true] at opens
      exact fun _ => .inr opens.1.1
    · simp only [Entry.stray, st, HeadState.isFill]
      exact .inl
  · dsimp only; split <;> simp [Entry.openClean]

/-! ### Coil tests -/

theorem Part.beginTest_keeps (fitted : p.fitted h = true) (rest : (p.entry h).state = .rest) :
    p.Keeps (p.beginTest h) := by
  refine Part.modEntry_keeps (Entry.follows_of_closed ?_ rfl rfl ?_ ?_ id) (.inl fitted)
  · rw [rest]; rfl
  · rw [rest]; rfl
  · simp [Entry.stray, rest, HeadState.isFill]

/-- A fold over heads keeps the invariants when each of its steps does, under a condition on the heads that are still to
come. -/
theorem forEach_keeps_of {f : HeadNo → Part → Part} {P : HeadNo → Part → Prop} (stays : ∀ h g q, P g q → P g (f h q))
    (keeps : ∀ h (q : Part), P h q → q.Keeps (f h q)) {l : List HeadNo} (all : ∀ h ∈ l, P h p) :
    p.Keeps (forEach l f p) := by
  induction l generalizing p with
  | nil => exact .refl p
  | cons g l ih =>
    exact (keeps g p (all g List.mem_cons_self)).trans
      (ih fun h mem => stays g h p (all h (List.mem_cons_of_mem g mem)))

/-- A fold over the fitted heads keeps the invariants when each of its steps does. -/
theorem forFitted_keeps {f : HeadNo → Part → Part} (off : ∀ h (q : Part), (f h q).offHeads = q.offHeads)
    (keeps : ∀ h (q : Part), q.fitted h = true → q.Keeps (f h q)) : p.Keeps (forFitted f p) := by
  have fitted : ∀ h g (q : Part), q.fitted g = true → (f h q).fitted g = true := fun h g q known => by
    have view := congrArg (fun r : Part => r.machine.fitted.getLsbD g) (off h q)
    exact Eq.trans view known
  exact forEach_keeps_of fitted keeps fun h mem => (List.mem_filter.mp mem).2

theorem Part.beginMarked_keeps : p.Keeps p.beginMarked := by
  unfold Part.beginMarked
  refine forFitted_keeps (fun h q => by split <;> simp) fun h q fitted => ?_
  split
  · next marked => exact Part.beginTest_keeps fitted (by simp_all)
  · exact .refl q

/-! ### The production state -/

/-- Out of a cleaning the State Controller's fields may change. -/
theorem Part.control_keeps {c : Control} (still : ∀ g, p.cleans g = false) : p.Keeps { p with control := c } where
  relief inv := inv
  liquid inv := by
    rw [Part.liquidInterlock_iff] at inv ⊢
    intro g
    obtain ⟨stray, unfitted, waits, settles⟩ := inv g
    refine ⟨fun opened => .inr ((stray opened).resolve_left ?_), unfitted, fun waiting => ?_, settles⟩
    · simp [still g]
    · exact absurd (waits waiting) (by simp [still g])
  track inv := inv

theorem Part.cleans_of_not_drain (other : p.control.prod ≠ .drain) (g : HeadNo) : p.cleans g = false := by
  simp [Part.cleans, other]

theorem Part.setProd_keeps (still : ∀ g, p.cleans g = false) (new : Prod) : p.Keeps (p.setProd new) := by
  unfold Part.setProd; dsimp only; split
  · exact (Part.control_keeps still).trans Part.beginMarked_keeps
  · exact Part.control_keeps still

end expiries

/-! ### The Operation Slot -/

/-- The slot holds a calibration dose before its settle. -/
def Slot.doses : Slot → Bool
  | .pendingCal c => decide (c.phase ≠ .settle)
  | _ => false

section slot

variable {p : Part}

theorem Part.calDoses_of_slot (still : p.slot.doses = false) (h : HeadNo) : p.calDoses h = false := by
  unfold Part.calDoses Part.calOn
  cases slot : p.slot with
  | pendingCal c =>
    rw [slot] at still
    dsimp only; split
    · exact still
    · rfl
  | _ => rfl

/-- Without a dose in its fill before and after, the slot may change. -/
theorem Part.setSlot_keeps {s : Slot} (before : p.slot.doses = false) (after : s.doses = false) :
    p.Keeps { p with slot := s } where
  relief inv := inv
  liquid inv := by
    rw [Part.liquidInterlock_iff] at inv ⊢
    intro g
    have still : { p with slot := s }.calDoses g = false := Part.calDoses_of_slot after g
    obtain ⟨stray, unfitted, waits, settles⟩ := inv g
    refine ⟨fun opened => .inl ((stray opened).resolve_right ?_), unfitted, waits, fun doses => ?_⟩
    · simp [Part.calDoses_of_slot before g]
    · exact absurd doses (by simp [still])
  track inv := inv

/-- A dose that goes on, on the same head and with the same settle timer. -/
theorem Part.goOn_keeps {c d : CalRecord} (slot : p.slot = .pendingCal c) (head : d.head = c.head)
    (settle : d.settleTimer = c.settleTimer) (phase : d.phase = .settle ↔ c.phase = .settle) :
    p.Keeps { p with slot := .pendingCal d } where
  relief inv := inv
  liquid inv := by
    have doses : ∀ g, { p with slot := .pendingCal d }.calDoses g = p.calDoses g := fun g => by
      simp only [Part.calDoses, Part.calOn, slot, head]; split <;> simp [phase]
    have settles : ∀ g, ({ p with slot := Slot.pendingCal d }.calOn g).all (fun c : CalRecord => decide (c.settleTimer = Timer.stopped)) =
        (p.calOn g).all (fun c : CalRecord => decide (c.settleTimer = Timer.stopped)) := fun g => by
      simp only [Part.calOn, slot, head]; split <;> simp [settle]
    rw [Part.liquidInterlock_iff] at inv ⊢
    intro g
    obtain ⟨stray, unfitted, waits, stopped⟩ := inv g
    exact ⟨by rw [doses]; exact stray, unfitted, waits, by rw [doses, settles]; exact stopped⟩
  track inv := inv

@[simp] theorem Entry.stray_closeFill (e : Entry) : e.closeFill.stray = false := rfl

theorem Entry.closeFill_follows (e : Entry) : e.Follows e.closeFill where
  relief := by
    rw [Entry.reliefOk_iff, Entry.reliefOk_iff]
    exact fun ⟨vents, _⟩ => ⟨vents, fun _ => ⟨rfl, rfl, rfl⟩⟩
  holds := rfl
  stray := by simp
  waits := id

theorem Entry.withdraw_follows (v : Valve) (e : Entry) (other : v ≠ .relief) : e.Follows (e.withdraw v) := by
  cases v with
  | relief => exact absurd rfl other
  | gas | fast | fine =>
    refine ⟨?_, rfl, ?_, id⟩
    · simp only [Entry.reliefOk_iff, Entry.withdraw]
      rintro ⟨vents, shut⟩
      exact ⟨vents, fun opened => by simp [shut opened]⟩
    · refine Or.inl ∘ ?_
      simp only [Entry.stray, Entry.withdraw]
      cases e.fast <;> cases e.fine <;> simp

theorem Part.closeFill_keeps {h : HeadNo} : p.Keeps (p.modEntry h Entry.closeFill) :=
  Part.modEntry_keeps (Entry.closeFill_follows _) (.inr fun blank => by rw [blank]; rfl)

/-- The valves of a calibration dose close as it ends or settles. -/
theorem Part.closeCal_keeps {c : CalRecord} (slot : p.slot = .pendingCal c) {s : Slot} (after : s.doses = false) :
    p.Keeps { p.modEntry c.head Entry.closeFill with slot := s } where
  relief inv := (Part.closeFill_keeps (h := c.head)).relief inv
  liquid inv := by
    have closed := (Part.closeFill_keeps (h := c.head)).liquid inv
    rw [Part.liquidInterlock_iff] at closed ⊢
    intro g
    have still : { p.modEntry c.head Entry.closeFill with slot := s }.calDoses g = false :=
      Part.calDoses_of_slot after g
    obtain ⟨stray, unfitted, waits, -⟩ := closed g
    refine ⟨fun opened => .inl ((stray opened).resolve_right ?_), unfitted, waits, fun doses => ?_⟩
    · by_cases same : g = c.head
      · have shut := Part.entry_modEntry c.head g Entry.closeFill p
        rw [if_pos same] at shut
        exact absurd (shut ▸ opened) (by simp)
      · simp [Part.calDoses, Part.calOn, Part.modEntry, slot, Ne.symm same]
    · exact absurd doses (by simp [still])
  track inv := (Part.closeFill_keeps (h := c.head)).track inv

theorem Part.endCal_keeps {c : CalRecord} (slot : p.slot = .pendingCal c) (r : OpResult) (kind : r.kind = .calDose) :
    p.Keeps (p.endCal c r) := by
  have e : p.endCal c r = { p.modEntry c.head Entry.closeFill with slot := .finished r } := by
    simp [Part.endCal, Part.finish, Part.modEntry, slot, Slot.isPending, Slot.kind, kind]
  rw [e]
  exact Part.closeCal_keeps slot rfl

theorem Part.abortCal_keeps (cause : AbortCause) : p.Keeps (p.abortCal cause) := by
  unfold Part.abortCal; split
  · next c slot => exact Part.endCal_keeps slot _ rfl
  · exact .refl p

theorem Part.abortCalOn_keeps (h : HeadNo) (cause : AbortCause) : p.Keeps (p.abortCalOn h cause) := by
  unfold Part.abortCalOn; split
  · exact Part.abortCal_keeps cause
  · exact .refl p

/-- The results of the other operations find no calibration dose to end. -/
theorem Part.finish_keeps (r : OpResult) (kind : r.kind ≠ .calDose) : p.Keeps (p.finish r) := by
  unfold Part.finish; split
  · next pending =>
    refine Part.setSlot_keeps ?_ rfl
    obtain ⟨-, same⟩ := pending
    cases slot : p.slot with
    | pendingCal c => rw [slot] at same; exact absurd (Option.some.inj same).symm kind
    | _ => rfl
  · exact .refl p

theorem Part.endTestCoils_keeps (r : OpResult) (kind : r.kind ≠ .calDose) : p.Keeps (p.endTestCoils r) := by
  unfold Part.endTestCoils
  exact Part.Keeps.trans (q := { p with coilTest := .idle }) (Part.keeps_of_stage rfl) (Part.finish_keeps r kind)

theorem Part.checkTestCoils_keeps : p.Keeps p.checkTestCoils := by
  unfold Part.checkTestCoils
  exact .ite fun _ => Part.endTestCoils_keeps _ (by simp [OpResult.kind])

theorem Part.removeMark_keeps (h : HeadNo) : p.Keeps (p.removeMark h) := by
  unfold Part.removeMark
  exact .ite fun _ => Part.Keeps.trans (Part.keeps_of_stage (Part.modDiag_stage h p _)) Part.checkTestCoils_keeps

theorem Part.removeAllMarks_keeps : p.Keeps p.removeAllMarks := by
  have unmarked := Part.keeps_of_stage (Part.stage_setHeads p
    (hs := Vector.ofFn fun h => { p.head h with diag := { (p.head h).diag with mark := false } })
    (fun g => by simp; rfl) (fun g => by simp; rfl) (fun g => by simp; rfl))
  unfold Part.removeAllMarks; dsimp only; split
  · exact unmarked.trans (Part.endTestCoils_keeps _ (by decide))
  · exact unmarked

theorem Part.testExpiry_keeps {h : HeadNo} (st : (p.entry h).state = .testing) : p.Keeps (p.testExpiry h) := by
  unfold Part.testExpiry; dsimp only; split
  · exact Part.leaveTest_keeps st
  · refine (Part.leaveTest_keeps st).trans ?_
    unfold Part.testOutcome
    refine Part.Keeps.trans (Part.keeps_of_stage ?_) (Part.removeMark_keeps h)
    split <;> simp

/-! ### Pulses -/

theorem Part.calPulse_keeps {h : HeadNo} {c : CalRecord} (on : p.calOn h = some c) : p.Keeps (p.calPulse c) := by
  have slot : p.slot = .pendingCal c := by
    unfold Part.calOn at on
    split at on
    · next d slot => split at on <;> simp_all
    · cases on
  have counts : c.phase ≠ .settle → p.Keeps (p.calCount c) := fun phase => by
    unfold Part.calCount; dsimp only; split
    · exact Part.closeCal_keeps slot rfl
    · split
      · next fast =>
        have closes : p.Keeps (p.modEntry c.head (Entry.withdraw .fast)) :=
          Part.modEntry_keeps (Entry.withdraw_follows _ _ (by decide)) (.inr fun blank => by rw [blank]; rfl)
        exact closes.trans (Part.goOn_keeps (p := p.modEntry c.head (Entry.withdraw .fast)) slot rfl rfl (by simp [phase]))
      · exact Part.goOn_keeps slot rfl rfl Iff.rfl
  unfold Part.calPulse; split
  · next phase => exact counts (by simp [phase])
  · next phase => exact counts (by simp [phase])
  · next phase => exact Part.goOn_keeps slot rfl rfl (by simp [phase])

variable {h : HeadNo}

theorem Part.reportAlive_keeps : p.Keeps (p.reportAlive h) :=
  Part.Keeps.trans (q := p.modContext h fun c => { c with alive := true }) Part.modContext_keeps
    (Part.keeps_of_stage (Part.clearKind_stage h _ _))

theorem Part.fillPulse_keeps (c : Context) : p.Keeps (p.fillPulse h c) := by
  have closes : ∀ (a b : Prop) [Decidable a] [Decidable b] (q : Part),
      q.Keeps (if a then q.completeDose h else if b then q.fastClose h else q) := fun a b _ _ q => by
    split
    · exact Part.completeDose_keeps
    · exact .ite fun _ => Part.fastClose_keeps
  have alive : ∀ (a : Prop) [Decidable a] (q : Part), q.Keeps (if a then q.reportAlive h else q) := fun a _ q =>
    .ite fun _ => Part.reportAlive_keeps
  unfold Part.fillPulse
  exact Part.Keeps.trans (Part.Keeps.trans Part.modContext_keeps (alive _ _)) (closes _ _ _)

theorem Part.shadowPulse_keeps (c : Context) : p.Keeps (p.shadowPulse h c) := by
  have counted : p.Keeps (p.modContext h fun c => { c with shadow := countUp c.shadow }) :=
    Part.modContext_keeps
  unfold Part.shadowPulse; dsimp only; split
  · exact counted.trans Part.reportAlive_keeps
  · exact counted

theorem Part.dosePulse_keeps : p.Keeps (p.dosePulse h) := by
  have runaway := Part.keeps_of_stage (Part.runawayPulse_stage h p)
  unfold Part.dosePulse; split
  · exact runaway
  · split
    · split
      · split
        · exact Part.fillPulse_keeps _
        · exact Part.modContext_keeps
      · exact Part.shadowPulse_keeps _
      · exact runaway
    · exact runaway

theorem Part.pulse_keeps : p.Keeps (p.pulse h) := by
  have counted := Part.keeps_of_stage (Part.demandPulse_stage h p)
  unfold Part.pulse; split
  · exact .refl p
  · exact counted.trans (Part.keeps_of_stage (Part.modRecord_stage h _ rfl))
  all_goals
    dsimp only; split
    · next on => exact counted.trans (Part.calPulse_keeps on)
    · exact counted.trans Part.dosePulse_keeps

theorem Part.openExpiry_keeps : p.Keeps (p.openExpiry h) := by
  unfold Part.openExpiry; split
  · exact .refl p
  · exact Part.atExpiry_keeps fun due => Part.Keeps.trans Part.modContext_keeps Part.completeDose_keeps

theorem Part.silenceExpiry_keeps : p.Keeps (p.silenceExpiry h) := by
  unfold Part.silenceExpiry; split
  · exact .refl p
  · split
    · refine Part.atExpiry_keeps fun due => ?_
      unfold Part.meterSilence
      dsimp only; split
      · exact Part.Keeps.trans (Part.Keeps.trans (Part.detect_keeps _) Part.modContext_keeps) Part.modContext_keeps
      · exact Part.Keeps.trans (Part.Keeps.trans (Part.detect_keeps _) Part.modContext_keeps) Part.completeDose_keeps
    · exact .refl p

/-! ### The expiries of a calibration dose -/

theorem calSettleEnd_keeps : p.Keeps (calSettleEnd p) := by
  unfold calSettleEnd; split
  · next c slot =>
    unfold Part.atExpiry
    cases timer : c.settleTimer with
    | stopped => exact .refl p
    | running due =>
      have e : (p.clockTo due).finish c.done = { p.clockTo due with slot := .finished c.done } := by
        simp [Part.finish, slot, Slot.isPending, Slot.kind, CalRecord.done, OpResult.kind]
      dsimp only
      rw [e]
      by_cases phase : c.phase = .settle
      · exact (Part.keeps_of_stage (Part.clockTo_stage p due)).trans
          (Part.setSlot_keeps (by simp [slot, Slot.doses, phase]) rfl)
      · refine ⟨id, fun inv => ?_, id⟩
        have settles := (Part.liquidInterlock_iff.mp inv c.head).settles
        simp [Part.calDoses, Part.calOn, slot, phase, timer] at settles
  · exact .refl p

theorem calSilenceEnd_keeps : p.Keeps (calSilenceEnd p) := by
  unfold calSilenceEnd; split
  · next c slot => exact Part.atExpiry_keeps fun due => Part.endCal_keeps (p := p.clockTo due) slot _ rfl
  · exact .refl p

theorem calTimeoutEnd_keeps : p.Keeps (calTimeoutEnd p) := by
  unfold calTimeoutEnd; split
  · next c slot => exact Part.atExpiry_keeps fun due => Part.endCal_keeps (p := p.clockTo due) slot _ rfl
  · exact .refl p

end slot

end Sys2Proof.Machine
end

section
/-! SAFE, the vent sweep and the coil reports keep the three invariants. -/

namespace Sys2Proof.Machine

open Sys2Proof

/-! ### Folds over heads, seen at one head -/

/-- A fold over distinct heads, each step of which changes its own head, changes a head by its own step alone. -/
theorem forEach_head {f : HeadNo → Part → Part} (off : ∀ h q, (f h q).offHead h = q.offHead h) {l : List HeadNo}
    (nodup : l.Nodup) (p : Part) (g : HeadNo) :
    ∃ q : Part, q.head g = p.head g ∧ q.offHeads = p.offHeads ∧
      (forEach l f p).head g = if g ∈ l then (f g q).head g else p.head g := by
  induction l generalizing p with
  | nil => exact ⟨p, rfl, rfl, rfl⟩
  | cons h l ih =>
    obtain ⟨notMem, nodup⟩ := List.nodup_cons.mp nodup
    obtain ⟨q, head, rest, folded⟩ := ih nodup (f h p)
    have others := Part.offHeads_of_offHead (off h p)
    by_cases same : g = h
    · subst same
      refine ⟨p, rfl, rfl, ?_⟩
      rw [if_pos List.mem_cons_self]
      exact folded.trans (if_neg notMem)
    · refine ⟨q, head.trans (Part.head_of_offHead (off h p) same), rest.trans others, ?_⟩
      simp only [List.mem_cons, same, false_or]
      rw [← Part.head_of_offHead (off h p) same]
      exact folded

theorem Part.mem_fittedHeads (p : Part) (h : HeadNo) : h ∈ allHeads.filter p.fitted ↔ p.fitted h = true := by
  simp [allHeads]

theorem Part.nodup_fittedHeads (p : Part) : (allHeads.filter p.fitted).Nodup := (List.nodup_finRange 64).filter _

/-- A fold over the fitted heads changes a fitted head by its own step, and no other. -/
theorem forFitted_head {f : HeadNo → Part → Part} (off : ∀ h q, (f h q).offHead h = q.offHead h) (p : Part) (g : HeadNo) :
    ∃ q : Part, q.head g = p.head g ∧ q.offHeads = p.offHeads ∧
      (forFitted f p).head g = if p.fitted g = true then (f g q).head g else p.head g := by
  simpa only [Part.mem_fittedHeads, forFitted] using forEach_head off p.nodup_fittedHeads p g

section offHead

variable (h : HeadNo) (p : Part)

@[simp] theorem Part.modEntry_offHead (f : Entry → Entry) : (p.modEntry h f).offHead h = p.offHead h :=
  Part.modHead_offHead h _ p
@[simp] theorem Part.modContext_offHead (f : Context → Context) : (p.modContext h f).offHead h = p.offHead h :=
  Part.modHead_offHead h _ p
@[simp] theorem Part.addContextFlag_offHead (f : ContainerFlag) : (p.addContextFlag h f).offHead h = p.offHead h :=
  Part.modHead_offHead h _ p
@[simp] theorem Part.openRelief_offHead : (p.openRelief h).offHead h = p.offHead h := Part.modHead_offHead h _ p
@[simp] theorem Part.toSettle_offHead (st : DoseStatus) : (p.toSettle h st).offHead h = p.offHead h :=
  Part.modHead_offHead h _ p
@[simp] theorem Part.detect_offHead (k : FaultKind) : (p.detect h k).offHead h = p.offHead h :=
  Part.offHead_of_offTable (Part.detect_offTable h p k)
@[simp] theorem Part.coilDetect_offHead (c : CoilFault) (v : Valve) : (p.coilDetect h c v).offHead h = p.offHead h :=
  Part.offHead_of_offTable (Part.coilDetect_offTable h p c v)
@[simp] theorem Part.takeSamples_offHead (full : Bool) : (p.takeSamples h full).offHead h = p.offHead h :=
  Part.offHead_of_offTable (Part.takeSamples_offTable h p full)
@[simp] theorem Part.cutSettle_offHead : (p.cutSettle h).offHead h = p.offHead h := by simp [Part.cutSettle]

@[simp] theorem Part.headSafe_offHead : (p.headSafe h).offHead h = p.offHead h := by
  unfold Part.headSafe; split <;> simp

end offHead

section safe

variable {p : Part}

theorem Part.closeClean_follows (e : Entry) : e.Follows e.closeClean := by
  obtain ⟨relief, holds, -, -⟩ := Entry.closeFill_follows e
  exact ⟨relief, holds, fun opened => absurd opened (by simp [Entry.closeClean, Entry.stray, Entry.closeFill]),
    fun waits => by cases waits⟩

theorem Part.closeCleanValves_keeps : p.Keeps p.closeCleanValves :=
  forFitted_keeps (fun _ _ => rfl) fun _ _ _ =>
    Part.modEntry_keeps (Part.closeClean_follows _) (.inr fun blank => by rw [blank]; rfl)

theorem Part.closeCleanValves_head (p : Part) (g : HeadNo) : p.closeCleanValves.head g =
    if p.fitted g = true then { p.head g with entry := (p.entry g).closeClean } else p.head g := by
  obtain ⟨q, head, -, folded⟩ := forFitted_head (fun h q => Part.modEntry_offHead h q Entry.closeClean) p g
  unfold Part.closeCleanValves
  rw [folded]
  split
  · rw [Part.modEntry, Part.head_modHead, if_pos rfl, Part.entry, head]
  · rfl

/-- The fields of the State Controller matter to the liquid interlock alone. -/
theorem Part.control_keeps_but_liquid {q : Part} {c : Control} (liquid : p.LiquidInterlock → q.LiquidInterlock)
    (keeps : { p with control := c }.Keeps q) : p.Keeps q :=
  ⟨fun inv => keeps.relief inv, liquid, fun inv => keeps.track inv⟩

/-- With the clean valves of every fitted head closed the liquid interlock no longer asks for the cleaning (R41). -/
theorem Part.closeCleanValves_liquid {q : Part} (machine : q.machine = p.machine) (slot : q.slot = p.slot)
    (out : ∀ g, p.fitted g = false → q.head g = p.head g) (inv : p.LiquidInterlock) :
    q.closeCleanValves.LiquidInterlock := by
  rw [Part.liquidInterlock_iff] at inv ⊢
  intro g
  obtain ⟨-, unfitted, -, settles⟩ := inv g
  have offs := q.closeCleanValves_offHeads
  have head := Part.closeCleanValves_head q g
  rw [show q.fitted g = p.fitted g by rw [Part.fitted, machine]; rfl] at head
  have fitted : q.closeCleanValves.fitted g = p.fitted g := by
    have view := congrArg (fun r : Part => r.machine.fitted.getLsbD g) offs
    exact Eq.trans view (congrArg (fun m : MachineConfig => m.fitted.getLsbD g) machine)
  have calOn : q.closeCleanValves.calOn g = p.calOn g := by
    have view := congrArg Part.slot offs
    unfold Part.calOn; rw [show q.closeCleanValves.slot = p.slot from Eq.trans view slot]
  have calDoses : q.closeCleanValves.calDoses g = p.calDoses g := by unfold Part.calDoses; rw [calOn]
  cases known : p.fitted g with
  | true =>
    rw [known, if_pos rfl] at head
    have entry : q.closeCleanValves.entry g = (q.entry g).closeClean := congrArg Head.entry head
    refine ⟨?_, fun none_ => absurd (fitted.symm.trans none_) (by simp [known]), ?_, by rw [calDoses, calOn]; exact settles⟩
    · rw [entry]; exact fun opened => absurd opened (by simp [Entry.closeClean, Entry.stray, Entry.closeFill])
    · rw [entry]; exact fun waiting => by cases waiting
  | false =>
    rw [known, if_neg (by decide), out g known] at head
    obtain ⟨none_, blank⟩ := unfitted known
    have entry : q.closeCleanValves.entry g = blankEntry := (congrArg Head.entry head).trans blank
    refine ⟨?_, fun _ => ⟨?_, entry⟩, ?_, by rw [calDoses, calOn]; exact settles⟩
    · rw [entry]; exact fun opened => absurd opened (by decide)
    · rw [Part.numberOn, Part.context, head]; exact none_
    · rw [entry]; exact fun waiting => by cases waiting

/-- SAFE entry out of DRAIN closes every clean valve, so that none is left open when the part is no longer in DRAIN
(R41). -/
theorem Part.safeFromDrain_keeps (c : Control) :
    p.Keeps (forFitted Part.headSafe { p with control := c }).closeCleanValves := by
  have offs := forFitted_view Part.offHeads _ (fun h q => Part.headSafe_offHeads h q) { p with control := c }
  refine Part.control_keeps_but_liquid (c := c) (Part.closeCleanValves_liquid ?_ ?_ fun g out => ?_)
    (Part.Keeps.trans (forFitted_keeps (fun h q => Part.headSafe_offHeads h q) fun h q _ => Part.headSafe_keeps)
      Part.closeCleanValves_keeps)
  · have view := congrArg Part.machine offs; exact view
  · have view := congrArg Part.slot offs; exact view
  · obtain ⟨r, -, -, folded⟩ := forFitted_head (fun h q => Part.headSafe_offHead h q) { p with control := c } g
    have out' : { p with control := c }.fitted g = false := out
    rw [folded, out', if_neg (by decide)]; rfl

theorem Part.enterSafe_keeps (cause : Cause) : p.Keeps (p.enterSafe cause) := by
  have ends : ∀ q : Part, q.Keeps (q.removeAllMarks.abortCal .safe) := fun q =>
    Part.Keeps.trans Part.removeAllMarks_keeps (Part.abortCal_keeps _)
  unfold Part.enterSafe; dsimp only; split
  · exact Part.Keeps.trans (Part.safeFromDrain_keeps _) (ends _)
  · next other =>
    have heads : ∀ q : Part, q.Keeps (forFitted Part.headSafe q) := fun q =>
      forFitted_keeps (fun h q => Part.headSafe_offHeads h q) fun h q _ => Part.headSafe_keeps
    have still := Part.cleans_of_not_drain (p := p) (by simpa using other)
    exact Part.Keeps.trans ((Part.control_keeps still).trans (heads _)) (ends _)

theorem Part.raiseSafe_keeps (cause : Cause) : p.Keeps (p.raiseSafe cause) := by
  unfold Part.raiseSafe; split
  · exact .refl p
  · next safe => exact Part.control_keeps (Part.cleans_of_not_drain (by simp [safe]))
  all_goals exact Part.enterSafe_keeps cause

/-! ### The vent sweep -/

theorem Part.sweepDone_keeps (config : p.control.prod = .config) : p.Keeps p.sweepDone := by
  have standby : p.Keeps (p.setProd .standby) :=
    Part.setProd_keeps (Part.cleans_of_not_drain (by simp [config])) _
  have starts : ∀ (q : Part) (t : Timer), q.Keeps { q with lineTimer := t } := fun q t => Part.keeps_of_stage rfl
  have silent : ∀ q : Part, q.Keeps (if q.anySilent then q.raiseSafe .headBus else q) := fun q =>
    .ite fun _ => Part.raiseSafe_keeps _
  unfold Part.sweepDone
  exact Part.Keeps.trans (Part.Keeps.trans standby (starts _ _)) (silent _)

theorem Part.checkSweep_keeps : p.Keeps p.checkSweep :=
  .ite fun done => Part.sweepDone_keeps done.1

variable {h : HeadNo}

/-- The vent of a head ends in REST. -/
theorem Part.endVent_keeps (st : (p.entry h).state = .vent) :
    p.Keeps (p.modEntry h fun e => { e with relief := false, timer := .stopped, state := .rest }) := by
  refine Part.closeRelief_keeps ?_ rfl rfl ?_ ?_ rfl
  · rw [st]; rfl
  · rw [st]; rfl
  · simp [Entry.stray, st, HeadState.isFill]

theorem Part.ventEnd_keeps (st : (p.entry h).state = .vent) : p.Keeps (p.ventEnd h) :=
  Part.Keeps.trans (Part.endVent_keeps st) Part.checkSweep_keeps

/-! ### Coil reports -/

theorem Part.coilReportAt_keeps (v : Valve) : p.Keeps (p.coilReportAt h v) := by
  have lost : (p.entry h).state.holds = true →
      p.Keeps (if v ≠ .relief ∧ (p.entry h).isOpen v = true then p.lose h .valveFault else p) := fun holds =>
    .ite fun _ => Part.lose_keeps holds _
  have cleaned : p.Keeps (if p.control.prod = .drain ∧ v ≠ .relief then p.modEntry h (Entry.withdraw v) else p) :=
    .ite fun ⟨_, other⟩ => Part.modEntry_keeps (Entry.withdraw_follows v _ other)
      (.inr fun blank => by rw [blank]; cases v <;> rfl)
  unfold Part.coilReportAt; dsimp only; split
  case h_1 st | h_2 st | h_3 st | h_4 st => exact lost (by rw [st]; rfl)
  case h_5 st =>
    refine .ite fun _ => Part.closeRelief_keeps ?_ rfl rfl ?_ ?_ rfl
    · rw [st]; rfl
    · rw [st]; rfl
    · simp [Entry.stray, st, HeadState.isFill]
  case h_6 st => exact .ite fun _ => Part.Keeps.trans (Part.endVent_keeps st) Part.checkSweep_keeps
  case h_7 | h_8 => exact cleaned
  all_goals exact .refl p

theorem Part.coilReport_keeps (v : Valve) (c : CoilFault) : p.Keeps (p.coilReport h v c) := by
  have ends : p.Keeps (p.coilReportCal h v) := .ite fun _ => Part.abortCalOn_keeps h _
  exact Part.Keeps.trans (Part.Keeps.trans ends (Part.coilReportAt_keeps v))
    (Part.keeps_of_stage (Part.coilDetect_stage h _ c v))

end safe

end Sys2Proof.Machine
end

section
/-! The container track under an admission, a discharge and the ageing. -/

namespace Sys2Proof.Machine

open Sys2Proof

/-! ### Lists of container records -/

/-- The ageing at a discharge (R98), on the list of records: with more than D + 12 DISCHARGED the oldest leaves. -/
def agedTrack (d : Nat) (t : List TrackRecord) : List TrackRecord :=
  if d + 12 < dischargedCount t then t.eraseP (·.isDischarged) else t

/-- A discharge (R96, R97) on the list of records. -/
def dischargeTrack (d : Nat) (h : HeadNo) (res : Discharged) (t : List TrackRecord) : List TrackRecord :=
  if isOldest t h then agedTrack d (writeResult h res t) else t.eraseP (TrackRecord.standsOn h)

theorem TrackRecord.standsOn_iff {h : HeadNo} {r : TrackRecord} :
    r.standsOn h = true ↔ r.isDischarged = false ∧ r.head = h := by simp [TrackRecord.standsOn]

theorem TrackRecord.not_standsOn_of_discharged {r : TrackRecord} (done : r.isDischarged = true) (h : HeadNo) :
    r.standsOn h = false := by simp [TrackRecord.standsOn, done]

theorem filter_eraseP_of_disjoint {α : Type} (p q : α → Bool) (disjoint : ∀ a, p a = true → q a = false) (l : List α) :
    (l.eraseP p).filter q = l.filter q := by
  induction l with
  | nil => rfl
  | cons a l ih =>
    cases at_ : p a with
    | true => simp [at_, disjoint a at_]
    | false => simp [at_, List.filter_cons, ih]

theorem filter_eraseP_self {α : Type} (p : α → Bool) (l : List α) : (l.eraseP p).filter p = (l.filter p).tail := by
  induction l with
  | nil => rfl
  | cons a l ih => cases at_ : p a <;> simp [at_, ih]

theorem filter_standsOn_writeResult (h g : HeadNo) (res : Discharged) (t : List TrackRecord) :
    (writeResult h res t).filter (TrackRecord.standsOn g) =
      if g = h then [] else t.filter (TrackRecord.standsOn g) := by
  induction t with
  | nil => simp [writeResult]
  | cons r t ih =>
    have tail : (writeResult h res (r :: t)) = (if r.standsOn h then { r with result := some res } else r) ::
        writeResult h res t := rfl
    have gone : TrackRecord.standsOn g { r with result := some res } = false := rfl
    cases at_ : r.standsOn h with
    | true =>
      rw [tail, at_, if_pos rfl, List.filter_cons_of_neg (by rw [gone]; decide), ih]
      by_cases same : g = h
      · simp [same]
      · have other : r.standsOn g = false := by
          rw [← Bool.not_eq_true, TrackRecord.standsOn_iff]
          exact fun ⟨_, on⟩ => same (on.symm.trans (TrackRecord.standsOn_iff.mp at_).2)
        simp [same, other]
    | false =>
      rw [tail, at_, if_neg (by decide), List.filter_cons, ih]
      by_cases same : g = h
      · subst same; simp [at_]
      · simp [same, List.filter_cons]

theorem filter_standsOn_agedTrack (d : Nat) (g : HeadNo) (t : List TrackRecord) :
    (agedTrack d t).filter (TrackRecord.standsOn g) = t.filter (TrackRecord.standsOn g) := by
  unfold agedTrack; split
  · exact filter_eraseP_of_disjoint _ _ (fun r done => TrackRecord.not_standsOn_of_discharged done g) t
  · rfl

theorem dischargedCount_eraseP (t : List TrackRecord) :
    dischargedCount (t.eraseP (·.isDischarged)) = dischargedCount t - 1 := by
  rw [dischargedCount, filter_eraseP_self, List.length_tail]; rfl

theorem dischargedCount_agedTrack (d : Nat) (t : List TrackRecord) :
    dischargedCount (agedTrack d t) = if d + 12 < dischargedCount t then dischargedCount t - 1 else dischargedCount t := by
  unfold agedTrack; split
  · exact dischargedCount_eraseP t
  · rfl

/-- The order of R93: every DISCHARGED record stands before every ON_CAROUSEL one. -/
abbrev Ordered (t : List TrackRecord) : Prop := t.Pairwise fun a b => a.isDischarged = true ∨ b.isDischarged = false

theorem ordered_agedTrack {d : Nat} {t : List TrackRecord} (order : Ordered t) : Ordered (agedTrack d t) := by
  unfold agedTrack; split
  · exact order.sublist List.eraseP_sublist
  · exact order

/-- The container that is discharged as the oldest one stands right behind the DISCHARGED records. -/
theorem writeResult_of_isOldest {h : HeadNo} {t : List TrackRecord} (oldest : isOldest t h = true)
    (one : (t.filter (TrackRecord.standsOn h)).length ≤ 1) (res : Discharged) :
    ∃ (done : List TrackRecord) (r : TrackRecord) (rest : List TrackRecord), t = done ++ r :: rest ∧
      (∀ a ∈ done, a.isDischarged = true) ∧ r.isDischarged = false ∧
      writeResult h res t = done ++ { r with result := some res } :: rest := by
  unfold isOldest at oldest
  obtain ⟨r, first, head⟩ := (Option.any_eq_true _ _).mp oldest
  obtain ⟨on, done, rest, split_, before⟩ := List.find?_eq_some_iff_append.mp first
  have done_ : ∀ a ∈ done, a.isDischarged = true := fun a mem => by simpa using before a mem
  have open_ : r.isDischarged = false := by simpa using on
  have stands : r.standsOn h = true := TrackRecord.standsOn_iff.mpr ⟨open_, by simpa using head⟩
  refine ⟨done, r, rest, split_, done_, open_, ?_⟩
  have none_ : ∀ a ∈ rest, a.standsOn h = false := fun a mem => by
    subst split_
    rw [List.filter_append, List.filter_cons_of_pos stands, List.length_append, List.length_cons] at one
    have empty : rest.filter (TrackRecord.standsOn h) = [] := List.length_eq_zero_iff.mp (by omega)
    simpa using List.filter_eq_nil_iff.mp empty a mem
  rw [split_, writeResult, List.map_append, List.map_cons, if_pos stands]
  congr 1
  · exact (List.map_congr_left fun a mem => by
      rw [TrackRecord.not_standsOn_of_discharged (done_ a mem)]; rfl).trans (List.map_id _)
  · exact congrArg _ ((List.map_congr_left fun a mem => by rw [none_ a mem]; rfl).trans (List.map_id _))

/-- The record that a discharge completes is DISCHARGED besides those that were (R96). -/
theorem dischargedCount_writeResult {h : HeadNo} {t : List TrackRecord} (oldest : isOldest t h = true)
    (one : (t.filter (TrackRecord.standsOn h)).length ≤ 1) (res : Discharged) :
    dischargedCount (writeResult h res t) = dischargedCount t + 1 := by
  obtain ⟨done, r, rest, split_, -, open_, written⟩ := writeResult_of_isOldest oldest one res
  have gone : TrackRecord.isDischarged { r with result := some res } = true := rfl
  rw [written, split_, dischargedCount, dischargedCount, List.filter_append, List.filter_append,
    List.filter_cons_of_pos (p := fun x : TrackRecord => x.isDischarged) gone,
    List.filter_cons_of_neg (by simp [open_])]
  simp only [List.length_append, List.length_cons]
  omega

/-- A track that agrees with the numbers on the heads, with at most `d + 12` DISCHARGED records (R44, R93, R98). -/
structure TrackOf (t : List TrackRecord) (number : HeadNo → Option Nat) (d : Nat) : Prop where
  record : ∀ h, (t.filter (TrackRecord.standsOn h)).map (·.number) = (number h).toList
  order : Ordered t
  bound : dischargedCount t ≤ d + 12

theorem TrackOf.one {t : List TrackRecord} {number : HeadNo → Option Nat} {d : Nat} (ok : TrackOf t number d)
    (h : HeadNo) : (t.filter (TrackRecord.standsOn h)).length ≤ 1 := by
  have length := congrArg List.length (ok.record h)
  rw [List.length_map] at length
  rw [length]
  cases number h <;> simp

/-- After a discharge the head has no record on the carousel; the other heads keep theirs. -/
theorem TrackOf.discharge {t : List TrackRecord} {number : HeadNo → Option Nat} {d : Nat} (ok : TrackOf t number d)
    (h : HeadNo) (res : Discharged) :
    TrackOf (dischargeTrack d h res t) (fun g => if g = h then none else number g) d := by
  have bound := ok.bound
  unfold dischargeTrack
  split
  · next oldest =>
    obtain ⟨done, r, rest, split_, done_, open_, written⟩ := writeResult_of_isOldest oldest (ok.one h) res
    have order := ok.order
    rw [Ordered, split_, List.pairwise_append, List.pairwise_cons] at order
    obtain ⟨ordered, ⟨behind, orderedRest⟩, -⟩ := order
    have after : ∀ a ∈ rest, a.isDischarged = false := fun a mem => (behind a mem).resolve_left (by simp [open_])
    refine ⟨fun g => ?_, ordered_agedTrack ?_, ?_⟩
    · rw [filter_standsOn_agedTrack, filter_standsOn_writeResult]
      split
      · rfl
      · exact ok.record g
    · rw [written, Ordered, List.pairwise_append, List.pairwise_cons]
      exact ⟨ordered, ⟨fun a mem => .inr (after a mem), orderedRest⟩, fun a mem b _ => .inl (done_ a mem)⟩
    · have count := dischargedCount_writeResult oldest (ok.one h) res
      rw [dischargedCount_agedTrack]
      split <;> omega
  · refine ⟨fun g => ?_, ok.order.sublist List.eraseP_sublist, ?_⟩
    · by_cases same : g = h
      · subst same
        have one := ok.one g
        rw [if_pos rfl, filter_eraseP_self]
        cases stand : t.filter (TrackRecord.standsOn g) with
        | nil => rfl
        | cons r rest => rw [stand] at one; simp at one; simp [one]
      · have disjoint : ∀ r : TrackRecord, r.standsOn h = true → r.standsOn g = false := fun r on => by
          rw [← Bool.not_eq_true, TrackRecord.standsOn_iff]
          exact fun ⟨_, other⟩ => same (other.symm.trans (TrackRecord.standsOn_iff.mp on).2)
        rw [if_neg same, filter_eraseP_of_disjoint _ _ disjoint]
        exact ok.record g
    · have disjoint : ∀ r : TrackRecord, r.standsOn h = true → r.isDischarged = false := fun r on =>
        (TrackRecord.standsOn_iff.mp on).1
      rw [dischargedCount, filter_eraseP_of_disjoint _ _ disjoint]
      exact bound

/-- At an admission the record of the new container joins the end, and records too old leave (R92, R99). -/
theorem TrackOf.admitted {t : List TrackRecord} {number : HeadNo → Option Nat} {d : Nat} (ok : TrackOf t number d)
    {r : TrackRecord} (new : r.result = none) (bare : number r.head = none) (m k : Nat) :
    TrackOf ((t ++ [r]).filter fun x => !tooOld m k x) (fun g => if g = r.head then some r.number else number g) d := by
  have open_ : r.isDischarged = false := by simp [TrackRecord.isDischarged, new]
  have keep : ∀ x : TrackRecord, x.isDischarged = false → tooOld m k x = false := fun x out => by simp [tooOld, out]
  refine ⟨fun g => ?_, ?_, ?_⟩
  · have stands : ((t ++ [r]).filter fun x => !tooOld m k x).filter (TrackRecord.standsOn g) =
        (t ++ [r]).filter (TrackRecord.standsOn g) := by
      rw [List.filter_filter]
      refine List.filter_congr fun x _ => ?_
      cases at_ : x.standsOn g with
      | true => simp [keep x (TrackRecord.standsOn_iff.mp at_).1]
      | false => rfl
    rw [stands, List.filter_append, List.map_append, ok.record g]
    by_cases same : g = r.head
    · subst same
      simp [bare, TrackRecord.standsOn, open_]
    · simp [same, TrackRecord.standsOn, Ne.symm same]
  · refine List.Pairwise.sublist List.filter_sublist (List.pairwise_append.mpr ⟨ok.order, List.pairwise_singleton _ _, ?_⟩)
    intro a _ b mem
    rw [List.mem_singleton.mp mem]
    exact .inr open_
  · have sub : dischargedCount ((t ++ [r]).filter fun x => !tooOld m k x) ≤ dischargedCount (t ++ [r]) :=
      (List.filter_sublist.filter _).length_le
    have same : dischargedCount (t ++ [r]) = dischargedCount t := by
      simp [dischargedCount, open_]
    exact sub.trans (same ▸ ok.bound)

/-- A DISCHARGED record may leave. -/
theorem TrackOf.erase {t : List TrackRecord} {number : HeadNo → Option Nat} {d : Nat} (ok : TrackOf t number d)
    {p : TrackRecord → Bool} (done : ∀ r, p r = true → r.isDischarged = true) : TrackOf (t.eraseP p) number d := by
  refine ⟨fun g => ?_, ok.order.sublist List.eraseP_sublist, ?_⟩
  · rw [filter_eraseP_of_disjoint _ _ fun r at_ => TrackRecord.not_standsOn_of_discharged (done r at_) g]
    exact ok.record g
  · exact (List.eraseP_sublist.filter _).length_le.trans ok.bound

theorem Part.agrees_iff {p : Part} : p.Agrees ↔
    (∀ h, (p.numberOn h).isSome = (p.entry h).state.holds) ∧ TrackOf p.track p.numberOn p.machine.inspection ∧
      (∀ h, p.fitted h = false → p.numberOn h = none) ∧
      (p.phase ≠ .running → p.track = [] ∧ ∀ h, p.numberOn h = none) :=
  ⟨fun ⟨holds, record, unfitted, order, bound, bare⟩ => ⟨holds, ⟨record, order, bound⟩, unfitted, bare⟩,
    fun ⟨holds, ⟨record, order, bound⟩, unfitted, bare⟩ => ⟨holds, record, unfitted, order, bound, bare⟩⟩

end Sys2Proof.Machine
end

section
/-! Admissions, discharges and the crossings, the steps of the carousel and the zero mark keep the three invariants. -/

namespace Sys2Proof.Machine

open Sys2Proof

/-! ### The track's work leaves every head's entry, context and service -/

/-- The part without what the Container Track, the totals of the heads and the transmit queues hold. -/
def Part.offTrack (p : Part) : Part :=
  { p with
    heads := viewHeads
    advisory := 0
    track := []
    nextNumber := 0
    links := resetPart.links
    control := { p.control with admitted := 0, discharged := 0 } }

section reading

variable {p q : Part} (e : q.offTrack = p.offTrack)
include e

theorem Part.machine_of_offTrack : q.machine = p.machine := by have view := congrArg Part.machine e; exact view
theorem Part.phase_of_offTrack : q.phase = p.phase := by have view := congrArg Part.phase e; exact view
theorem Part.slot_of_offTrack : q.slot = p.slot := by have view := congrArg Part.slot e; exact view
theorem Part.prod_of_offTrack : q.control.prod = p.control.prod := by
  have view := congrArg (·.control.prod) e; exact view
theorem Part.cleanOpened_of_offTrack : q.control.cleanOpened = p.control.cleanOpened := by
  have view := congrArg (·.control.cleanOpened) e; exact view

end reading

/-- The entries, the contexts and the service of all heads. -/
def Part.bodies (p : Part) : HeadNo → Entry × Option Context × Bool :=
  fun g => (p.entry g, p.context g, (p.record g).stored.inService)

theorem Part.offTrack_of_offHeads {p q : Part} (e : q.offHeads = p.offHeads) : q.offTrack = p.offTrack := by
  have view : ∀ r : Part, r.offHeads.offTrack = r.offTrack := fun _ => rfl
  rw [← view q, e, view]

theorem Part.bodies_of_offTable {h : HeadNo} {p q : Part} (e : q.offTable h = p.offTable h) : q.bodies = p.bodies :=
  funext fun g => Prod.ext (Part.entry_of_offTable e g)
    (Prod.ext (Part.context_of_offTable e g) (Part.inService_of_offTable e g))

section reading

variable {p q : Part} (e : q.bodies = p.bodies)
include e

theorem Part.entry_of_bodies (g : HeadNo) : q.entry g = p.entry g := congrArg Prod.fst (congrFun e g)
theorem Part.context_of_bodies (g : HeadNo) : q.context g = p.context g := congrArg (·.2.1) (congrFun e g)
theorem Part.inService_of_bodies (g : HeadNo) : (q.record g).stored.inService = (p.record g).stored.inService :=
  congrArg (·.2.2) (congrFun e g)

theorem Part.numberOn_of_bodies (g : HeadNo) : q.numberOn g = p.numberOn g := by
  unfold Part.numberOn; rw [Part.context_of_bodies e]

end reading

section offTrack

variable (h : HeadNo) (p : Part)

@[simp] theorem Part.enqueue_offTrack (port : Port) (f : OutFrame) : (p.enqueue port f).offTrack = p.offTrack := by
  unfold Part.enqueue; dsimp only; split <;> rfl

@[simp] theorem Part.enqueue_bodies (port : Port) (f : OutFrame) : (p.enqueue port f).bodies = p.bodies := by
  unfold Part.enqueue; dsimp only; split <;> rfl

@[simp] theorem Part.enqueue_track (port : Port) (f : OutFrame) : (p.enqueue port f).track = p.track := by
  unfold Part.enqueue; dsimp only; split <;> rfl

@[simp] theorem Part.countUninspected_offTrack : (p.countUninspected h).offTrack = p.offTrack := rfl

@[simp] theorem Part.countUninspected_bodies : (p.countUninspected h).bodies = p.bodies :=
  Part.bodies_of_offTable (Part.countUninspected_offTable h p)

@[simp] theorem Part.ageOldest_offTrack : p.ageOldest.offTrack = p.offTrack := by
  unfold Part.ageOldest; split <;> rfl

@[simp] theorem Part.ageOldest_bodies : p.ageOldest.bodies = p.bodies := by
  unfold Part.ageOldest; split
  · rfl
  · exact Part.countUninspected_bodies _ _

@[simp] theorem Part.ageByCount_offTrack : p.ageByCount.offTrack = p.offTrack := by
  unfold Part.ageByCount; split <;> simp

@[simp] theorem Part.ageByCount_bodies : p.ageByCount.bodies = p.bodies := by
  unfold Part.ageByCount; split <;> simp

theorem Part.ageByCount_track : p.ageByCount.track = agedTrack p.machine.inspection p.track := by
  unfold Part.ageByCount agedTrack; split
  · next many =>
    unfold Part.ageOldest; split
    · next none_ =>
      have empty : p.track.filter (·.isDischarged) = [] :=
        List.filter_eq_nil_iff.mpr (List.find?_eq_none.mp none_)
      simp [dischargedCount, empty] at many
    · rfl
  · rfl

@[simp] theorem ageExcess_offTrack (n : Nat) : (ageExcess n p).offTrack = p.offTrack := by
  induction n generalizing p with
  | zero => rfl
  | succ n ih => exact (ih _).trans (Part.ageByCount_offTrack p)

@[simp] theorem ageExcess_bodies (n : Nat) : (ageExcess n p).bodies = p.bodies := by
  induction n generalizing p with
  | zero => rfl
  | succ n ih => exact (ih _).trans (Part.ageByCount_bodies p)

@[simp] theorem Part.ageByNumber_offTrack (m : Nat) : (p.ageByNumber m).offTrack = p.offTrack :=
  forEach_view Part.offTrack Part.countUninspected Part.countUninspected_offTrack _ _

@[simp] theorem Part.ageByNumber_bodies (m : Nat) : (p.ageByNumber m).bodies = p.bodies :=
  forEach_view Part.bodies Part.countUninspected Part.countUninspected_bodies _ _

theorem Part.ageByNumber_track (m : Nat) :
    (p.ageByNumber m).track = p.track.filter fun r => !tooOld m p.machine.inspection r :=
  forEach_view Part.track Part.countUninspected (fun _ _ => rfl) _ _

@[simp] theorem Part.trackAdmit_offTrack (c : Context) : (p.trackAdmit h c).offTrack = p.offTrack :=
  Part.ageByNumber_offTrack _ _

@[simp] theorem Part.trackAdmit_bodies (c : Context) : (p.trackAdmit h c).bodies = p.bodies := by
  have marked : ∀ (q : Part) (f : HeadRecord → Option Nat),
      (q.modRecord h fun x => { x with trimFrom := f x }).bodies = q.bodies := fun q f => by
    refine funext fun g => ?_
    simp only [Part.bodies, Part.entry_modRecord, Part.context_modRecord, Part.record_modRecord]
    split
    · next same => subst same; rfl
    · rfl
  exact (Part.ageByNumber_bodies _ _).trans (marked _ _)

theorem Part.trackAdmit_track (c : Context) : (p.trackAdmit h c).track =
    (p.track ++ [(⟨p.nextNumber, h, if c.revision.isSome then p.control.activeSlot else none, none⟩ : TrackRecord)]).filter
      fun r => !tooOld p.nextNumber p.machine.inspection r :=
  Part.ageByNumber_track _ _

@[simp] theorem Part.track_offTrack (t : List TrackRecord) : { p with track := t }.offTrack = p.offTrack := rfl

@[simp] theorem Part.track_bodies (t : List TrackRecord) : { p with track := t }.bodies = p.bodies := rfl

@[simp] theorem Part.countDischarge_offTrack : p.countDischarge.offTrack = p.offTrack := rfl

@[simp] theorem Part.countDischarge_bodies : p.countDischarge.bodies = p.bodies := rfl

@[simp] theorem Part.trackDischarge_offTrack (c : Context) : (p.trackDischarge h c).offTrack = p.offTrack := by
  unfold Part.trackDischarge; dsimp only; split
  · exact Part.countDischarge_offTrack p
  · split <;> simp only [Part.countDischarge_offTrack, Part.ageByCount_offTrack, Part.countUninspected_offTrack,
      Part.track_offTrack, Part.enqueue_offTrack]

@[simp] theorem Part.trackDischarge_bodies (c : Context) : (p.trackDischarge h c).bodies = p.bodies := by
  unfold Part.trackDischarge; dsimp only; split
  · exact Part.countDischarge_bodies p
  · split <;> simp only [Part.countDischarge_bodies, Part.ageByCount_bodies, Part.countUninspected_bodies,
      Part.track_bodies, Part.enqueue_bodies]

@[simp] theorem Part.countDischarge_track : p.countDischarge.track = p.track := rfl

theorem Part.enqueue_machine (port : Port) (f : OutFrame) : (p.enqueue port f).machine = p.machine := by
  unfold Part.enqueue; dsimp only; split <;> rfl

theorem Part.trackDischarge_track {c : Context} {r : TrackRecord}
    (stands : p.track.find? (TrackRecord.standsOn h) = some r) :
    (p.trackDischarge h c).track = dischargeTrack p.machine.inspection h (dischargedOf c) p.track := by
  unfold Part.trackDischarge dischargeTrack
  rw [stands]
  dsimp only; split
  · refine (Part.ageByCount_track _).trans ?_
    dsimp only
    rw [Part.enqueue_track, Part.enqueue_machine]
  · exact congrArg _ (Part.enqueue_track p _ _)

end offTrack

/-! ### The completion of a container (R35) -/

section discharge

variable {h : HeadNo} {p : Part}

/-- Out of DRAIN and CONFIG the removal of the last container in STOPPING begins no test: none had been barred. -/
theorem Part.setProd_of_stopping (stopping : p.control.prod = .stopping) (new : Prod) :
    p.setProd new = { p with control := { p.control with
      prod := new, cleanOpened := if new = .drain ∨ new = .standby then false else p.control.cleanOpened } } := by
  simp [Part.setProd, stopping, Prod.barsTests]

/-- The container of head `h` is gone from its head: what else the completion leaves of a part. -/
structure Part.Completes (h : HeadNo) (p q : Part) : Prop where
  entry : ∀ g, q.entry g = if g = h then { (p.entry h).closeAll with timer := .stopped } else p.entry g
  context : ∀ g, q.context g = if g = h then none else p.context g
  service : ∀ g, (q.record g).stored.inService = (p.record g).stored.inService
  machine : q.machine = p.machine
  phase : q.phase = p.phase
  slot : q.slot = p.slot
  control : q.control.prod = p.control.prod ∧ q.control.cleanOpened = p.control.cleanOpened ∨
    p.control.prod = .stopping ∧ q.control.prod = .standby

/-- Steps 1 and 2 of R35: head `h` is shut, its context is that of `shutHead` with RELIEF_SHORT where it is due. -/
theorem Part.shut_entry (g : HeadNo) : (((p.shutHead h).reliefCheck h).entry g) =
    if g = h then { (p.entry h).closeAll with timer := .stopped } else p.entry g := by
  have shut : (p.shutHead h).entry g =
      if g = h then { (p.entry h).closeAll with timer := .stopped } else p.entry g := by
    simp only [Part.shutHead, Part.entry, Part.head_modHead]; split <;> rfl
  unfold Part.reliefCheck; split
  · rw [Part.entry_detect, Part.entry_addContextFlag, shut]
  · exact shut

theorem Part.addContextFlag_numberOn (f : ContainerFlag) (g : HeadNo) : (p.addContextFlag h f).numberOn g = p.numberOn g := by
  simp only [Part.addContextFlag, Part.numberOn, Part.context_modContext]
  split
  · next same => subst same; simp [Function.comp_def, Context.flag]
  · rfl

theorem Part.shutHead_numberOn (g : HeadNo) : (p.shutHead h).numberOn g = p.numberOn g := by
  simp only [Part.shutHead, Part.numberOn, Part.context, Part.head_modHead]
  split
  · next same =>
    subst same
    rw [Option.map_map]
    refine Option.map_congr fun c _ => ?_
    dsimp only [Function.comp]
    split <;> split <;> rfl
  · rfl

theorem Part.shut_numberOn (g : HeadNo) : ((p.shutHead h).reliefCheck h).numberOn g = p.numberOn g := by
  unfold Part.reliefCheck; split
  · rw [Part.numberOn_of_stage (Part.detect_stage _ _ _), Part.addContextFlag_numberOn, Part.shutHead_numberOn]
  · exact Part.shutHead_numberOn g

theorem Part.shut_offHead : ((p.shutHead h).reliefCheck h).offHead h = p.offHead h := by
  have shut : (p.shutHead h).offHead h = p.offHead h := Part.modHead_offHead h _ p
  unfold Part.reliefCheck; split
  · rw [Part.detect_offHead, Part.addContextFlag_offHead, shut]
  · exact shut

theorem Part.shut_inService (g : HeadNo) :
    (((p.shutHead h).reliefCheck h).record g).stored.inService = (p.record g).stored.inService := by
  by_cases same : g = h
  · subst same
    have shut : ((p.shutHead g).record g).stored.inService = (p.record g).stored.inService := by
      simp [Part.shutHead, Part.record]
    unfold Part.reliefCheck; split
    · rw [Part.inService_of_offTable (Part.detect_offTable g _ _)]
      simpa [Part.addContextFlag] using shut
    · exact shut
  · simp only [Part.record, Part.head_of_offHead Part.shut_offHead same]

theorem Part.removeContext_of (q : Part) : ∃ r : Part, r.offTable h = q.offTable h ∧
    (q.removeContext h = r.modHead h (fun x => { x with context := none }) ∨
      q.control.prod = .stopping ∧
      q.removeContext h = { r.modHead h (fun x => { x with context := none }) with control :=
        { q.control with prod := .standby, cleanOpened := false } }) := by
  have control : (q.dischargeRunaway h).control = q.control :=
    Part.control_of_offHeads (Part.dischargeRunaway_offHeads h q)
  refine ⟨q.dischargeRunaway h, Part.dischargeRunaway_offTable h q, ?_⟩
  unfold Part.removeContext; dsimp only; split
  · next last =>
    have stopping : q.control.prod = .stopping := by rw [← control]; exact last.1
    refine .inr ⟨stopping, ?_⟩
    rw [Part.setProd_of_stopping last.1, ← control]
    rfl
  · exact .inl rfl

theorem Part.removeContext_completes {q : Part} (entry : ∀ g, q.entry g =
      if g = h then { (p.entry h).closeAll with timer := .stopped } else p.entry g)
    (context : ∀ g, g ≠ h → q.context g = p.context g)
    (service : ∀ g, (q.record g).stored.inService = (p.record g).stored.inService) (off : q.offTrack = p.offTrack) :
    p.Completes h (q.removeContext h) ∧ (q.removeContext h).track = q.track := by
  obtain ⟨r, same, cases_⟩ := Part.removeContext_of (h := h) q
  have rest := Part.offTrack_of_offHeads (Part.offHeads_of_offHead (Part.offHead_of_offTable same))
  have off' : (r.modHead h fun x => { x with context := none }).offTrack = p.offTrack := rest.trans off
  have track : (r.modHead h fun x => { x with context := none }).track = q.track :=
    (show (r.modHead h fun x => { x with context := none }).track = r.track from rfl).trans <| Part.track_of_offHead (Part.offHead_of_offTable same)
  have entry' : ∀ g, (r.modHead h fun x => { x with context := none }).entry g =
      if g = h then { (p.entry h).closeAll with timer := .stopped } else p.entry g := fun g => by
    rw [← entry, ← Part.entry_of_offTable same]
    simp only [Part.entry, Part.head_modHead]; split
    · next at_ => rw [at_]
    · rfl
  have context' : ∀ g, (r.modHead h fun x => { x with context := none }).context g =
      if g = h then none else p.context g := fun g => by
    simp only [Part.context, Part.head_modHead]; split
    · rfl
    · next other => exact (Part.context_of_offTable same g).trans (context g other)
  have service' : ∀ g, ((r.modHead h fun x => { x with context := none }).record g).stored.inService =
      (p.record g).stored.inService := fun g => by
    rw [← service, ← Part.inService_of_offTable same]
    simp only [Part.record, Part.head_modHead]; split
    · next at_ => rw [at_]
    · rfl
  have machine := Part.machine_of_offTrack off'
  have phase := Part.phase_of_offTrack off'
  have slot := Part.slot_of_offTrack off'
  rcases cases_ with e | ⟨stopping, e⟩ <;> rw [e]
  · exact ⟨⟨entry', context', service', machine, phase, slot, .inl ⟨Part.prod_of_offTrack off', Part.cleanOpened_of_offTrack off'⟩⟩, track⟩
  · exact ⟨⟨entry', context', service', machine, phase, slot, .inr ⟨(Part.prod_of_offTrack off).symm.trans stopping, rfl⟩⟩, track⟩

/-- A head whose container is on the track has its record there. -/
theorem TrackOf.find {t : List TrackRecord} {number : HeadNo → Option Nat} {d : Nat} (ok : TrackOf t number d)
    (on : (number h).isSome = true) : ∃ r, t.find? (TrackRecord.standsOn h) = some r := by
  rw [← Option.isSome_iff_exists, List.find?_isSome]
  obtain ⟨n, known⟩ := Option.isSome_iff_exists.mp on
  have record := ok.record h
  rw [known] at record
  cases stand : t.filter (TrackRecord.standsOn h) with
  | nil => rw [stand] at record; cases record
  | cons r rest =>
    have mem : r ∈ t.filter (TrackRecord.standsOn h) := by rw [stand]; exact List.mem_cons_self
    exact ⟨r, List.mem_filter.mp mem⟩

/-- What the completion of a container leaves of the heads and of the track. -/
theorem Part.completeContainer_completes (on : (p.context h).isSome = true) :
    p.Completes h (p.completeContainer h) ∧
      (TrackOf p.track p.numberOn p.machine.inspection →
        TrackOf (p.completeContainer h).track (p.completeContainer h).numberOn p.machine.inspection) := by
  have off := Part.shut_offHead (h := h) (p := p)
  have number : ((p.shutHead h).reliefCheck h).numberOn h = p.numberOn h := Part.shut_numberOn h
  have entry := fun g => Part.shut_entry (h := h) (p := p) g
  have numbers := fun g => Part.shut_numberOn (h := h) (p := p) g
  have service := fun g => Part.shut_inService (h := h) (p := p) g
  unfold Part.completeContainer
  generalize (p.shutHead h).reliefCheck h = s at *
  have some_ : (s.numberOn h).isSome = true := by rw [number, Part.numberOn_isSome]; exact on
  obtain ⟨c, known⟩ := Option.isSome_iff_exists.mp ((Part.numberOn_isSome s h).symm.trans some_)
  simp only [known]
  have table : ∀ q : Part, (((q.dischargeReports h c.flags).tableOutcome h c).recomputeAdvisory).offTable h = q.offTable h :=
    fun q => by simp
  have bodies : (((s.trackDischarge h c).dischargeReports h c.flags).tableOutcome h c).recomputeAdvisory.bodies = s.bodies :=
    (Part.bodies_of_offTable (table _)).trans (Part.trackDischarge_bodies h s c)
  have offTrack := (Part.offTrack_of_offHeads (Part.offHeads_of_offHead (Part.offHead_of_offTable
    (table (s.trackDischarge h c))))).trans ((Part.trackDischarge_offTrack h s c).trans
      (Part.offTrack_of_offHeads (Part.offHeads_of_offHead off)))
  have track := Part.track_of_offHead (Part.offHead_of_offTable (table (s.trackDischarge h c)))
  generalize (((s.trackDischarge h c).dischargeReports h c.flags).tableOutcome h c).recomputeAdvisory = q at *
  obtain ⟨completes, tracks⟩ := Part.removeContext_completes (h := h) (p := p) (q := q)
    (fun g => (Part.entry_of_bodies bodies g).trans (entry g))
    (fun g other => (Part.context_of_bodies bodies g).trans (Part.context_of_offHead off other))
    (fun g => (Part.inService_of_bodies bodies g).trans (service g)) offTrack
  refine ⟨completes, fun ok => ?_⟩
  have ok' : TrackOf s.track s.numberOn s.machine.inspection := by
    rw [Part.track_of_offHead off, Part.machine_of_offHead off, show s.numberOn = p.numberOn from funext numbers]
    exact ok
  obtain ⟨r, stands⟩ := ok'.find some_
  have discharged := ok'.discharge h (dischargedOf c)
  rw [tracks, track, Part.trackDischarge_track h s stands]
  have left : (q.removeContext h).numberOn = fun g => if g = h then none else s.numberOn g := funext fun g => by
    rw [Part.numberOn, completes.context]
    split
    · rfl
    · rw [numbers]; rfl
  rw [left, ← Part.machine_of_offHead off]
  exact discharged

end discharge

end Sys2Proof.Machine
end

section
/-! The crossings, the steps of the carousel and the zero mark keep the three invariants. -/

namespace Sys2Proof.Machine

open Sys2Proof

/-! ### A container comes or goes on a fitted head -/

/-- A container that comes to or leaves one fitted head keeps the three invariants when the entry of that head follows in
its valves and agrees with the container, and the track follows. -/
theorem Part.keeps_of_swap {h : HeadNo} {p q : Part} (entry : ∀ g, g ≠ h → q.entry g = p.entry g)
    (number : ∀ g, g ≠ h → q.numberOn g = p.numberOn g) (cleans : ∀ g, q.cleans g = p.cleans g)
    (machine : q.machine = p.machine) (phase : q.phase = .running) (slot : q.slot = p.slot) (fitted : p.fitted h = true)
    (relief : (p.entry h).reliefOk = true → (q.entry h).reliefOk = true)
    (stray : (q.entry h).stray = true → (p.entry h).stray = true)
    (waits : (q.entry h).cleanWaiting = true → (p.entry h).cleanWaiting = true)
    (holds : p.Agrees → (q.numberOn h).isSome = (q.entry h).state.holds)
    (track : p.Agrees → TrackOf q.track q.numberOn p.machine.inspection) : p.Keeps q := by
  have fit : ∀ g, q.fitted g = p.fitted g := fun g => by rw [Part.fitted, machine]; rfl
  have calOn : ∀ g, q.calOn g = p.calOn g := fun g => by simp only [Part.calOn, slot]
  have calDoses : ∀ g, q.calDoses g = p.calDoses g := fun g => by simp only [Part.calDoses, calOn]
  refine ⟨fun inv g => ?_, fun inv => ?_, fun inv => ?_⟩
  · by_cases same : g = h
    · subst same; exact relief (inv g)
    · rw [entry g same]; exact inv g
  · rw [Part.liquidInterlock_iff] at inv ⊢
    intro g
    obtain ⟨open_, unfitted, waits_, settles⟩ := inv g
    by_cases same : g = h
    · subst same
      refine ⟨?_, fun out => ?_, ?_, ?_⟩
      · rw [cleans, calDoses]; exact open_ ∘ stray
      · rw [fit, fitted] at out; cases out
      · rw [cleans]; exact waits_ ∘ waits
      · rw [calDoses, calOn]; exact settles
    · constructor <;> simpa only [entry g same, number g same, fit, cleans, calOn, calDoses]
  · rw [Part.trackAgrees_iff] at inv ⊢
    refine Part.agrees_iff.mpr ⟨fun g => ?_, machine ▸ track inv, fun g out => ?_, fun out => absurd phase out⟩
    · by_cases same : g = h
      · subst same; exact holds inv
      · rw [number g same, entry g same]; exact inv.holds g
    · rw [fit] at out
      have other : g ≠ h := by rintro rfl; rw [fitted] at out; cases out
      rw [number g other]; exact inv.unfitted g out

section discharge

variable {h : HeadNo} {p q : Part}

theorem Part.cleans_of_completes (done : p.Completes h q) (g : HeadNo) : q.cleans g = p.cleans g := by
  rcases done.control with ⟨prod, clean⟩ | ⟨stopping, standby⟩
  · simp only [Part.cleans, Part.fitted, done.machine, done.service, prod, clean]
  · rw [Part.cleans_of_not_drain (by simp [standby]), Part.cleans_of_not_drain (by simp [stopping])]

@[simp] theorem Part.enterRest_offHead : (p.enterRest h).offHead h = p.offHead h := by
  have rest : ∀ f : Entry → Entry, (p.modEntry h f).offHead h = p.offHead h := fun f => Part.modEntry_offHead h p f
  unfold Part.enterRest; dsimp only; split
  · exact (Part.modEntry_offHead h _ _).trans (rest _)
  · exact rest _

/-- A head that enters REST rests or is in its coil test; its valves stay as they are. -/
structure Entry.Rests (e e' : Entry) : Prop where
  state : e'.state = .rest ∨ e'.state = .testing
  relief : e'.relief = e.relief
  fast : e'.fast = e.fast
  fine : e'.fine = e.fine
  gas : e'.gas = e.gas
  waits : e'.cleanWaiting = e.cleanWaiting

theorem Part.enterRest_rests : (p.entry h).Rests ((p.enterRest h).entry h) := by
  unfold Part.enterRest; dsimp only; split
  · constructor <;> simp [Part.beginTest]
  · constructor <;> simp

theorem Part.enterRest_number (g : HeadNo) : (p.enterRest h).numberOn g = p.numberOn g := by
  unfold Part.enterRest; dsimp only; split <;> simp [Part.numberOn, Part.beginTest]

theorem Part.enterRest_service (g : HeadNo) :
    ((p.enterRest h).record g).stored.inService = (p.record g).stored.inService := by
  unfold Part.enterRest; dsimp only; split <;> simp [Part.beginTest]

/-- The completion of a container, whether the head has one or not. -/
theorem Part.completeContainer_entry_none (none_ : p.numberOn h = none) :
    p.completeContainer h = (p.shutHead h).reliefCheck h := by
  have gone : ((p.shutHead h).reliefCheck h).context h = none :=
    Part.numberOn_eq_none.mp ((Part.shut_numberOn h).trans none_)
  unfold Part.completeContainer
  simp only [gone]

/-- A whole discharge of a fitted head that is neither at rest nor in a test or the sweep (R35). -/
theorem Part.dischargeHead_keeps (fitted : p.fitted h = true) (running : p.phase = .running)
    (holds : (p.entry h).state.holds = true) : p.Keeps (p.dischargeHead h) := by
  have rests := (p.completeContainer h).enterRest_rests (h := h)
  have off := (p.completeContainer h).enterRest_offHead (h := h)
  have closed : (p.completeContainer h).entry h = { (p.entry h).closeAll with timer := .stopped } := by
    cases context : p.context h with
    | none =>
      rw [Part.completeContainer_entry_none (Part.numberOn_eq_none.mpr context), Part.shut_entry, if_pos rfl]
    | some c => rw [(Part.completeContainer_completes (by simp [context])).1.entry, if_pos rfl]
  obtain ⟨state, relief, fast, fine, gas, waits⟩ := rests
  rw [closed] at relief fast fine gas waits
  have out : ((p.dischargeHead h).entry h).state.vents = false ∧ ((p.dischargeHead h).entry h).state.holds = false := by
    rcases state with rest | testing
    · unfold Part.dischargeHead; rw [rest]; exact ⟨rfl, rfl⟩
    · unfold Part.dischargeHead; rw [testing]; exact ⟨rfl, rfl⟩
  have reliefOk : ((p.dischargeHead h).entry h).reliefOk = true := by
    rw [Entry.reliefOk_iff, out.1]
    unfold Part.dischargeHead
    simp [relief, Entry.closeAll]
  have stray : ((p.dischargeHead h).entry h).stray = false := by
    unfold Part.dischargeHead Entry.stray
    simp [fast, fine, Entry.closeAll]
  have service := fun g => (p.completeContainer h).enterRest_service (h := h) g
  have cleans' : ∀ g, (p.dischargeHead h).cleans g = (p.completeContainer h).cleans g := fun g =>
    Part.cleans_of_offHead off fun _ => service h
  have numbers := fun g => (p.completeContainer h).enterRest_number (h := h) g
  cases context : p.context h with
  | none =>
    have same := Part.completeContainer_entry_none (Part.numberOn_eq_none.mpr context)
    have off' : (p.completeContainer h).offHead h = p.offHead h := by rw [same]; exact Part.shut_offHead
    have offAll := off.trans off'
    have clash : p.Agrees → False := fun inv => by
      have agree := inv.holds h
      rw [holds, Part.numberOn_isSome, context] at agree
      cases agree
    refine Part.keeps_of_swap (h := h) (fun g other => Part.entry_of_offHead offAll other)
      (fun g other => Part.numberOn_of_offHead offAll other) (fun g => ?_) (Part.machine_of_offHead offAll)
      ((Part.phase_of_offHead offAll).trans running) (Part.slot_of_offHead offAll) fitted (fun _ => reliefOk)
      (fun opened => absurd opened (by simp [stray])) ?_ (fun inv => (clash inv).elim) (fun inv => (clash inv).elim)
    · refine (cleans' g).trans (Part.cleans_of_offHead off' fun _ => ?_)
      rw [same]; exact Part.shut_inService h
    · unfold Part.dischargeHead; rw [waits]; exact id
  | some c =>
    obtain ⟨done, tracks⟩ := Part.completeContainer_completes (h := h) (p := p) (by simp [context])
    refine Part.keeps_of_swap (h := h)
      (fun g other => (Part.entry_of_offHead off other).trans ((done.entry g).trans (if_neg other)))
      (fun g other => (numbers g).trans ?_) (fun g => (cleans' g).trans (Part.cleans_of_completes done g))
      ((Part.machine_of_offHead off).trans done.machine) ((Part.phase_of_offHead off).trans (done.phase.trans running))
      ((Part.slot_of_offHead off).trans done.slot) fitted (fun _ => reliefOk)
      (fun opened => absurd opened (by simp [stray])) ?_ (fun _ => ?_) (fun inv => ?_)
    · rw [Part.numberOn, done.context, if_neg other]; rfl
    · unfold Part.dischargeHead; rw [waits]; exact id
    · rw [out.2]; unfold Part.dischargeHead
      rw [numbers, Part.numberOn, done.context, if_pos rfl]; rfl
    · unfold Part.dischargeHead
      rw [Part.track_of_offHead off, show ((p.completeContainer h).enterRest h).numberOn = _ from funext numbers]
      exact tracks (Part.agrees_iff.mp inv).2.1

end discharge

/-! ### Admission and the crossings -/

section crossings

variable {h : HeadNo} {p : Part}

@[simp] theorem doseContext_number (n : Nat) (m : DoseMethod) (x : HeadRecord) (sr : StoredRecipe) :
    (doseContext n m x sr).number = n := by
  unfold doseContext; dsimp only; split <;> rfl

@[simp] theorem Part.admissionContext_number (n : Nat) : (p.admissionContext h n).number = n := by
  unfold Part.admissionContext; split
  · split
    · rfl
    · dsimp only; split
      · split
        · exact doseContext_number n _ _ _
        · exact doseContext_number n _ _ _
        · rfl
      · rfl
  · rfl

/-- The entry of a head that takes a container in a state. -/
def Entry.seated (st : HeadState) (e : Entry) : Entry :=
  { e with state := st, fillStartNoted := false, fillEndNoted := false, pressurised := false, vented := false }

/-- A container is put on a head, in a state. -/
def Part.seat (h : HeadNo) (c : Context) (st : HeadState) : Part → Part :=
  Part.modHead h fun x => { x with context := some c, entry := x.entry.seated st }

theorem Part.admitContainer_eq : p.admitContainer h =
    (p.trackAdmit h (p.admissionContext h p.nextNumber)).seat h (p.admissionContext h p.nextNumber)
      (if (p.trackAdmit h (p.admissionContext h p.nextNumber)).control.prod.doses then .sealing else .waitDischarge) := rfl

section seat

variable (c : Context) (st : HeadState) (g : HeadNo)

theorem Part.entry_seat : (p.seat h c st).entry g = if g = h then (p.entry h).seated st else p.entry g := by
  simp only [Part.seat, Part.entry, Part.head_modHead]; split <;> rfl

theorem Part.numberOn_seat : (p.seat h c st).numberOn g = if g = h then some c.number else p.numberOn g := by
  simp only [Part.seat, Part.numberOn, Part.context, Part.head_modHead]; split <;> rfl

theorem Part.record_seat : (p.seat h c st).record g = p.record g := by
  simp only [Part.seat, Part.record, Part.head_modHead]; split
  · next same => rw [same]
  · rfl

theorem Part.cleans_seat : (p.seat h c st).cleans g = p.cleans g := by
  unfold Part.cleans; rw [Part.record_seat]; rfl

end seat

theorem Part.cleans_of_offTrack {q : Part} (off : q.offTrack = p.offTrack) (bodies : q.bodies = p.bodies) (g : HeadNo) :
    q.cleans g = p.cleans g := by
  unfold Part.cleans Part.fitted
  rw [Part.inService_of_bodies bodies, Part.prod_of_offTrack off, Part.cleanOpened_of_offTrack off,
    Part.machine_of_offTrack off]

/-- A container is taken onto a fitted head in REST or SKIP (R22, R23, R44). -/
theorem Part.admitContainer_keeps (fitted : p.fitted h = true) (running : p.phase = .running)
    (free : (p.entry h).state = .rest ∨ (p.entry h).state = .skip) : p.Keeps (p.admitContainer h) := by
  have closed : (p.entry h).state.vents = false ∧ (p.entry h).state.isFill = false ∧ (p.entry h).state.holds = false := by
    rcases free with at_ | at_ <;> rw [at_] <;> exact ⟨rfl, rfl, rfl⟩
  have off := Part.trackAdmit_offTrack h p (p.admissionContext h p.nextNumber)
  have bodies := Part.trackAdmit_bodies h p (p.admissionContext h p.nextNumber)
  have track := Part.trackAdmit_track h p (p.admissionContext h p.nextNumber)
  have number := p.admissionContext_number (h := h) p.nextNumber
  rw [Part.admitContainer_eq]
  generalize p.trackAdmit h (p.admissionContext h p.nextNumber) = q at *
  generalize p.admissionContext h p.nextNumber = c at *
  generalize sealed : (if q.control.prod.doses then HeadState.sealing else .waitDischarge) = st
  have held : st.vents = false ∧ st.isFill = false ∧ st.holds = true := by
    subst sealed; split <;> exact ⟨rfl, rfl, rfl⟩
  have entry : (q.seat h c st).entry h = (p.entry h).seated st := by
    rw [Part.entry_seat, if_pos rfl, Part.entry_of_bodies bodies]
  have numbers : (q.seat h c st).numberOn = fun g => if g = h then some p.nextNumber else p.numberOn g :=
    funext fun g => by rw [Part.numberOn_seat, number, Part.numberOn_of_bodies bodies]
  apply Part.keeps_of_swap (h := h) (fitted := fitted)
  case entry => exact fun g other => by rw [Part.entry_seat, if_neg other, Part.entry_of_bodies bodies]
  case number => exact fun g other => by rw [numbers]; exact if_neg other
  case cleans => exact fun g => (Part.cleans_seat c st g).trans (Part.cleans_of_offTrack off bodies g)
  case machine => exact Part.machine_of_offTrack off
  case phase => exact (Part.phase_of_offTrack off).trans running
  case slot => exact Part.slot_of_offTrack off
  case relief =>
    rw [entry, Entry.reliefOk_iff, Entry.reliefOk_iff]
    simp only [Entry.seated, held.1, closed.1]
    exact fun ⟨shut, _⟩ => ⟨shut, fun opened => absurd opened (by simp [shut])⟩
  case stray =>
    rw [entry]
    simp only [Entry.stray, Entry.seated, held.2.1, closed.2.1]
    exact id
  case waits => rw [entry]; exact id
  case holds =>
    intro _
    rw [entry, numbers]
    simp [Entry.seated, held.2.2]
  case track =>
    intro inv
    have bare : p.numberOn h = none := by
      rw [← Option.isNone_iff_eq_none, ← Option.not_isSome, inv.holds h, closed.2.2]; rfl
    rw [numbers, show (q.seat h c st).track = q.track from rfl, track]
    exact (Part.agrees_iff.mp inv).2.1.admitted (r := ⟨p.nextNumber, h, _, none⟩) rfl bare _ _

/-- A head without a container moves between REST and SKIP. -/
theorem Part.goTo_keeps_of_free {st : HeadState} (fitted : p.fitted h = true)
    (free : (p.entry h).state = .rest ∨ (p.entry h).state = .skip) (next : st = .rest ∨ st = .skip) :
    p.Keeps (p.goTo h st) := by
  have bare : ∀ st : HeadState, st = .rest ∨ st = .skip → st.vents = false ∧ st.isFill = false ∧ st.holds = false := by
    rintro st (rfl | rfl) <;> exact ⟨rfl, rfl, rfl⟩
  obtain ⟨vents, fill, holds⟩ := bare _ free
  obtain ⟨vents', -, holds'⟩ := bare st next
  refine Part.modEntry_keeps (Entry.follows_of_closed vents vents' rfl (holds'.trans holds.symm) ?_ id) (.inl fitted)
  simp only [Entry.stray, fill, Bool.not_false, Bool.and_true, Bool.and_eq_true]
  exact And.left

@[simp] theorem Part.entry_leaveTest_state : ((p.leaveTest h).entry h).state = .rest := by
  simp only [Part.leaveTest, Part.entry_modEntry, if_true]
  split <;> rfl

theorem Part.infeedFromRest_of_testing (testing : (p.entry h).state = .testing) :
    p.infeedFromRest h = (p.leaveTest h).infeedFromRest h := by
  have rests : ((p.leaveTest h).entry h).state ≠ .testing := by simp
  simp only [Part.infeedFromRest, testing, rests, if_true, if_false]

theorem Part.infeedFromRest_keeps_of_free (fitted : p.fitted h = true) (running : p.phase = .running)
    (free : (p.entry h).state = .rest ∨ (p.entry h).state = .skip) : p.Keeps (p.infeedFromRest h) := by
  have other : (p.entry h).state ≠ .testing := by rcases free with at_ | at_ <;> simp [at_]
  simp only [Part.infeedFromRest, other, if_false]
  split
  · exact Part.goTo_keeps_of_free fitted free (.inl rfl)
  · exact Part.goTo_keeps_of_free fitted free (.inl rfl)
  · split
    · exact Part.admitContainer_keeps fitted running free
    · exact Part.goTo_keeps_of_free fitted free (.inr rfl)

theorem Part.infeedFromRest_keeps (fitted : p.fitted h = true) (running : p.phase = .running)
    (free : (p.entry h).state = .rest ∨ (p.entry h).state = .testing ∨ (p.entry h).state = .skip) :
    p.Keeps (p.infeedFromRest h) := by
  by_cases testing : (p.entry h).state = .testing
  · rw [Part.infeedFromRest_of_testing testing]
    exact (Part.leaveTest_keeps testing).trans
      (Part.infeedFromRest_keeps_of_free fitted running (.inl Part.entry_leaveTest_state))
  · exact Part.infeedFromRest_keeps_of_free fitted running (by simpa [testing] using free)

/-- What a crossing needs of the part it finds: the head is fitted and the part runs. -/
def Part.Runs (h : HeadNo) (p : Part) : Prop := p.fitted h = true ∧ p.phase = .running

theorem Part.runs_of_offCycle {q : Part} (e : q.offCycle = p.offCycle) (runs : p.Runs h) : q.Runs h := by
  have machine : q.machine = p.machine := by have view := congrArg Part.machine e; exact view
  have phase : q.phase = p.phase := by have view := congrArg Part.phase e; exact view
  exact ⟨by simpa only [Part.fitted, machine] using runs.1, phase.trans runs.2⟩

theorem Part.infeedCrossing_keeps (runs : p.Runs h) : p.Keeps (p.infeedCrossing h) := by
  have runs' : (p.abortCalOn h .motion).Runs h := Part.runs_of_offCycle (Part.offCycle_of_offWork (by simp)) runs
  refine (Part.abortCalOn_keeps h .motion).trans ?_
  unfold Part.infeedCrossing; dsimp only
  generalize p.abortCalOn h .motion = q at *
  obtain ⟨fitted, running⟩ := runs'
  split
  · exact .refl q
  · next st => exact Part.infeedFromRest_keeps fitted running (.inl st)
  · next st => exact Part.infeedFromRest_keeps fitted running (.inr (.inl st))
  · next st => exact Part.infeedFromRest_keeps fitted running (.inr (.inr st))
  · have holds : (q.entry h).state.holds = true := by
      cases st : (q.entry h).state <;> simp_all [HeadState.holds]
    obtain ⟨fitted', running'⟩ := Part.runs_of_offCycle (Part.dischargeHead_offCycle h q) ⟨fitted, running⟩
    refine (Part.dischargeHead_keeps fitted running holds).trans (Part.infeedFromRest_keeps fitted' running' ?_)
    exact Part.enterRest_rests.state.elim .inl (.inr ∘ .inl)

theorem Part.enterRest_keeps (fitted : p.fitted h = true) (skip : (p.entry h).state = .skip) :
    p.Keeps (p.enterRest h) := by
  have rest : p.Keeps (p.goTo h .rest) := Part.goTo_keeps_of_free fitted (.inr skip) (.inl rfl)
  unfold Part.enterRest; dsimp only; split
  · exact rest.trans (Part.beginTest_keeps fitted (by simp))
  · exact rest

theorem Part.dischargeCrossing_keeps (runs : p.Runs h) : p.Keeps (p.dischargeCrossing h) := by
  unfold Part.dischargeCrossing; split
  · exact .refl p
  · exact .refl p
  · exact .refl p
  · next skip =>
    split
    · exact .refl p
    · refine (Part.keeps_of_offTable (Part.dischargeRunaway_offTable h p)).trans (Part.enterRest_keeps ?_ ?_)
      · exact (Part.fitted_of_offHead (Part.offHead_of_offTable (Part.dischargeRunaway_offTable h p)) h).trans runs.1
      · rw [Part.entry_dischargeRunaway]; exact skip
  · refine Part.dischargeHead_keeps runs.1 runs.2 ?_
    cases st : (p.entry h).state <;> simp_all [HeadState.holds]

theorem Part.crossing_keeps (runs : p.Runs h) (b : Boundary) : p.Keeps (p.crossing h b) := by
  cases b
  case infeed => exact Part.infeedCrossing_keeps runs
  case press => exact Part.pressuriseCrossing_keeps
  case fill => exact Part.fillStartCrossing_keeps
  case fillend => exact Part.fillEndCrossing_keeps
  case relief => exact Part.reliefCrossing_keeps
  case dis => exact Part.dischargeCrossing_keeps runs

/-- A change of a head beside its entry, its context and its record is none of what the invariants read. -/
theorem Part.modHead_stage {f : Head → Head} (entry : ∀ x, (f x).entry = x.entry := by exact fun _ => rfl)
    (context : ∀ x, (f x).context = x.context := by exact fun _ => rfl)
    (record : ∀ x, (f x).record = x.record := by exact fun _ => rfl) : (p.modHead h f).stage = p.stage := by
  have same : ∀ g, ((p.modHead h f).head g).entry = (p.head g).entry ∧ ((p.modHead h f).head g).context = (p.head g).context ∧
      ((p.modHead h f).head g).record = (p.head g).record := fun g => by
    rw [Part.head_modHead]; split
    · next at_ => rw [at_]; exact ⟨entry _, context _, record _⟩
    · exact ⟨rfl, rfl, rfl⟩
  refine Part.stage_setHeads p (fun g => (same g).1) (fun g => ?_) (fun g => ?_)
  · exact congrArg (Option.map Context.number) (same g).2.1
  · exact congrArg (fun x : HeadRecord => x.stored.inService) (same g).2.2

theorem Part.crossIfDue_keeps (runs : p.Runs h) : p.Keeps (p.crossIfDue h) := by
  unfold Part.crossIfDue; split
  · exact .refl p
  · exact .ite fun _ => (Part.crossing_keeps runs _).trans (Part.keeps_of_stage Part.modHead_stage)

theorem Part.examine_keeps (runs : p.Runs h) : p.Keeps (p.examine h) :=
  (Part.crossIfDue_keeps runs).trans (Part.crossIfDue_keeps (Part.runs_of_offCycle (by simp) runs))

theorem Part.examineAll_keeps (running : p.phase = .running) : p.Keeps p.examineAll := by
  unfold Part.examineAll
  refine .ite fun _ => forEach_keeps_of (P := Part.Runs) (fun h g q runs => ?_) (fun h q runs => Part.examine_keeps runs)
    fun h mem => ?_
  · exact Part.runs_of_offCycle (by simp [Part.examine]) runs
  · exact ⟨(List.mem_filter.mp mem).2, running⟩

end crossings

/-! ### Steps and zero marks -/

section steps

variable {p : Part}

theorem Part.modCarousel_keeps (f : Carousel → Carousel) : p.Keeps (p.modCarousel f) :=
  Part.keeps_of_stage (Part.modCarousel_stage p f)

theorem Part.stepForward_keeps (running : p.phase = .running) : p.Keeps p.stepForward := by
  unfold Part.stepForward Part.positionForward; split
  · exact (Part.modCarousel_keeps _).trans (Part.modCarousel_keeps _)
  · exact (Part.modCarousel_keeps _).trans (Part.examineAll_keeps running)

theorem Part.stepBackward_keeps : p.Keeps p.stepBackward := by
  unfold Part.stepBackward; dsimp only; split
  · exact Part.modCarousel_keeps _
  · split
    · exact (Part.modCarousel_keeps _).trans (Part.raiseSafe_keeps _)
    · exact Part.modCarousel_keeps _

theorem Part.noteStep_keeps (d : Direction) : p.Keeps (p.noteStep d) := by
  unfold Part.noteStep; dsimp only; split
  · exact (Part.modCarousel_keeps _).trans (Part.abortCal_keeps _)
  · exact Part.modCarousel_keeps _

theorem Part.takeStep_keeps (running : p.phase = .running) (d : Direction) : p.Keeps (p.takeStep d) := by
  have noted := fun d => (Part.phase_of_tracking (Part.noteStep_tracking d p)).trans running
  cases d
  · exact (Part.noteStep_keeps _).trans (Part.stepForward_keeps (noted _))
  · exact (Part.noteStep_keeps _).trans Part.stepBackward_keeps

theorem Part.encoderEdge_keeps (a b infeed : Bool) : p.Keeps (p.encoderEdge a b infeed) := by
  have pinned : ∀ pins : Pins, p.Keeps { p with pins := pins } := fun _ => Part.keeps_of_stage rfl
  unfold Part.encoderEdge; dsimp only; split
  · next running =>
    split
    · exact pinned _
    · exact (pinned _).trans (Part.takeStep_keeps (by exact running) _)
  · exact pinned _

theorem correctForward_keeps (n : Nat) (running : p.phase = .running) : p.Keeps (correctForward n p) := by
  induction n generalizing p with
  | zero => exact .refl p
  | succ n ih =>
    have moved : p.positionForward.phase = .running := running
    exact ((Part.modCarousel_keeps _).trans (Part.examineAll_keeps moved)).trans
      (ih ((Part.examineAll_phase _).trans moved))

theorem Part.takeZeroMark_keeps (running : p.phase = .running) : p.Keeps p.takeZeroMark := by
  have corrected : ∀ c : Correction, p.Keeps (p.applyCorrection c) := fun c => by
    unfold Part.applyCorrection; split
    · exact correctForward_keeps _ running
    · exact Part.modCarousel_keeps _
  have aimed : ∀ q : Part, q.Keeps q.aimPointers := fun q => Part.keeps_of_stage
    (Part.stage_setHeads q (fun g => by simp [Part.entry]) (fun g => by simp [Part.numberOn, Part.context])
      (fun g => by simp [Part.record]))
  unfold Part.takeZeroMark; dsimp only; split
  · exact ((Part.modCarousel_keeps _).trans (Part.modCarousel_keeps _)).trans (aimed _)
  · split
    · exact (corrected _).trans (Part.modCarousel_keeps _)
    · split
      · exact (corrected _).trans (Part.modCarousel_keeps _)
      · exact (corrected _).trans (Part.raiseSafe_keeps _)

theorem Part.zeroMark_keeps (infeed : Bool) : p.Keeps (p.zeroMark infeed) := by
  have pinned : ∀ pins : Pins, p.Keeps { p with pins := pins } := fun _ => Part.keeps_of_stage rfl
  unfold Part.zeroMark; dsimp only; split
  · next taken => exact (pinned _).trans (Part.takeZeroMark_keeps (by exact taken.1))
  · exact pinned _

end steps

end Sys2Proof.Machine
end

section
/-! The resets, the load and RESTART keep the three invariants. -/

namespace Sys2Proof.Machine

open Sys2Proof

variable {p q : Part}

/-- A part whose heads are blank, without containers and without a CAL DOSE in its settle, meets the three invariants as
far as its track is empty. -/
theorem Part.keeps_of_blank (entry : ∀ g, q.entry g = blankEntry) (number : ∀ g, q.numberOn g = none)
    (track : p.TrackAgrees → q.track = [])
    (settles : p.LiquidInterlock →
      ∀ g, q.calDoses g = true → (q.calOn g).all (fun c => decide (c.settleTimer = .stopped)) = true) : p.Keeps q where
  relief _ g := by rw [entry]; rfl
  liquid inv := by
    rw [Part.liquidInterlock_iff]
    refine fun g => ⟨fun opened => ?_, fun _ => ⟨number g, entry g⟩, fun waiting => ?_, settles inv g⟩
    · rw [entry] at opened; cases opened
    · rw [entry] at waiting; cases waiting
  track inv := by
    rw [Part.trackAgrees_iff]
    refine Part.agrees_iff.mpr ⟨fun g => ?_, ?_, fun g _ => number g, fun _ => ⟨track inv, number⟩⟩
    · rw [entry, number]; rfl
    · rw [track inv, show q.numberOn = fun _ => none from funext number]
      exact ⟨fun _ => rfl, List.Pairwise.nil, Nat.zero_le _⟩

theorem Part.calOn_of_empty (empty : q.slot = .empty) (g : HeadNo) : q.calDoses g = false := by
  simp [Part.calDoses, Part.calOn, empty]

theorem Part.clearAll_keeps : q.Keeps p.clearAll := by
  have head : ∀ g, p.clearAll.head g = blankHead (freshRecord false defaultStored) := fun g => by
    simp [Part.head, Part.clearAll, resetPart]
  refine Part.keeps_of_blank (fun g => ?_) (fun g => ?_) (fun _ => rfl) fun _ g dosing => ?_
  · rw [Part.entry, head]; rfl
  · rw [Part.numberOn, Part.context, head]; rfl
  · rw [Part.calOn_of_empty rfl] at dosing; cases dosing

theorem brownout_keeps (micros : Nat) : p.Keeps (brownout micros p) := .ite fun _ => Part.clearAll_keeps

theorem fullResetEnd_keeps : p.Keeps (fullResetEnd p) := by
  unfold fullResetEnd
  refine .ite fun waits => ⟨fun inv => inv, fun inv => inv, fun inv => ?_⟩
  rw [Part.trackAgrees_iff] at inv ⊢
  obtain ⟨holds, record, unfitted, order, bound, bare⟩ := inv
  exact ⟨holds, record, unfitted, order, bound, fun _ => bare (by simp [waits])⟩

/-- A head whose gas and liquid valves are closed and that holds no container. -/
def Entry.Idle (e : Entry) : Prop := e.gas = false ∧ e.fast = false ∧ e.fine = false ∧ e.state.holds = false

theorem Part.ventHead_keeps {h : HeadNo} (fitted : p.fitted h = true) (idle : (p.entry h).Idle) :
    p.Keeps (p.ventHead h) := by
  obtain ⟨gas, fast, fine, holds⟩ := idle
  unfold Part.ventHead
  refine .ite fun _ => Part.modEntry_keeps ⟨fun _ => ?_, holds.symm, fun opened => ?_, id⟩ (.inl fitted)
  · simp [Entry.reliefOk_iff, HeadState.vents, gas, fast, fine]
  · simp [Entry.stray, fast, fine] at opened

theorem Part.ventHead_idle {h g : HeadNo} (idle : (p.entry g).Idle) : ((p.ventHead h).entry g).Idle := by
  unfold Part.ventHead; split
  · rw [Part.entry_modEntry]; split
    · next same => subst same; obtain ⟨gas, fast, fine, -⟩ := idle; exact ⟨gas, fast, fine, rfl⟩
    · exact idle
  · exact idle

theorem Part.ventSweep_keeps (idle : ∀ g, (p.entry g).Idle) : p.Keeps p.ventSweep := by
  refine Part.Keeps.trans ?_ Part.checkSweep_keeps
  refine forEach_keeps_of (P := fun g q => q.fitted g = true ∧ (q.entry g).Idle) (fun h g q known => ⟨?_, ?_⟩)
    (fun h q known => Part.ventHead_keeps known.1 known.2) fun h mem => ⟨(List.mem_filter.mp mem).2, idle h⟩
  · have off : (q.ventHead h).offHead h = q.offHead h := by
      unfold Part.ventHead; split
      · exact Part.modEntry_offHead h q _
      · rfl
    exact (Part.fitted_of_offHead off g).trans known.1
  · exact Part.ventHead_idle known.2

theorem Part.startUp_keeps (idle : ∀ g, (p.entry g).Idle) : p.Keeps p.startUp := by
  have periods : ∀ q : Part, q.startPeriods.startModules.stage = q.stage := fun _ => rfl
  have slots : { p with control := { p.control with activeSlot := p.startSlot } }.stage = p.stage := rfl
  unfold Part.startUp; dsimp only
  generalize { p with control := { p.control with activeSlot := p.startSlot } } = r at slots
  have starts : r.recomputePressure.recomputeAdvisory.startPeriods.startModules.stage = p.stage :=
    (periods _).trans ((Part.recomputeAdvisory_stage _).trans ((Part.recomputePressure_stage _).trans slots))
  exact Part.Keeps.trans (Part.keeps_of_stage starts)
    (Part.ventSweep_keeps fun g => by rw [Part.entry_of_stage starts]; exact idle g)

theorem blankEntry_idle : blankEntry.Idle := ⟨rfl, rfl, rfl, rfl⟩

theorem Part.setCopies_keeps {l : Loaded} {bad : Bool} (off : p.phase ≠ .running) : p.Keeps (p.setCopies l bad) := by
  refine Part.keeps_of_blank (fun g => ?_) (fun g => ?_) (fun inv => ?_) fun inv g => ?_
  · simp [Part.setCopies, Part.entry, Part.head, blankHead]
  · simp [Part.setCopies, Part.numberOn, Part.context, Part.head, blankHead]
  · exact ((Part.trackAgrees_iff.mp inv).bare off).1
  · exact (Part.liquidInterlock_iff.mp inv g).settles

theorem loadEnd_keeps (acknowledged : Bool) : p.Keeps (loadEnd acknowledged p) := by
  have copied : ∀ (l : Loaded) (bad : Bool), p.phase ≠ .running → p.Keeps (p.setCopies l bad).startUp := fun l bad off =>
    (Part.setCopies_keeps off).trans (Part.startUp_keeps fun g => by
      simpa [Part.setCopies, Part.entry, Part.head, blankHead] using blankEntry_idle)
  unfold loadEnd; split
  · next loading =>
    have off : p.phase ≠ .running := by simp [loading]
    split
    · exact copied _ _ off
    · exact copied _ _ off
  · exact .refl p

theorem Part.clearRun_head (g : HeadNo) : p.clearRun.head g =
    blankHead { freshRecord (p.fitted g) (p.record g).stored with gen := (p.record g).gen } := by
  simp [Part.clearRun, Part.head]

theorem Part.clearRun_keeps : p.Keeps p.clearRun.startUp := by
  refine Part.Keeps.trans (Part.keeps_of_blank (fun g => ?_) (fun g => ?_) (fun _ => rfl) fun _ g dosing => ?_)
    (Part.startUp_keeps fun g => ?_)
  · rw [Part.entry, Part.clearRun_head]; rfl
  · rw [Part.numberOn, Part.context, Part.clearRun_head]; rfl
  · rw [Part.calOn_of_empty rfl] at dosing; cases dosing
  · rw [Part.entry, Part.clearRun_head]; exact blankEntry_idle

end Sys2Proof.Machine
end

section
/-! WRITE MACHINE keeps the three invariants (R24, R211): heads that leave or join the fitted set come out blank. -/

namespace Sys2Proof.Machine

open Sys2Proof

variable {p q : Part} {h : HeadNo}

/-! ### The heads that leave are withdrawn -/

/-- What remains of a part in STANDBY when the heads of a list have been withdrawn: their containers and any CAL DOSE on
them are gone, the entries of the others stand. -/
structure Part.Withdrawn (p : Part) (gone : List HeadNo) (q : Part) : Prop where
  entry : ∀ g, g ∉ gone → q.entry g = p.entry g
  number : ∀ g, q.numberOn g = if g ∈ gone then none else p.numberOn g
  calOn : ∀ g, q.calOn g = if g ∈ gone then none else p.calOn g
  phase : q.phase = p.phase
  prod : q.control.prod = p.control.prod
  track : ∀ d, p.machine.inspection = d → TrackOf p.track p.numberOn d → TrackOf q.track q.numberOn d
  bare : (∀ g, p.numberOn g = none) → q.track = p.track
  machine : q.machine = p.machine

theorem Part.modEntry_stage (f : Entry → Entry) :
    (p.modEntry h f).stage = { p.stage with entry := (p.modEntry h f).entry } := by
  have number : (p.modEntry h f).numberOn = p.numberOn := funext fun g => by simp [Part.numberOn]
  have service : ∀ g, ((p.modEntry h f).record g).stored.inService = (p.record g).stored.inService := fun g => by simp
  simp only [Part.stage, number, service]
  rfl

theorem Part.setSlot_stage (s : Slot) : { p with slot := s }.stage = { p.stage with slot := s } := rfl

/-- The end of a CAL DOSE on a head changes the entry of that head and the slot. -/
theorem Part.abortCalOn_stage (cause : AbortCause) : ∃ entry : HeadNo → Entry, ∃ slot : Slot,
    (p.abortCalOn h cause).stage = { p.stage with entry := entry, slot := slot } ∧ (∀ g, g ≠ h → entry g = p.entry g) ∧
      ∀ g, (p.abortCalOn h cause).calOn g = if g = h then none else p.calOn g := by
  unfold Part.abortCalOn; split
  · next on =>
    cases slot : p.slot with
    | pendingCal c =>
      have at_ : c.head = h := by
        by_contra other
        simp [Part.calOn, slot, other] at on
      subst at_
      have pending : (p.modEntry c.head Entry.closeFill).slot = .pendingCal c := slot
      have ended : p.abortCal cause = { p.modEntry c.head Entry.closeFill with
          slot := .finished (.calAborted cause c.counted c.after (p.now - c.start)) } := by
        simp only [Part.abortCal, slot, Part.endCal, Part.finish, pending]
        rfl
      rw [ended]
      refine ⟨(p.modEntry c.head Entry.closeFill).entry,
        .finished (.calAborted cause c.counted c.after (p.now - c.start)), ?_, fun g other => by simp [other], fun g => ?_⟩
      · rw [Part.setSlot_stage, Part.modEntry_stage]
      · by_cases same : g = c.head
        · simp [Part.calOn, same]
        · simp [Part.calOn, slot, same, Ne.symm same]
    | _ => simp [Part.calOn, slot] at on
  · next off =>
    refine ⟨p.entry, p.slot, rfl, fun _ _ => rfl, fun g => ?_⟩
    by_cases same : g = h
    · subst same; simpa using off
    · simp [same]

theorem Part.Withdrawn.refl : p.Withdrawn [] p :=
  ⟨fun _ _ => rfl, fun _ => rfl, fun _ => rfl, rfl, rfl, fun _ _ => id, fun _ => rfl, rfl⟩

theorem Part.withdrawHead_withdrawn {gone : List HeadNo} (standby : p.control.prod = .standby) (w : p.Withdrawn gone q) :
    p.Withdrawn (h :: gone) (q.withdrawHead h) := by
  have completed : ∃ r : Part, r = (if (q.context h).isSome then q.completeContainer h else q) ∧
      (∀ g, g ≠ h → r.entry g = q.entry g) ∧ (∀ g, r.numberOn g = if g = h then none else q.numberOn g) ∧
      r.slot = q.slot ∧ r.phase = q.phase ∧ r.control.prod = q.control.prod ∧ r.machine = q.machine ∧
      (TrackOf q.track q.numberOn q.machine.inspection → TrackOf r.track r.numberOn q.machine.inspection) ∧
      (q.numberOn h = none → r.track = q.track) := by
    refine ⟨_, rfl, ?_⟩
    split
    · next on =>
      obtain ⟨done, tracks⟩ := Part.completeContainer_completes on
      have prod : (q.completeContainer h).control.prod = q.control.prod := by
        rcases done.control with ⟨prod, -⟩ | ⟨stopping, -⟩
        · exact prod
        · rw [w.prod, standby] at stopping; cases stopping
      refine ⟨fun g other => (done.entry g).trans (if_neg other), fun g => ?_, done.slot, done.phase, prod, done.machine,
        tracks, fun none_ => ?_⟩
      · rw [Part.numberOn, done.context]; split <;> rfl
      · rw [Part.numberOn_eq_none] at none_; rw [none_] at on; cases on
    · next off =>
      have none_ : q.numberOn h = none := by rw [Part.numberOn_eq_none]; simpa using off
      refine ⟨fun _ _ => rfl, fun g => ?_, rfl, rfl, rfl, rfl, id, fun _ => rfl⟩
      split
      · next same => rw [same]; exact none_
      · rfl
  obtain ⟨r, same, entry, number, slot, phase, prod, machine, track, bare⟩ := completed
  have calOn : ∀ g, r.calOn g = q.calOn g := fun g => by simp only [Part.calOn, slot]
  obtain ⟨entry', slot', stage, others, cals⟩ := Part.abortCalOn_stage (p := r) (h := h) .headWithdrawn
  have number' : ∀ g, (r.abortCalOn h .headWithdrawn).numberOn g = r.numberOn g := fun g =>
    congrFun (congrArg Stage.number stage) g
  have track' : (r.abortCalOn h .headWithdrawn).track = r.track := congrArg Stage.track stage
  have whole : q.withdrawHead h = r.abortCalOn h .headWithdrawn := by rw [Part.withdrawHead, same]
  rw [whole]
  refine ⟨fun g out => ?_, fun g => ?_, fun g => ?_, ?_, ?_, fun d bound ok => ?_, fun none_ => ?_, ?_⟩
  · rw [List.mem_cons, not_or] at out
    have known : (r.abortCalOn h .headWithdrawn).entry g = entry' g := congrFun (congrArg Stage.entry stage) g
    rw [known, others g out.1, entry g out.1, w.entry g out.2]
  · rw [number', number, w.number]
    by_cases at_ : g = h <;> simp [at_]
  · rw [cals, calOn, w.calOn]
    by_cases at_ : g = h <;> simp [at_]
  · exact ((congrArg Stage.phase stage).trans phase).trans w.phase
  · exact ((congrArg Stage.prod stage).trans prod).trans w.prod
  · rw [track', show (r.abortCalOn h .headWithdrawn).numberOn = r.numberOn from funext number']
    have inspection : q.machine.inspection = d := by rw [w.machine]; exact bound
    rw [← inspection]
    exact track (inspection ▸ w.track d bound ok)
  · rw [track']
    refine (bare ?_).trans (w.bare none_)
    rw [w.number]; split
    · rfl
    · exact none_ h
  · have same : (r.abortCalOn h .headWithdrawn).machine = r.machine := by
      have view := congrArg Tracking.machine (show (r.abortCalOn h .headWithdrawn).tracking = r.tracking by simp)
      exact view
    exact (same.trans machine).trans w.machine

theorem Part.withdrawn_forEach {gone : List HeadNo} (standby : p.control.prod = .standby) (w : p.Withdrawn gone q)
    (l : List HeadNo) : p.Withdrawn (l.reverse ++ gone) (forEach l Part.withdrawHead q) := by
  induction l generalizing gone q with
  | nil => exact w
  | cons g l ih =>
    have next := ih (Part.withdrawHead_withdrawn (h := g) standby w)
    rw [List.reverse_cons, List.append_assoc]
    exact next

/-! ### Heads become blank -/

/-- The entries of the heads of a list are blank and without a container; all else that the invariants read stands. -/
structure Part.Blanked (p : Part) (l : List HeadNo) (q : Part) : Prop where
  entry : ∀ g, q.entry g = if g ∈ l then blankEntry else p.entry g
  number : ∀ g, q.numberOn g = if g ∈ l then none else p.numberOn g
  calOn : ∀ g, q.calOn g = p.calOn g
  phase : q.phase = p.phase
  prod : q.control.prod = p.control.prod
  track : q.track = p.track
  machine : q.machine = p.machine

theorem Part.Blanked.refl : p.Blanked [] p := ⟨fun _ => rfl, fun _ => rfl, fun _ => rfl, rfl, rfl, rfl, rfl⟩

theorem Part.blanked_forEach {f : HeadNo → Part → Part} (blank : ∀ h (q : Part), q.Blanked [h] (f h q))
    {done : List HeadNo} (b : p.Blanked done q) (l : List HeadNo) : p.Blanked (l.reverse ++ done) (forEach l f q) := by
  induction l generalizing done q with
  | nil => exact b
  | cons g l ih =>
    have one := blank g q
    have next : p.Blanked (g :: done) (f g q) := by
      refine ⟨fun x => ?_, fun x => ?_, fun x => (one.calOn x).trans (b.calOn x), one.phase.trans b.phase,
        one.prod.trans b.prod, one.track.trans b.track, one.machine.trans b.machine⟩
      · rw [one.entry, b.entry]; by_cases at_ : x = g <;> simp [at_]
      · rw [one.number, b.number]; by_cases at_ : x = g <;> simp [at_]
    rw [List.reverse_cons, List.append_assoc]
    exact ih next

theorem Part.blankHead_blanked (f : HeadRecord → HeadRecord) : p.Blanked [h] (p.modHead h fun x => blankHead (f x.record)) := by
  refine ⟨fun g => ?_, fun g => ?_, fun _ => rfl, rfl, rfl, rfl, rfl⟩
  · simp only [Part.entry, Part.head_modHead, List.mem_singleton]; split <;> rfl
  · simp only [Part.numberOn, Part.context, Part.head_modHead, List.mem_singleton]; split <;> rfl

theorem Part.joinHead_blanked : p.Blanked [h] (p.joinHead h) :=
  Part.blankHead_blanked fun x => { freshRecord true x.stored with gen := x.gen }

/-- The removal of a mark may end a TEST COILS, which is no CAL DOSE. -/
theorem Part.removeMark_stage : ∃ slot : Slot, (p.removeMark h).stage = { p.stage with slot := slot } ∧
    ∀ g, (p.removeMark h).calOn g = p.calOn g := by
  have finished : ∀ (q : Part) (r : OpResult), r.kind ≠ .calDose → q.stage = p.stage →
      ∃ slot : Slot, (q.finish r).stage = { p.stage with slot := slot } ∧ ∀ g, (q.finish r).calOn g = p.calOn g := by
    intro q r kind same
    have cal := Part.calOn_of_stage same
    unfold Part.finish; split
    · next pending =>
      refine ⟨.finished r, ?_, fun g => ?_⟩
      · rw [← same]; rfl
      · rw [← cal g]
        cases slot : q.slot with
        | pendingCal c => rw [slot] at pending; exact absurd (Option.some.inj pending.2).symm kind
        | _ => simp [Part.calOn, slot]
    · exact ⟨p.slot, same, cal⟩
  unfold Part.removeMark; split
  · unfold Part.checkTestCoils; split
    · exact finished _ _ (by simp [OpResult.kind])
        ((show Part.stage { p.modDiag h _ with coilTest := .idle } = (p.modDiag h _).stage from rfl).trans
          (Part.modDiag_stage h p _))
    · exact ⟨p.slot, Part.modDiag_stage h p _, Part.calOn_of_stage (Part.modDiag_stage h p _)⟩
  · exact ⟨p.slot, rfl, fun _ => rfl⟩

theorem Part.dropHead_blanked : p.Blanked [h] (p.dropHead h) := by
  obtain ⟨slot, stage, calOn⟩ := Part.removeMark_stage (p := p) (h := h)
  have left : ((p.removeMark h).setMethod h .out none).stage = { p.stage with slot := slot } :=
    (Part.setMethod_stage h _ .out none).trans stage
  have machine : ((p.removeMark h).setMethod h .out none).machine = p.machine := by
    have view := congrArg Tracking.machine
      (show ((p.removeMark h).setMethod h .out none).tracking = p.tracking by simp)
    exact view
  have calOn' : ∀ g, ((p.removeMark h).setMethod h .out none).calOn g = p.calOn g := fun g =>
    (Part.calOn_of_stage (Part.setMethod_stage h _ .out none) g).trans (calOn g)
  have blank := Part.blankHead_blanked (p := (p.removeMark h).setMethod h .out none) (h := h) fun x => x
  unfold Part.dropHead; dsimp only
  generalize (p.removeMark h).setMethod h .out none = q at *
  have entry : ∀ g, q.entry g = p.entry g := congrFun (congrArg Stage.entry left)
  have number : ∀ g, q.numberOn g = p.numberOn g := congrFun (congrArg Stage.number left)
  exact ⟨fun g => by rw [blank.entry, entry], fun g => by rw [blank.number, number],
    fun g => (blank.calOn g).trans (calOn' g), blank.phase.trans (congrArg Stage.phase left),
    blank.prod.trans (congrArg Stage.prod left), blank.track.trans (congrArg Stage.track left),
    blank.machine.trans machine⟩

/-! ### The whole of WRITE MACHINE -/

theorem mem_leavingHeads {old new : MachineConfig} {l : List HeadNo} (whole : ∀ g, g ∈ l) (g : HeadNo) :
    g ∈ leavingHeads old new l ↔ old.fitted.getLsbD g = true ∧ new.fitted.getLsbD g = false := by
  simp [leavingHeads, whole g]

theorem mem_joiningHeads {old new : MachineConfig} (g : HeadNo) :
    g ∈ joiningHeads old new allHeads ↔ old.fitted.getLsbD g = false ∧ new.fitted.getLsbD g = true := by
  simp [joiningHeads, allHeads]

theorem mem_headOrder (first g : HeadNo) : g ∈ allHeads.map (first + ·) :=
  List.mem_map.mpr ⟨g - first, List.mem_finRange _, by simp⟩

/-- The ageing of a WRITE MACHINE takes DISCHARGED records until no more than the new D + 12 remain (R111). -/
theorem TrackOf.ageExcess {number : HeadNo → Option Nat} (n : Nat) {q : Part}
    (ok : TrackOf q.track number (q.machine.inspection + n)) :
    TrackOf (ageExcess n q).track number q.machine.inspection := by
  induction n generalizing q with
  | zero => exact ok
  | succ n ih =>
    obtain ⟨record, order, bound⟩ := ok
    have machine := Part.machine_of_offTrack (Part.ageByCount_offTrack q)
    have aged : TrackOf q.ageByCount.track number (q.ageByCount.machine.inspection + n) := by
      rw [machine, Part.ageByCount_track]
      refine ⟨fun g => by rw [filter_standsOn_agedTrack]; exact record g, ordered_agedTrack order, ?_⟩
      rw [dischargedCount_agedTrack]
      split <;> omega
    exact machine ▸ ih aged

/-- With at most all of its records DISCHARGED a track agrees up to its length. -/
theorem TrackOf.excess {t : List TrackRecord} {number : HeadNo → Option Nat} {d : Nat} (ok : TrackOf t number d)
    (k : Nat) : TrackOf t number (k + t.length) :=
  ⟨ok.record, ok.order, (List.length_filter_le _ t).trans (by omega)⟩

theorem Part.retrack_stage (old : MachineConfig) : (p.retrack old).stage = p.stage := by
  have moved : ∀ (q : Part) (hs : Vector Head 64), (∀ g : HeadNo, hs[g] = { q.head g with pointer := none }) →
      { q with heads := hs }.stage = q.stage := fun q hs head => Part.stage_setHeads q
    (fun g => by rw [head]; rfl) (fun g => by rw [head]; rfl) (fun g => by rw [head]; rfl)
  unfold Part.retrack; split
  · rfl
  · exact (moved (p.modCarousel fun c => { c with position := 0, lag := 0, zero := none }) _ fun g => by
      simp only [Fin.getElem_fin, Vector.getElem_ofFn]; rfl).trans (Part.modCarousel_stage p _)

/-- What WRITE MACHINE has made of the heads and of the track, before the new table of faults applies. -/
structure Part.Refitted (p : Part) (new : MachineConfig) (q : Part) : Prop where
  entry : ∀ g, q.entry g = if p.fitted g = new.fitted.getLsbD g then p.entry g else blankEntry
  number : ∀ g, q.numberOn g = if p.fitted g = new.fitted.getLsbD g then p.numberOn g else none
  calOn : ∀ g, q.calOn g = if p.fitted g = true ∧ new.fitted.getLsbD g = false then none else p.calOn g
  phase : q.phase = p.phase
  prod : q.control.prod = .standby
  machine : q.machine = new
  track : p.Agrees → TrackOf q.track q.numberOn new.inspection
  bare : p.track = [] → (∀ g, p.numberOn g = none) → q.track = []

theorem Part.keeps_of_refitted {new : MachineConfig} (standby : p.control.prod = .standby) (r : p.Refitted new q) :
    p.Keeps q := by
  have still : ∀ g, p.cleans g = false := Part.cleans_of_not_drain (by simp [standby])
  have fitted : ∀ g, q.fitted g = new.fitted.getLsbD g := fun g => by rw [Part.fitted, r.machine]
  refine ⟨fun inv g => ?_, fun inv => ?_, fun inv => ?_⟩
  · rw [r.entry]; split
    · exact inv g
    · rfl
  · rw [Part.liquidInterlock_iff] at inv ⊢
    intro g
    obtain ⟨stray, unfitted, waits, settles⟩ := inv g
    have settles' : q.calDoses g = true → (q.calOn g).all (fun c => decide (c.settleTimer = .stopped)) = true := by
      rw [Part.calDoses, r.calOn]; split
      · exact fun dosing => by cases dosing
      · exact settles
    have entry := r.entry g
    have number := r.number g
    split at entry
    · next same =>
      rw [if_pos same] at number
      refine ⟨fun opened => .inr ?_, fun out => ?_, fun waiting => ?_, settles'⟩
      · rw [entry] at opened
        have dosing := (stray opened).resolve_left (by simp [still g])
        have stays : ¬ (p.fitted g = true ∧ new.fitted.getLsbD g = false) := by rw [same]; simp
        rw [Part.calDoses, r.calOn, if_neg stays]; exact dosing
      · rw [fitted, ← same] at out; rw [entry, number]; exact unfitted out
      · rw [entry] at waiting; exact absurd (waits waiting) (by simp [still g])
    · next other =>
      rw [if_neg other] at number
      refine ⟨fun opened => ?_, fun _ => ⟨number, entry⟩, fun waiting => ?_, settles'⟩
      · rw [entry] at opened; cases opened
      · rw [entry] at waiting; cases waiting
  · rw [Part.trackAgrees_iff] at inv ⊢
    refine Part.agrees_iff.mpr ⟨fun g => ?_, r.machine ▸ r.track inv, fun g out => ?_, fun off => ?_⟩
    · rw [r.entry, r.number]; split
      · exact inv.holds g
      · rfl
    · rw [r.number]; split
      · next same => rw [fitted, ← same] at out; exact inv.unfitted g out
      · rfl
    · rw [r.phase] at off
      obtain ⟨empty, none_⟩ := inv.bare off
      refine ⟨r.bare empty none_, fun g => ?_⟩
      rw [r.number, none_]; split <;> rfl

theorem Part.applyWindow_stage : p.applyWindow.stage = p.stage := by
  unfold Part.applyWindow
  refine (forFitted_view Part.stage _ (fun h q => Part.evaluateRate_stage h q) _).trans ?_
  exact Part.stage_setHeads p (fun g => by simp; rfl) (fun g => by simp; rfl) (fun g => by simp; rfl)

theorem Part.applyActions_stage (ks : List FaultKind) : (p.applyActions ks).stage = p.stage := by
  refine forFitted_view Part.stage _ (fun h q => ?_) p
  induction ks generalizing q with
  | nil => rfl
  | cons k ks ih =>
    rw [List.foldl_cons]
    refine (ih _).trans ?_
    split
    · exact Part.decideKind_stage h q k
    · rfl

theorem Part.applyDiag_keeps (old : MachineConfig) : p.Keeps (p.applyDiag old) := by
  have windows : ∀ q : Part, (if old.window ≠ q.machine.window then q.applyWindow else q).stage = q.stage := fun q => by
    split
    · exact Part.applyWindow_stage
    · rfl
  unfold Part.applyDiag; dsimp only
  exact Part.Keeps.trans
    (Part.keeps_of_stage ((Part.applyActions_stage (changedKinds old p.machine)).trans (windows p)))
    (.ite fun _ => Part.removeAllMarks_keeps)

/-- The withdrawal, the new configuration, the dropping and the joining of heads, and the ageing, one behind the other. -/
theorem Part.refitted {new : MachineConfig} {gone dropped joined : List HeadNo} {q r d j : Part}
    (standby : p.control.prod = .standby) (withdrawn : p.Withdrawn gone q)
    (stage : r.stage = { q.stage with fitted := new.fitted, inspection := new.inspection }) (machine : r.machine = new)
    (drops : r.Blanked dropped d) (joins : d.Blanked joined j)
    (gone_iff : ∀ g : HeadNo, g ∈ gone ↔ p.fitted g = true ∧ new.fitted.getLsbD g = false)
    (dropped_iff : ∀ g : HeadNo, g ∈ dropped ↔ p.fitted g = true ∧ new.fitted.getLsbD g = false)
    (joined_iff : ∀ g : HeadNo, g ∈ joined ↔ p.fitted g = false ∧ new.fitted.getLsbD g = true) :
    p.Refitted new (ageExcess j.track.length j) := by
  have off := ageExcess_offTrack j j.track.length
  have bodies := ageExcess_bodies j j.track.length
  have entries : ∀ g, r.entry g = q.entry g := congrFun (congrArg Stage.entry stage)
  have numbers : ∀ g, r.numberOn g = q.numberOn g := congrFun (congrArg Stage.number stage)
  have slot : r.slot = q.slot := congrArg Stage.slot stage
  have machine' : j.machine = new := joins.machine.trans (drops.machine.trans machine)
  have track : j.track = q.track := joins.track.trans (drops.track.trans (congrArg Stage.track stage))
  have split_ : ∀ g : HeadNo, p.fitted g = new.fitted.getLsbD g ∨ (p.fitted g = true ∧ new.fitted.getLsbD g = false) ∨
      (p.fitted g = false ∧ new.fitted.getLsbD g = true) := fun g => by
    cases p.fitted g <;> cases new.fitted.getLsbD g <;> simp
  have number : ∀ g, j.numberOn g = if g ∈ joined then none else if g ∈ gone then none else p.numberOn g := fun g => by
    rw [joins.number, drops.number, numbers, withdrawn.number]
    by_cases leaves : g ∈ gone
    · simp [leaves, (dropped_iff g).mpr ((gone_iff g).mp leaves)]
    · simp [leaves, mt (dropped_iff g).mp (mt (gone_iff g).mpr leaves)]
  refine ⟨fun g => ?_, fun g => ?_, fun g => ?_, ?_, ?_, ?_, fun inv => ?_, fun empty none_ => ?_⟩
  · rw [Part.entry_of_bodies bodies, joins.entry, drops.entry, entries]
    rcases split_ g with same | leaves | joining
    · have stays : g ∉ gone ∧ g ∉ dropped ∧ g ∉ joined := by
        rw [gone_iff, dropped_iff, joined_iff, same]; simp
      rw [if_neg stays.2.2, if_neg stays.2.1, withdrawn.entry g stays.1, if_pos same]
    · rw [if_pos ((dropped_iff g).mpr leaves), leaves.1, leaves.2]; simp
    · rw [if_pos ((joined_iff g).mpr joining), joining.1, joining.2]; simp
  · rw [Part.numberOn_of_bodies bodies, number]
    rcases split_ g with same | leaves | joining
    · have stays : g ∉ gone ∧ g ∉ joined := by rw [gone_iff, joined_iff, same]; simp
      rw [if_neg stays.2, if_neg stays.1, if_pos same]
    · rw [if_pos ((gone_iff g).mpr leaves), leaves.1, leaves.2]; simp
    · rw [if_pos ((joined_iff g).mpr joining), joining.1, joining.2]; simp
  · have calOn : (ageExcess j.track.length j).calOn g = j.calOn g := by
      simp only [Part.calOn, Part.slot_of_offTrack off]
    have same : r.calOn g = q.calOn g := by simp only [Part.calOn, slot]
    rw [calOn, joins.calOn, drops.calOn, same, withdrawn.calOn]
    simp only [gone_iff]
  · exact (Part.phase_of_offTrack off).trans
      (joins.phase.trans (drops.phase.trans ((congrArg Stage.phase stage).trans withdrawn.phase)))
  · exact (Part.prod_of_offTrack off).trans
      (joins.prod.trans (drops.prod.trans ((congrArg Stage.prod stage).trans (withdrawn.prod.trans standby))))
  · exact (Part.machine_of_offTrack off).trans machine'
  · have ok := withdrawn.track _ rfl (Part.agrees_iff.mp inv).2.1
    have unchanged : j.numberOn = q.numberOn := funext fun g => by
      rw [number, withdrawn.number]
      split
      · next joining => simp [inv.unfitted g ((joined_iff g).mp joining).1]
      · rfl
    have whole : (ageExcess j.track.length j).numberOn = q.numberOn :=
      (funext (Part.numberOn_of_bodies bodies)).trans unchanged
    rw [whole, ← machine']
    exact TrackOf.ageExcess _ ((track ▸ ok).excess _)
  · have none_' : j.track = [] := track.trans ((withdrawn.bare none_).trans empty)
    rw [none_']; exact none_'

theorem Part.writeMachine_keeps (standby : p.control.prod = .standby) (new : MachineConfig) :
    p.Keeps (p.writeMachine new) := by
  have withdrawn := Part.withdrawn_forEach standby Part.Withdrawn.refl
    (leavingHeads p.machine new (allHeads.map (p.firstHead + ·)))
  unfold Part.writeMachine; dsimp only
  generalize forEach (leavingHeads p.machine new (allHeads.map (p.firstHead + ·))) Part.withdrawHead p = q at *
  have stage : ({ q with machine := new, configBad := false }.retrack p.machine).stage =
      { q.stage with fitted := new.fitted, inspection := new.inspection } := (Part.retrack_stage _).trans rfl
  have machine : ({ q with machine := new, configBad := false }.retrack p.machine).machine = new := by
    unfold Part.retrack; split <;> rfl
  generalize Part.retrack p.machine { q with machine := new, configBad := false } = r at *
  have drops := Part.blanked_forEach (fun h q => Part.dropHead_blanked (p := q) (h := h)) Part.Blanked.refl
    (leavingHeads p.machine new allHeads) (q := r)
  generalize forEach (leavingHeads p.machine new allHeads) Part.dropHead r = d at *
  have joins := Part.blanked_forEach (fun h q => Part.joinHead_blanked (p := q) (h := h)) Part.Blanked.refl
    (joiningHeads p.machine new allHeads) (q := d)
  generalize forEach (joiningHeads p.machine new allHeads) Part.joinHead d = j at *
  have refit := Part.refitted standby withdrawn stage machine drops joins
    (fun g => by
      rw [List.append_nil, List.mem_reverse]
      exact mem_leavingHeads (fun g => mem_headOrder p.firstHead g) g)
    (fun g => by
      rw [List.append_nil, List.mem_reverse]
      exact mem_leavingHeads (fun g => List.mem_finRange g) g)
    (fun g => by rw [List.append_nil, List.mem_reverse]; exact mem_joiningHeads g)
  refine Part.Keeps.trans (Part.keeps_of_refitted standby refit) (Part.Keeps.trans ?_ (Part.applyDiag_keeps _))
  exact Part.keeps_of_stage ((Part.recomputeAdvisory_stage _).trans rfl)

end Sys2Proof.Machine
end

section
/-! The owners of the requests keep the three invariants. -/

namespace Sys2Proof.Machine

open Sys2Proof

variable {p q : Part} {h : HeadNo}

/-! ### Production requests -/

theorem Part.setProd_keeps_of_not_drain (other : p.control.prod ≠ .drain) (new : Prod) : p.Keeps (p.setProd new) :=
  Part.setProd_keeps (Part.cleans_of_not_drain other) new

theorem Part.setHoldTimer_keeps (t : Timer) : p.Keeps (p.setHoldTimer t) := Part.keeps_of_stage (Part.setHoldTimer_stage p t)

theorem takeStart_keeps : p.Keeps (takeStart p).1 := by
  have warm : ∀ (q : Part) w, (q.startWarmup w).stage = q.stage := fun q w =>
    forFitted_view Part.stage _ (fun h r => by
      split
      · exact Part.modRecord_stage h r rfl
      · rfl) q
  unfold takeStart; split
  · exact .refl p
  · next standby =>
    split
    · exact .refl p
    · split
      · exact .refl p
      · split
        · exact .refl p
        · exact (Part.setProd_keeps_of_not_drain (by simp_all) _).trans (Part.keeps_of_stage (warm _ _))

theorem takeHold_keeps : p.Keeps (takeHold p).1 := by
  unfold takeHold; split
  · exact .refl p
  · exact (Part.setProd_keeps_of_not_drain (by simp_all) _).trans (Part.setHoldTimer_keeps _)

theorem takeResume_keeps : p.Keeps (takeResume p).1 := by
  unfold takeResume; split
  · exact .refl p
  · next hold =>
    refine (Part.setHoldTimer_keeps .stopped).trans (Part.setProd_keeps_of_not_drain ?_ _)
    rw [show (p.setHoldTimer .stopped).control.prod = p.control.prod from rfl]; simp_all

theorem takeStop_keeps : p.Keeps (takeStop p).1 := by
  have stops : p.control.prod ≠ .drain → ∀ new, p.Keeps ((p.setHoldTimer .stopped).setProd new) := fun other new =>
    (Part.setHoldTimer_keeps .stopped).trans
      (Part.setProd_keeps_of_not_drain (p := p.setHoldTimer .stopped) other new)
  unfold takeStop; split
  · next prod => exact stops (by simp [prod]) _
  · next prod => exact stops (by simp [prod]) _
  all_goals exact .refl p

theorem takeRecover_keeps : p.Keeps (takeRecover p).1 := by
  have stands : ∀ q : Part, q.control.prod = .safe → q.Keeps (q.setProd .standby) := fun q safe =>
    Part.setProd_keeps_of_not_drain (by simp [safe]) .standby
  unfold takeRecover; split
  · exact .refl p
  · next safe =>
    split
    · exact .refl p
    · split
      · exact .refl p
      · split
        · exact .refl p
        · exact Part.Keeps.trans (q := { p with control := { p.control with firstCause := none, causes := 0 } })
            (Part.keeps_of_stage rfl) (stands _ (by simpa using safe))

/-! ### Cleaning -/

theorem takeCleanBegin_keeps : p.Keeps (takeCleanBegin p).1 := by
  have begins : ∀ q : Part, q.control.prod = .standby → q.Keeps (q.setProd .drain) := fun q standby =>
    Part.setProd_keeps_of_not_drain (by simp [standby]) .drain
  unfold takeCleanBegin; split
  · exact .refl p
  · next standby =>
    split
    · exact .refl p
    · split
      · exact .refl p
      · exact Part.Keeps.trans (q := p.clearDrainTotals) (Part.keeps_of_stage (Part.clearDrainTotals_stage p))
          (begins _ ((Part.prod_of_stage (Part.clearDrainTotals_stage p)).trans (by simpa using standby)))

/-- More heads may be cleaned. -/
theorem Part.control_keeps_of_cleans {c : Control} (more : ∀ g, p.cleans g = true → { p with control := c }.cleans g = true) :
    p.Keeps { p with control := c } where
  relief inv := inv
  liquid inv := by
    rw [Part.liquidInterlock_iff] at inv ⊢
    intro g
    obtain ⟨stray, unfitted, waits, settles⟩ := inv g
    exact ⟨fun opened => (stray opened).imp_left (more g), unfitted, more g ∘ waits, settles⟩
  track inv := inv

/-- A head that may be cleaned: fitted, in service, in DRAIN with the clean valves opened. -/
theorem Part.openCleanAt_keeps (fitted : p.fitted h = true) (drain : p.control.prod = .drain)
    (opened : p.control.cleanOpened = true) : p.Keeps (p.openCleanAt h) := by
  have free : ∀ f : Entry → Entry, (p.record h).stored.inService = true → (f (p.entry h)).state = (p.entry h).state →
      (f (p.entry h)).relief = (p.entry h).relief → (p.entry h).state.vents = false → p.Keeps (p.modEntry h f) := by
    intro f service state relief closed
    have entry : (p.modEntry h f).entry h = f (p.entry h) := by simp
    refine Part.keeps_of_offHead (Part.modEntry_offHead h p f) (by simp [Part.numberOn]) (fun ok => ?_)
      (by rw [entry, state]) fun at_ => ?_
    · obtain ⟨shut, -⟩ := Entry.reliefOk_iff.mp ok
      rw [Entry.reliefOk_iff, entry, state, relief, shut, closed]
      exact ⟨rfl, fun opened => by cases opened⟩
    · have cleans : (p.modEntry h f).cleans h = true := by
        have kept := Part.cleans_of_offHead (Part.modEntry_offHead h p f) (g := h) fun _ => by simp
        rw [kept]; simp [Part.cleans, fitted, service, drain, opened]
      refine ⟨fun _ => .inl cleans, fun out => ?_, fun _ => cleans, at_.settles⟩
      exact absurd (fitted.symm.trans out) (by decide)
  unfold Part.openCleanAt; split
  · next service =>
    split
    · next st => exact free _ service rfl rfl (by rw [st]; rfl)
    · next st => exact free _ service rfl rfl (by rw [st]; rfl)
    · next st => exact free _ service rfl rfl (by rw [st]; rfl)
    · exact .refl p
  · exact .refl p

theorem Part.openCleanAt_offHead : (p.openCleanAt h).offHead h = p.offHead h := by
  unfold Part.openCleanAt; split
  · split <;> simp
  · rfl

theorem takeCleanOpen_keeps : p.Keeps (takeCleanOpen p).1 := by
  unfold takeCleanOpen; split
  · exact .refl p
  · next drain =>
    have drain' : (p.setClean true).control.prod = .drain := by
      rw [show (p.setClean true).control.prod = p.control.prod from rfl]; simpa using drain
    refine Part.Keeps.trans (Part.control_keeps_of_cleans (fun g cleaned => ?_)) (forEach_keeps_of
      (P := fun g q => q.fitted g = true ∧ q.control.prod = .drain ∧ q.control.cleanOpened = true)
      (fun h g q known => ?_) (fun h q known => Part.openCleanAt_keeps known.1 known.2.1 known.2.2)
      fun g mem => ⟨(List.mem_filter.mp mem).2, drain', rfl⟩)
    · simp only [Part.cleans, Bool.and_eq_true] at cleaned ⊢
      exact ⟨⟨cleaned.1.1, trivial⟩, cleaned.2⟩
    · rw [Part.fitted_of_offHead Part.openCleanAt_offHead, Part.control_of_offHead Part.openCleanAt_offHead]
      exact known

theorem Part.closeClean_keeps : p.Keeps (p.setClean false).closeCleanValves :=
  Part.control_keeps_but_liquid (c := { p.control with cleanOpened := false })
    (Part.closeCleanValves_liquid rfl rfl fun _ _ => rfl) Part.closeCleanValves_keeps

theorem takeCleanClose_keeps : p.Keeps (takeCleanClose p).1 := by
  unfold takeCleanClose; split
  · exact .refl p
  · exact Part.closeClean_keeps

theorem takeCleanEnd_keeps : p.Keeps (takeCleanEnd p).1 := by
  unfold takeCleanEnd; split
  · exact .refl p
  · refine Part.closeClean_keeps.trans (Part.setProd_keeps (fun g => ?_) .standby)
    have control : (p.setClean false).closeCleanValves.control = (p.setClean false).control :=
      Part.control_of_offHeads (Part.closeCleanValves_offHeads _)
    rw [Part.cleans, control, show (p.setClean false).control.cleanOpened = false from rfl]
    simp

/-! ### Recipes -/

theorem Part.recipeChanged_stage : p.recipeChanged.stage = p.stage := by
  have dropped : ∀ q : Part, q.dropTimed.stage = q.stage := fun q => forFitted_view Part.stage _ (fun h r => by
    split
    · exact Part.setMethod_stage h r _ _
    · rfl) q
  exact (Part.recomputeAdvisory_stage _).trans ((dropped _).trans (Part.recomputePressure_stage p))

theorem takeSelectRecipe_keeps (slot : Nat) : p.Keeps (takeSelectRecipe slot p).1 := by
  unfold takeSelectRecipe; split
  · exact .refl p
  · split
    · exact .refl p
    · split
      · exact .refl p
      · exact Part.keeps_of_stage (Part.recipeChanged_stage.trans rfl)

theorem takeWriteRecipe_keeps (slot : Nat) (f : RecipeFields) : p.Keeps (takeWriteRecipe slot f p).1 := by
  unfold takeWriteRecipe; split
  · dsimp only; split
    · exact .refl p
    · split
      · exact Part.keeps_of_stage (Part.recipeChanged_stage.trans rfl)
      · exact Part.keeps_of_stage rfl
  · exact .refl p

theorem takeAdjustRecipe_keeps (f : AdjustFields) : p.Keeps (takeAdjustRecipe f p).1 := by
  have set : ∀ i r, ((p.setRecipe i r).recomputePressure).stage = p.stage := fun _ _ =>
    (Part.recomputePressure_stage _).trans rfl
  unfold takeAdjustRecipe; split
  · dsimp only; split
    · exact .refl p
    · split
      · exact .refl p
      · split
        · exact Part.keeps_of_stage ((Part.recomputeAdvisory_stage _).trans (set _ _))
        · exact Part.keeps_of_stage (set _ _)
  · exact .refl p

/-! ### Head records -/

theorem Part.changeTrim_stage (t : Int) : (p.changeTrim h t).stage = p.stage := by
  have record : ∀ f : HeadRecord → HeadRecord, (∀ x, (f x).stored.inService = x.stored.inService) →
      (p.modRecord h f).recomputeAdvisory.stage = p.stage := fun f service =>
    (Part.recomputeAdvisory_stage _).trans (Part.modRecord_stage h p (service _))
  unfold Part.changeTrim; dsimp only; split
  · exact (Part.detect_stage h _ _).trans (record _ fun _ => rfl)
  · exact (Part.clearKind_stage h _ _).trans (record _ fun _ => rfl)

/-- The service of a head changes and its entry stays, where it may be cleaned before only if it may be after. -/
theorem Part.service_keeps (off : q.offHead h = p.offHead h) (number : q.numberOn h = p.numberOn h)
    (entry : q.entry h = p.entry h) (more : p.cleans h = true → q.cleans h = true) : p.Keeps q := by
  refine Part.keeps_of_offHead off number (by rw [entry]; exact id) (by rw [entry]) fun at_ => ?_
  obtain ⟨stray, unfitted, waits, settles⟩ := at_
  constructor
  · rw [entry, Part.calDoses_of_offHead off]; exact fun opened => (stray opened).imp_left more
  · rw [Part.fitted_of_offHead off, number, entry]; exact unfitted
  · rw [entry]; exact more ∘ waits
  · rw [Part.calDoses_of_offHead off, Part.calOn_of_offHead off]; exact settles

/-- The record and the method of a head are written: the head's service is what the record says. -/
theorem Part.writtenRecord (f : HeadRecord → HeadRecord) (m : Method) (c : Option FaultKind) :
    ((p.modRecord h f).setMethod h m c).offHead h = p.offHead h ∧
    ((p.modRecord h f).setMethod h m c).entry h = p.entry h ∧
    ((p.modRecord h f).setMethod h m c).numberOn h = p.numberOn h ∧
    (((p.modRecord h f).setMethod h m c).record h).stored.inService = (f (p.record h)).stored.inService := by
  have table := Part.setMethod_offTable h (p.modRecord h f) m c
  refine ⟨(Part.offHead_of_offTable table).trans (Part.modHead_offHead h _ p), ?_, ?_, ?_⟩
  · rw [Part.entry_of_offTable table]; simp
  · rw [Part.numberOn, Part.context_of_offTable table]; simp [Part.numberOn]
  · rw [Part.inService_of_offTable table]; simp

theorem Part.enterService_keeps : p.Keeps (p.enterService h) := by
  obtain ⟨off, entry, number, service⟩ := Part.writtenRecord (p := p) (h := h)
    (fun x => { x.setInService true with warm := p.serviceWarmup }) .flow none
  have entered := Part.service_keeps off number entry fun cleaned => by
    simp only [Part.cleans, Part.fitted_of_offHead off, Part.control_of_offHead off, service, Bool.and_eq_true] at cleaned ⊢
    exact ⟨⟨⟨cleaned.1.1.1, rfl⟩, cleaned.1.2⟩, cleaned.2⟩
  unfold Part.enterService; dsimp only; split
  · exact entered.trans (Part.keeps_of_stage (Part.decideLive_stage h _))
  · exact entered

theorem Part.leaveService_keeps : p.Keeps (p.leaveService h) := by
  obtain ⟨off, entry, number, service⟩ := Part.writtenRecord (p := p) (h := h)
    (fun x => { x.setInService false with warm := 0 }) .out none
  unfold Part.leaveService; dsimp only
  generalize Part.setMethod h .out none (p.modRecord h fun x => { x.setInService false with warm := 0 }) = q at *
  refine Part.Keeps.trans ?_ (Part.Keeps.trans (Part.removeMark_keeps h) (Part.abortCalOn_keeps h _))
  split
  · have closed : (q.modEntry h Entry.closeClean).entry h = (p.entry h).closeClean := by simp [entry]
    obtain ⟨relief, holds, -, -⟩ := Part.closeClean_follows (p.entry h)
    have off' := (Part.modEntry_offHead h q Entry.closeClean).trans off
    have number' : (q.modEntry h Entry.closeClean).numberOn h = p.numberOn h := by simpa [Part.numberOn] using number
    refine Part.keeps_of_offHead off' number' (by rw [closed]; exact relief)
      (by rw [closed]; exact holds) fun at_ => ?_
    constructor
    · rw [closed]; exact fun opened => by cases opened
    · rw [Part.fitted_of_offHead off', closed]
      intro out
      obtain ⟨none_, blank⟩ := at_.unfitted out
      exact ⟨number'.trans none_, by rw [blank]; rfl⟩
    · rw [closed]; exact fun waiting => by cases waiting
    · rw [Part.calDoses_of_offHead off', Part.calOn_of_offHead off']; exact at_.settles
  · next still =>
    rw [Part.control_of_offHead off] at still
    exact Part.service_keeps off number entry fun cleaned => by rw [Part.cleans_of_not_drain still] at cleaned; cases cleaned

theorem takeWriteHead_keeps (head : Nat) (f : HeadFields) : p.Keeps (takeWriteHead head f p).1 := by
  have cal : ∀ h, (p.writeHeadCal h f).stage = p.stage := fun h => by
    unfold Part.writeHeadCal; dsimp only; split
    · exact (Part.recomputeAdvisory_stage _).trans (Part.modRecord_stage h p rfl)
    · exact Part.modRecord_stage h p rfl
  have trim : ∀ h (q : Part), (q.writeHeadTrim h f.t).stage = q.stage := fun h q => by
    unfold Part.writeHeadTrim; split
    · rfl
    · exact Part.changeTrim_stage _
  have timed : ∀ h (q : Part) v, (q.writeHeadTimed h v).stage = q.stage := fun h q v => by
    unfold Part.writeHeadTimed; split
    · rfl
    · dsimp only; split
      · exact (Part.setMethod_stage h _ _ _).trans (Part.modRecord_stage h q rfl)
      · exact Part.modRecord_stage h q rfl
  have service : ∀ h (q : Part) v, q.Keeps (q.writeHeadService h v) := fun h q v => by
    unfold Part.writeHeadService; split
    · exact Part.leaveService_keeps
    · exact Part.enterService_keeps
    · exact .refl q
  unfold takeWriteHead; split
  · exact .refl p
  · split
    · exact Part.Keeps.trans (Part.keeps_of_stage ((timed _ _ _).trans ((trim _ _).trans (cal _)))) (service _ _ _)
    · exact .refl p

theorem takeRestoreHead_keeps (head : Nat) : p.Keeps (takeRestoreHead head p).1 := by
  have cleared : ∀ h m c, ((p.modDiag h Diag.clearHeld).setMethod h m c).stage = p.stage := fun h m c =>
    (Part.setMethod_stage h _ m c).trans (Part.modDiag_stage h p _)
  unfold takeRestoreHead; split
  · exact .refl p
  · split
    · exact .refl p
    · split
      · exact .refl p
      · refine Part.keeps_of_stage (q := Part.restoreHead _ p) ?_
        unfold Part.restoreHead; dsimp only; split
        · exact cleared _ _ _
        · split <;> exact cleared _ _ _

theorem takeClearFaults_keeps (head : Nat) : p.Keeps (takeClearFaults head p).1 := by
  unfold takeClearFaults; split
  · exact Part.keeps_of_stage (forFitted_view Part.stage _ (fun h q => Part.modDiag_stage h q _) p)
  · split
    · exact .refl p
    · exact Part.keeps_of_stage (Part.modDiag_stage _ p _)

theorem takeClearTotals_keeps (head : Nat) : p.Keeps (takeClearTotals head p).1 := by
  unfold takeClearTotals; split
  · exact Part.keeps_of_stage (forEach_view Part.stage _ (fun h q => Part.modRecord_stage h q rfl) _ p)
  · split
    · exact .refl p
    · exact Part.keeps_of_stage (Part.modRecord_stage _ p rfl)

theorem takeSetDiagnostics_keeps (f : DiagFields) : p.Keeps (takeSetDiagnostics f p).1 := by
  unfold takeSetDiagnostics; split
  · exact .refl p
  · dsimp only; split
    · exact .refl p
    · exact Part.Keeps.trans (q := { p with machine := machineWithDiag f p.machine }) (Part.keeps_of_stage rfl)
        (Part.applyDiag_keeps _)

/-! ### Operations -/

theorem Part.not_doses_of_not_pending (free : p.slot.isPending = false) : p.slot.doses = false := by
  cases slot : p.slot with
  | pendingCal c => rw [slot] at free; cases free
  | _ => rfl

theorem takeTestCoils_keeps : p.Keeps (takeTestCoils p).1 := by
  have marks : ∀ q : Part, q.Keeps (forFitted Part.markHead q) := fun q =>
    forFitted_keeps (fun h r => by unfold Part.markHead; split <;> [dsimp only; rfl]; split <;> simp) fun h r fitted => by
      unfold Part.markHead; split
      · dsimp only; split
        · next rest =>
          exact (Part.keeps_of_stage (Part.modDiag_stage h r _)).trans (Part.beginTest_keeps fitted rest)
        · exact Part.keeps_of_stage (Part.modDiag_stage h r _)
      · exact .refl r
  unfold takeTestCoils; split
  · exact .refl p
  · split
    · exact .refl p
    · next free =>
      have taken : p.Keeps { p with slot := .pendingTest, coilTest := .running } :=
        Part.Keeps.trans (q := { p with coilTest := .running }) (Part.keeps_of_stage rfl)
          (Part.setSlot_keeps (Part.not_doses_of_not_pending (by simpa using free)) rfl)
      exact (taken.trans (marks _)).trans (Part.checkTestCoils_keeps)

/-- The entry of a head whose CAL DOSE begins, with the fast valve or without it. -/
def Entry.calOpened (fast : Bool) (e : Entry) : Entry := { e with gas := true, fast := fast, fine := true }

theorem Part.beginCal_stage (pCal pFine : Nat) : (p.beginCal h pCal pFine).stage = { p.stage with
    entry := (p.modEntry h (Entry.calOpened (decide (pFine < pCal)))).entry
    slot := .pendingCal (p.newCal h pCal pFine) } := by
  have eq : p.beginCal h pCal pFine = { p.modEntry h (Entry.calOpened (decide (pFine < pCal))) with
      slot := .pendingCal (p.newCal h pCal pFine) } := rfl
  rw [eq, Part.setSlot_stage, Part.modEntry_stage]

/-- A CAL DOSE opens its valves on a fitted head at rest, with the slot free (R178, R179). -/
theorem Part.beginCal_keeps (fitted : p.fitted h = true) (ready : p.calReady h = true)
    (free : p.slot.isPending = false) (pCal pFine : Nat) : p.Keeps (p.beginCal h pCal pFine) := by
  have rest : (p.entry h).state = .rest := by
    simp only [Part.calReady, Bool.and_eq_true, decide_eq_true_eq] at ready; exact ready.1.2
  have before := Part.calDoses_of_slot (Part.not_doses_of_not_pending free)
  have stage := Part.beginCal_stage (p := p) (h := h) pCal pFine
  generalize p.beginCal h pCal pFine = q at *
  have entry : ∀ g, q.entry g = if g = h then (p.entry h).calOpened (decide (pFine < pCal)) else p.entry g := fun g =>
    (congrFun (congrArg Stage.entry stage) g).trans (Part.entry_modEntry h g _ p)
  have number : ∀ g, q.numberOn g = p.numberOn g := congrFun (congrArg Stage.number stage)
  have fits : ∀ g, q.fitted g = p.fitted g := fun g => congrArg (fun s : Stage => s.fitted.getLsbD g) stage
  have cleans : ∀ g, q.cleans g = p.cleans g := fun g => congrArg (fun s : Stage =>
    s.fitted.getLsbD g && s.inService g && s.cleanOpened && decide (s.prod = .drain)) stage
  have slot : q.slot = .pendingCal (p.newCal h pCal pFine) := congrArg Stage.slot stage
  refine ⟨fun inv g => ?_, fun inv => ?_, fun inv => ?_⟩
  · rw [entry]; split
    · obtain ⟨shut, -⟩ := Entry.reliefOk_iff.mp (inv h)
      rw [rest] at shut
      rw [Entry.reliefOk_iff]
      simp only [Entry.calOpened, rest, shut]
      exact ⟨trivial, fun opened => by cases opened⟩
    · exact inv g
  · rw [Part.liquidInterlock_iff] at inv ⊢
    intro g
    obtain ⟨stray, unfitted, waits, -⟩ := inv g
    have calOn : q.calOn g = if h = g then some (p.newCal h pCal pFine) else none := by simp [Part.calOn, slot, Part.newCal]
    have phase : (p.newCal h pCal pFine).phase ≠ .settle := by unfold Part.newCal; dsimp only; split <;> decide
    refine ⟨fun opened => ?_, fun out => ?_, fun waiting => ?_, fun _ => ?_⟩
    · rw [entry] at opened
      by_cases same : g = h
      · right; rw [Part.calDoses, calOn, if_pos same.symm]; simp [phase]
      · rw [if_neg same] at opened
        rw [cleans]; exact .inl ((stray opened).resolve_right (by simp [before]))
    · rw [fits] at out
      have other : g ≠ h := fun same => absurd ((same ▸ fitted).symm.trans out) (by decide)
      rw [number, entry, if_neg other]; exact unfitted out
    · rw [entry] at waiting; rw [cleans]
      split at waiting
      · next same => subst same; exact waits waiting
      · exact waits waiting
    · rw [calOn]; split <;> rfl
  · rw [Part.trackAgrees_iff] at inv ⊢
    have states : ∀ g, (q.entry g).state = (p.entry g).state := fun g => by
      rw [entry]; split
      · next same => rw [same]; rfl
      · rfl
    have track : q.track = p.track := congrArg Stage.track stage
    have inspection : q.machine.inspection = p.machine.inspection := congrArg Stage.inspection stage
    have phase : q.phase = p.phase := congrArg Stage.phase stage
    obtain ⟨holds, record, unfitted, order, bound, bare⟩ := inv
    constructor <;> simpa only [number, states, fits, track, inspection, phase]

theorem fitted_of_fittedHead {head : Nat} (known : p.fittedHead head = some h) : p.fitted h = true := by
  unfold Part.fittedHead at known
  split at known
  · split at known
    · next fitted => cases known; exact fitted
    · cases known
  · cases known

theorem takeCalDose_keeps (head pCal pFine : Nat) : p.Keeps (takeCalDose head pCal pFine p).1 := by
  unfold takeCalDose; split
  · exact .refl p
  · split
    · exact .refl p
    · next known =>
      split
      · exact .refl p
      · split
        · exact .refl p
        · next ready =>
          split
          · exact .refl p
          · next free =>
            exact Part.beginCal_keeps (fitted_of_fittedHead known) (by simpa using ready) (by simpa using free) _ _

theorem takeStopCal_keeps : p.Keeps (takeStopCal p).1 := by
  unfold takeStopCal; split
  · exact Part.abortCal_keeps _
  · exact .refl p

theorem takeSave_keeps : p.Keeps (takeSave p).1 := by
  unfold takeSave; split
  · exact .refl p
  · split
    · exact .refl p
    · next free => exact Part.setSlot_keeps (Part.not_doses_of_not_pending (by simpa using free)) rfl

theorem Part.eraseRecord_keeps {f : TrackRecord → Bool} (done : ∀ r, f r = true → r.isDischarged = true) :
    p.Keeps { p with track := p.track.eraseP f } where
  relief inv := inv
  liquid inv := inv
  track inv := by
    rw [Part.trackAgrees_iff, Part.agrees_iff] at inv ⊢
    obtain ⟨holds, track, unfitted, bare⟩ := inv
    refine ⟨holds, track.erase done, unfitted, fun off => ⟨?_, (bare off).2⟩⟩
    show p.track.eraseP f = []
    rw [(bare off).1]; rfl

theorem takeMeasurement_keeps (number volume : Nat) : p.Keeps (takeMeasurement number volume p).1 := by
  have leaves : ∀ q : Part, q.Keeps { q with track := q.track.eraseP fun x => x.isDischarged && x.number == number } :=
    fun q => Part.eraseRecord_keeps fun r at_ => by simp only [Bool.and_eq_true] at at_; exact at_.1
  unfold takeMeasurement; split
  · exact .refl p
  · split
    · exact .refl p
    · dsimp only; split
      · exact (Part.keeps_of_stage (Part.changeTrim_stage _)).trans (leaves _)
      · exact leaves p

theorem takeSupplyData_keeps (t : Int) (c q v : Nat) : p.Keeps (takeSupplyData t c q v p).1 := by
  have watched : ∀ (r : Part) n, (r.watchBowl n).stage = r.stage := fun r n => by
    unfold Part.watchBowl; split
    · rfl
    · dsimp only; split <;> split <;> rfl
  exact Part.keeps_of_stage ((watched _ _).trans ((Part.recomputePressure_stage _).trans rfl))

theorem takeRestart_keeps : p.Keeps (takeRestart p).1 := by
  unfold takeRestart; split
  · exact .refl p
  · split
    · exact .refl p
    · exact Part.clearRun_keeps

theorem takeWriteMachine_keeps (f : MachineFields) : p.Keeps (takeWriteMachine f p).1 := by
  unfold takeWriteMachine; split
  · exact .refl p
  · next standby =>
    split
    · exact .refl p
    · exact Part.writeMachine_keeps (by simpa using standby) _

end Sys2Proof.Machine
end

section
/-! Every step keeps the valve interlocks, and the track and the heads in agreement. -/

namespace Sys2Proof.Machine

open Sys2Proof

variable {p : Part}

/-! ### Requests -/

theorem Part.serve_keeps {port : Port} {kind : Nat} {owner : Part → Part × Answer} (keeps : p.Keeps (owner p).1) :
    p.Keeps (p.serve port kind owner) := by
  unfold Part.serve; split
  · exact Part.keeps_of_stage (Part.reply_stage p _ _ _)
  · exact keeps.trans (Part.keeps_of_stage (Part.reply_stage _ _ _ _))

theorem Part.serveCommand_keeps (c : Instr) : p.Keeps (p.serveCommand c) := by
  cases c with
  | restart => exact Part.serve_keeps takeRestart_keeps
  | writeMachine m => exact Part.serve_keeps (takeWriteMachine_keeps m)
  | setDiagnostics f => exact Part.serve_keeps (takeSetDiagnostics_keeps f)
  | readStatus | operationStatus | readMachine => exact Part.serve_keeps (.refl p)
  | start => exact Part.serve_keeps takeStart_keeps
  | hold => exact Part.serve_keeps takeHold_keeps
  | resume => exact Part.serve_keeps takeResume_keeps
  | stop => exact Part.serve_keeps takeStop_keeps
  | enterSafe => exact Part.serve_keeps (Part.raiseSafe_keeps .command)
  | recover => exact Part.serve_keeps takeRecover_keeps
  | cleanBegin => exact Part.serve_keeps takeCleanBegin_keeps
  | cleanOpen => exact Part.serve_keeps takeCleanOpen_keeps
  | cleanClose => exact Part.serve_keeps takeCleanClose_keeps
  | cleanEnd => exact Part.serve_keeps takeCleanEnd_keeps
  | selectRecipe slot => exact Part.serve_keeps (takeSelectRecipe_keeps slot)
  | writeRecipe slot r => exact Part.serve_keeps (takeWriteRecipe_keeps slot r)
  | adjustRecipe f => exact Part.serve_keeps (takeAdjustRecipe_keeps f)
  | readRecipe slot => exact Part.serve_keeps (by unfold takeReadRecipe; split <;> exact .refl p)
  | writeHead h f => exact Part.serve_keeps (takeWriteHead_keeps h f)
  | readHead h => exact Part.serve_keeps (by unfold takeReadHead; split <;> exact .refl p)
  | restoreHead h => exact Part.serve_keeps (takeRestoreHead_keeps h)
  | clearFaults h => exact Part.serve_keeps (takeClearFaults_keeps h)
  | clearTotals h => exact Part.serve_keeps (takeClearTotals_keeps h)
  | testCoils => exact Part.serve_keeps takeTestCoils_keeps
  | calDose h n m => exact Part.serve_keeps (takeCalDose_keeps h n m)
  | stopCal => exact Part.serve_keeps takeStopCal_keeps
  | save => exact Part.serve_keeps takeSave_keeps
  | measurement n m => exact Part.serve_keeps (takeMeasurement_keeps n m)
  | supplyData t c q v => exact Part.serve_keeps (takeSupplyData_keeps t c q v)
  | _ => exact .refl p

/-! ### The wire -/

theorem Part.setPort_keeps (port : Port) (s : PortState) : p.Keeps (p.setPort port s) :=
  Part.keeps_of_stage (Part.setPort_stage p port s)

theorem Part.arrive_keeps {port : Port} {frame : Byte × List Byte} {take : Part → Part}
    (keeps : ∀ q : Part, q.Keeps (take q)) : p.Keeps (p.arrive port frame take) := by
  have passed := Part.keeps_of_stage (Part.crcPassed_stage p port)
  rcases Part.arrive_cases p port frame take with ⟨-, e⟩ | ⟨-, -, e⟩ | ⟨-, e⟩ <;> rw [e]
  · exact passed
  · exact passed.trans (Part.setPort_keeps _ _)
  · exact passed.trans (keeps _)

theorem Part.takeFrame_keeps (port : Port) (kind : Byte) (payload : List Byte) :
    p.Keeps (p.takeFrame port kind payload) := by
  unfold Part.takeFrame; split
  · exact Part.keeps_of_stage (Part.enqueue_stage p _ _)
  · exact Part.keeps_of_stage (Part.reply_stage p _ _ _)
  · exact Part.serveCommand_keeps _

theorem Part.frameByte_keeps (port : Port) (b : Byte) : p.Keeps (p.frameByte port b) := by
  have dropped : p.Keeps (p.dropFrame port) := Part.setPort_keeps _ _
  have moved : ∀ rx, p.Keeps (p.setRx port rx) := fun rx => Part.setPort_keeps _ _
  unfold Part.frameByte; split
  · exact .refl p
  · exact moved _
  · split
    · exact moved _
    · split
      · exact moved _
      · exact dropped
  · split <;> exact moved _
  · exact moved _
  · dsimp only; split
    · exact dropped.trans (Part.arrive_keeps fun q => Part.takeFrame_keeps _ _ _)
    · exact dropped

theorem byteIn_keeps (port : Port) (b : Byte) (byteError : Bool) : p.Keeps (byteIn port b byteError p) := by
  have outlasted : p.Keeps (p.outlast port) := .ite fun _ => Part.setPort_keeps _ _
  unfold byteIn; split
  · exact .refl p
  · dsimp only; split
    · split
      · exact outlasted.trans (Part.setPort_keeps _ _)
      · exact outlasted
    · split
      · exact outlasted.trans (Part.setPort_keeps _ _)
      · exact outlasted.trans (Part.frameByte_keeps port b)

theorem frameSentEnd_keeps (port : Port) : p.Keeps (frameSentEnd port p) := by
  unfold frameSentEnd; split
  · exact .refl p
  · dsimp only; split
    · split
      · exact Part.setPort_keeps _ _
      · exact (Part.setPort_keeps _ _).trans (Part.takeFrame_keeps _ _ _)
    · exact Part.setPort_keeps _ _

/-! ### The commands that are no requests -/

theorem moduleReport_keeps (m : ModuleNo) : p.Keeps (moduleReport m p) := by
  unfold moduleReport; split
  · exact .refl p
  · exact Part.keeps_of_stage (Part.moduleAnswers_stage p m)

theorem moduleSilence_keeps (m : ModuleNo) : p.Keeps (moduleSilence m p) := by
  unfold moduleSilence
  exact .ite fun _ => Part.atExpiry_keeps fun due =>
    Part.Keeps.trans (q := { p.clockTo due with modules := (p.clockTo due).modules.set m ⟨true, .stopped⟩ })
      (Part.keeps_of_stage rfl) (Part.raiseSafe_keeps .headBus)

theorem holdLimitEnd_keeps : p.Keeps (holdLimitEnd p) :=
  Part.atExpiry_keeps fun _ => (Part.setHoldTimer_keeps _).trans (Part.keeps_of_stage (Part.markHeldLong_stage _))

theorem lineSilenceEnd_keeps : p.Keeps (lineSilenceEnd p) := by
  refine Part.atExpiry_keeps fun due => ?_
  have quiet : ∀ q : Part, q.Keeps { q with lineTimer := .stopped, control := { q.control with lineQuiet := true } } :=
    fun q => Part.keeps_of_stage rfl
  dsimp only; split
  · exact (quiet _).trans (Part.raiseSafe_keeps _)
  · exact quiet _

theorem demandEnd_stage : (demandEnd p).stage = p.stage := by
  have counted : ∀ (q : Part) (s : Supply), { q with
      supply := s, heads := Vector.ofFn fun h => { q.head h with demandCount := 0 } }.stage = q.stage := fun q s =>
    Part.stage_setHeads { q with supply := s } (fun g => by simp; rfl) (fun g => by simp; rfl) (fun g => by simp; rfl)
  unfold demandEnd; split
  · rfl
  · exact (counted _ _).trans (Part.clockTo_stage p _)

theorem saveEnd_keeps (fault : Option SaveFault) : p.Keeps (saveEnd fault p) := by
  have written : ∀ (m : List Host.Cell) (n : Nat), p.Keeps { p with memory := m, freeCount := n } := fun _ _ =>
    Part.keeps_of_stage rfl
  unfold saveEnd; split
  · exact (written _ p.freeCount).trans (Part.finish_keeps _ (by decide))
  · exact (written _ _).trans (Part.finish_keeps _ (by decide))
  · exact .refl p

/-- A report is noted in the entry of a head in its test (R39). -/
theorem Part.testReport_keeps {h : HeadNo} (v : Valve) (r : TestReport) :
    p.Keeps (if (p.entry h).state = .testing then p.modEntry h fun e => { e with reports := e.reports.set v r } else p) :=
  .ite fun testing => Part.note_keeps (by simp [testing]) rfl rfl rfl rfl rfl rfl

theorem Part.seal_keeps {h : HeadNo} (b : Bool) {handle : Part → Part} (keeps : ∀ q : Part, q.Keeps (handle q)) :
    p.Keeps ((p.setSeal h b).busArrival h handle) :=
  (Part.keeps_of_stage (Part.setSeal_stage h p b)).trans (Part.busArrival_keeps fun q _ => keeps q)

/-- A command that is no request keeps the invariants. -/
theorem exec_arrival_keeps {s : State} {c : Instr} (arrival : (encodeRequest c).isSome = false) :
    ∃ q : Part, exec c s = .next { s with part := q } ∧ s.part.Keeps q := by
  cases c with
  | powerOn | resetInput => exact ⟨_, rfl, Part.clearAll_keeps⟩
  | brownout micros => exact ⟨_, rfl, brownout_keeps micros⟩
  | fullResetEnd => exact ⟨_, rfl, fullResetEnd_keeps⟩
  | loadCompletion acknowledged => exact ⟨_, rfl, loadEnd_keeps acknowledged⟩
  | encoderStep a b infeed => exact ⟨_, rfl, Part.encoderEdge_keeps a b infeed⟩
  | zeroMarkArrival infeed => exact ⟨_, rfl, Part.zeroMark_keeps infeed⟩
  | speedSample => exact ⟨_, rfl, Part.keeps_of_stage (by unfold speedSample; split <;> rfl)⟩
  | standstillExpiry => exact ⟨_, rfl, Part.atExpiry_keeps fun _ => Part.modCarousel_keeps _⟩
  | pressuriseExpiry h => exact ⟨_, rfl, Part.phaseExpiry_keeps fun _ st => Part.pressuriseEnd_keeps st⟩
  | settleExpiry h => exact ⟨_, rfl, Part.phaseExpiry_keeps fun _ st => Part.settleEnd_keeps st⟩
  | reliefExpiry h => exact ⟨_, rfl, Part.phaseExpiry_keeps fun _ st => Part.reliefEnd_keeps st⟩
  | ventExpiry h => exact ⟨_, rfl, Part.phaseExpiry_keeps fun _ st => Part.ventEnd_keeps st⟩
  | coilTestExpiry h => exact ⟨_, rfl, Part.phaseExpiry_keeps fun _ st => Part.testExpiry_keeps st⟩
  | coilTestReport h v r => exact ⟨_, rfl, Part.busArrival_keeps fun _ _ => Part.testReport_keeps v r⟩
  | flowmeterPulse h => exact ⟨_, rfl, Part.busArrival_keeps fun _ _ => Part.pulse_keeps⟩
  | timedOpenExpiry h => exact ⟨_, rfl, Part.openExpiry_keeps⟩
  | meterSilenceExpiry h => exact ⟨_, rfl, Part.silenceExpiry_keeps⟩
  | sealDrop h => exact ⟨_, rfl, Part.seal_keeps false fun _ => Part.sealDropAt_keeps⟩
  | sealInputRise h => exact ⟨_, rfl, Part.seal_keeps true .refl⟩
  | coilReport h v c => exact ⟨_, rfl, Part.busArrival_keeps fun _ _ => Part.coilReport_keeps v c⟩
  | moduleStatusReport m => exact ⟨_, rfl, moduleReport_keeps m⟩
  | moduleSilent m => exact ⟨_, rfl, moduleSilence_keeps m⟩
  | holdLimitExpiry => exact ⟨_, rfl, holdLimitEnd_keeps⟩
  | lineSilenceExpiry => exact ⟨_, rfl, lineSilenceEnd_keeps⟩
  | supplySilenceExpiry =>
    exact ⟨_, rfl, Part.atExpiry_keeps fun _ => Part.keeps_of_stage ((Part.recomputePressure_stage _).trans rfl)⟩
  | bowlDeterminationExpiry => exact ⟨_, rfl, Part.atExpiry_keeps fun _ => Part.keeps_of_stage rfl⟩
  | demandPeriodEnd => exact ⟨_, rfl, Part.keeps_of_stage demandEnd_stage⟩
  | calSilenceExpiry => exact ⟨_, rfl, calSilenceEnd_keeps⟩
  | calTimeoutExpiry => exact ⟨_, rfl, calTimeoutEnd_keeps⟩
  | calSettleExpiry => exact ⟨_, rfl, calSettleEnd_keeps⟩
  | saveCompletion fault => exact ⟨_, rfl, saveEnd_keeps fault⟩
  | byteArrival port b byteError => exact ⟨_, rfl, byteIn_keeps port b byteError⟩
  | frameTimerExpiry port => exact ⟨_, rfl, Part.atExpiry_keeps fun _ => Part.setPort_keeps _ _⟩
  | frameSent port => exact ⟨_, rfl, frameSentEnd_keeps port⟩
  | _ => cases arrival

theorem exec_keeps {s t : State} (c : Instr) (run : exec c s = .next t) : s.part.Keeps t.part := by
  cases request : (encodeRequest c).isSome with
  | true =>
    obtain ⟨port, frame, e⟩ := exec_of_encodeRequest request s
    rw [e] at run
    cases run
    dsimp only; split
    · exact .refl _
    · exact Part.arrive_keeps fun q => Part.serveCommand_keeps c
  | false =>
    obtain ⟨q, e, kept⟩ := exec_arrival_keeps (s := s) request
    rw [e] at run
    cases run
    exact kept

theorem step_keeps {s t : State} (run : step s = .next t) : s.part.Keeps t.part := by
  unfold step at run
  split at run
  · cases run
    exact Part.keeps_of_stage rfl
  · next c rest _ => exact exec_keeps (s := { s with pending := rest }) c run

/-- Settles O55: no command lets a relief or a liquid valve open where the interlocks forbid it. -/
theorem stepKeepsTheValveInterlocks : Obligations.StepKeepsTheValveInterlocks := fun _ _ run =>
  ⟨(step_keeps run).relief, (step_keeps run).liquid⟩

/-- Settles O56: every command that takes a container to a head or from it writes the track with it. -/
theorem stepKeepsTrackAndHeadsInAgreement : Obligations.StepKeepsTrackAndHeadsInAgreement := fun _ _ inv run =>
  (step_keeps run).track inv

end Sys2Proof.Machine
end

section
/-! What the operations on one head come to, and the statements that follow from that alone. -/

namespace Sys2Proof.Machine

open Sys2Proof

variable {h : HeadNo} {p : Part}

/-! ### One head -/

/-- Two changes of a head are one when they agree on the head as it is. -/
theorem Part.modHead_congr {f g : Head → Head} (same : f (p.head h) = g (p.head h)) : p.modHead h f = p.modHead h g := by
  unfold Part.modHead; rw [same]

theorem Part.modEntry_eq (f : Entry → Entry) : p.modEntry h f = p.modHead h fun x => { x with entry := f (p.entry h) } := by
  unfold Part.modEntry
  exact Part.modHead_congr rfl

theorem Part.modContext_eq {c : Context} (known : p.context h = some c) (f : Context → Context) :
    p.modContext h f = p.modHead h fun x => { x with context := some (f c) } := by
  have context : (p.head h).context = some c := known
  unfold Part.modContext
  exact Part.modHead_congr (by simp [context])

theorem Part.phaseExpiry_idle {st : HeadState} {handle : Part → Part}
    (idle : (p.entry h).state ≠ st ∨ (p.entry h).timer = .stopped) : p.phaseExpiry h st handle = p := by
  unfold Part.phaseExpiry Part.atExpiry
  split
  · next at_ =>
    rw [idle.resolve_left (not_not_intro at_)]
  · rfl

theorem Part.phaseExpiry_due {st : HeadState} {handle : Part → Part} {due : Nat} (at_ : (p.entry h).state = st)
    (timer : (p.entry h).timer = .running due) : p.phaseExpiry h st handle = handle (p.clockTo due) := by
  simp [Part.phaseExpiry, at_, Part.atExpiry, timer]

theorem Part.busArrival_taken {handle : Part → Part} (on : p.phase ≠ .inReset) (fitted : p.fitted h = true) :
    p.busArrival h handle = handle (p.moduleAnswers (moduleOf h)) := by
  have fits : (p.moduleAnswers (moduleOf h)).fitted h = true := by
    unfold Part.moduleAnswers; split <;> exact fitted
  simp [Part.busArrival, on, fits]

theorem Part.busArrival_unfitted {handle : Part → Part} (on : p.phase ≠ .inReset) (out : p.fitted h = false) :
    p.busArrival h handle = p.moduleAnswers (moduleOf h) := by
  have fits : (p.moduleAnswers (moduleOf h)).fitted h = false := by
    unfold Part.moduleAnswers; split <;> exact out
  simp [Part.busArrival, on, fits]

/-! ### The fill start -/

/-- A fill that is refused (R26). -/
theorem Part.refuseFill_eq {c : Context} (known : p.context h = some c) (f : ContainerFlag) :
    p.refuseFill h f = p.modHead h fun x => { x with
      entry := { p.entry h with state := .waitRelief, gas := false }
      context := some { c with flags := addFlag c.flags f } } := by
  have context : (p.head h).context = some c := known
  unfold Part.refuseFill Part.addContextFlag Part.modContext Part.modEntry
  rw [Part.modHead_modHead]
  exact Part.modHead_congr (by simp [context, Part.entry, Context.flag])

/-- The judgement of the runaway count at the end of a revolution (R57). -/
theorem Part.judgeRunaway_eq : p.judgeRunaway h = p.modHead h fun x => { x with
    diag := if x.runaway.count ≤ p.machine.runawayLimit then x.diag.fall .meterRunaway else x.diag
    runaway := { x.runaway with count := 0, reported := false } } := by
  unfold Part.judgeRunaway Part.clearKind Part.modDiag
  dsimp only; split
  · next low =>
    rw [Part.modHead_modHead]
    exact Part.modHead_congr (by simp [if_pos low])
  · next high => exact Part.modHead_congr (by simp [if_neg high])

/-- A fill that starts (R26, R54, R55, R57, R58). -/
theorem Part.startFill_eq {c : Context} (known : p.context h = some c) : p.startFill h c = p.modHead h fun x => { x with
    entry := { p.entry h with
      state := if decide (c.method = .timed) || decide (0 < c.f) then .fillFast else .fillFine
      fast := decide (c.method = .timed) || decide (0 < c.f), fine := true }
    context := some { c with
      filling := true
      fillStart := some p.now
      openTimer := if c.method = .timed then .running (p.now + c.openTime) else .stopped
      silenceTimer := if c.method = .timed then .stopped else .running (p.now + p.machine.meterSilence) }
    diag := if x.runaway.count ≤ p.machine.runawayLimit then x.diag.fall .meterRunaway else x.diag
    runaway := ⟨0, false, true⟩ } := by
  have context : (p.head h).context = some c := known
  unfold Part.startFill
  dsimp only
  rw [Part.judgeRunaway_eq, Part.modHead_modHead, Part.modHead_modHead]
  refine Part.modHead_congr ?_
  simp only [Function.comp, context, Option.map_some, Part.modHead_machine, decide_eq_true_eq, Part.startTimer]
  rfl

theorem Part.fillDecision_of_hold {c : Context} (known : p.context h = some c) (hold : p.control.prod = .hold) :
    p.fillDecision h = p.refuseFill h .noFillInHold := by
  simp [Part.fillDecision, known, hold]

theorem Part.fillDecision_of_inhibited {c : Context} (known : p.context h = some c) (other : p.control.prod ≠ .hold)
    (inhibited : p.inhibited = true) : p.fillDecision h = p.refuseFill h .fillInhibited := by
  simp [Part.fillDecision, known, other, inhibited]

theorem Part.fillDecision_of_free {c : Context} (known : p.context h = some c) (other : p.control.prod ≠ .hold)
    (free : p.inhibited = false) : p.fillDecision h = p.startFill h c := by
  simp [Part.fillDecision, known, other, free]

/-! ### The expiries of the relief and of the pressurise time -/

theorem exec_pressuriseExpiry (s : State) : exec (.pressuriseExpiry h) s =
    .next { s with part := s.part.phaseExpiry h .pressurize (Part.pressuriseEnd h) } := rfl
theorem exec_reliefExpiry (s : State) : exec (.reliefExpiry h) s =
    .next { s with part := s.part.phaseExpiry h .relief (Part.reliefEnd h) } := rfl

theorem Part.reliefEnd_eq : p.reliefEnd h = p.modHead h fun x => { x with
    entry := { p.entry h with relief := false, vented := true, timer := .stopped, state := .waitDischarge } } :=
  Part.modEntry_eq _

/-- Settles O28: the expiry is one change of the entry. -/
theorem reliefExpiryVentsTheHead : Obligations.ReliefExpiryVentsTheHead := by
  intro s h due
  dsimp only
  rw [exec_reliefExpiry]
  refine ⟨fun st timer => ?_, fun idle => ?_⟩
  · rw [Part.phaseExpiry_due st timer, Part.reliefEnd_eq]; rfl
  · rw [Part.phaseExpiry_idle idle]

/-- A head at its pressurise expiry with the fill start due takes the decision in WAIT_FILL. -/
theorem Part.pressuriseEnd_eq : p.pressuriseEnd h =
    let q := p.modHead h fun x => { x with entry := { p.entry h with state := .waitFill, timer := .stopped } }
    if (p.entry h).fillStartNoted && !(p.entry h).fillEndNoted then q.fillDecision h else q := by
  unfold Part.pressuriseEnd
  rw [Part.modEntry_eq]

/-- Settles O26: the head waits, and the fill-start decision is taken on the head that waits. -/
theorem pressuriseExpiryStartsOrWaits : Obligations.PressuriseExpiryStartsOrWaits := by
  intro s h due c
  dsimp only
  rw [exec_pressuriseExpiry]
  refine ⟨fun idle => by rw [Part.phaseExpiry_idle idle], fun st timer known => ?_⟩
  rw [Part.phaseExpiry_due st timer, Part.pressuriseEnd_eq]
  dsimp only
  generalize start : (s.part.clockTo due).modHead h (fun x => { x with
    entry := { (s.part.clockTo due).entry h with state := .waitFill, timer := .stopped } }) = q
  have head : q.head h = { s.part.head h with entry := { s.part.entry h with state := .waitFill, timer := .stopped } } := by
    rw [← start, Part.head_modHead, if_pos rfl]; rfl
  have known' : q.context h = some c := (congrArg Head.context head).trans known
  have entry : q.entry h = { s.part.entry h with state := .waitFill, timer := .stopped } := congrArg Head.entry head
  have at_ : (s.part.clockTo due).entry h = s.part.entry h := rfl
  rw [at_]
  refine ⟨fun waits => ?_, fun noted open_ => ?_⟩
  · rw [if_neg, ← start]
    · rfl
    · rcases waits with unnoted | ended
      · simp [unnoted]
      · simp [ended]
  · rw [if_pos (by simp [noted, open_])]
    have control : q.control = s.part.control := by rw [← start]; rfl
    have inhibits : q.inhibited = s.part.inhibited := by rw [← start]; rfl
    have folded : ∀ f : Head → Head, q.modHead h f = (s.part.clockTo due).modHead h fun x =>
        f { x with entry := { s.part.entry h with state := .waitFill, timer := .stopped } } := fun f => by
      rw [← start, Part.modHead_modHead]; rfl
    refine ⟨fun hold => ?_, fun other inhibited => ?_, fun other free => ?_⟩
    · rw [Part.fillDecision_of_hold known' (by rw [control]; exact hold), Part.refuseFill_eq known', folded, entry]; rfl
    · rw [Part.fillDecision_of_inhibited known' (by rw [control]; exact other) (by rw [inhibits]; exact inhibited),
        Part.refuseFill_eq known', folded, entry]; rfl
    · rw [Part.fillDecision_of_free known' (by rw [control]; exact other) (by rw [inhibits]; exact free),
        Part.startFill_eq known', folded, entry, ← start]; rfl

/-! ### The crossings of a container on its way to the fill -/

theorem Part.goTo_eq (st : HeadState) : p.goTo h st = p.modHead h fun x => { x with
    entry := { p.entry h with state := st } } := Part.modEntry_eq _

/-- A container that goes on to its discharge with a flag. -/
theorem Part.flag_goTo_eq {c : Context} (known : p.context h = some c) (f : ContainerFlag) (st : HeadState) :
    (p.addContextFlag h f).goTo h st = p.modHead h fun x => { x with
      entry := { p.entry h with state := st }, context := some { c with flags := addFlag c.flags f } } := by
  rw [Part.goTo_eq, Part.addContextFlag, Part.modContext_eq known, Part.modHead_modHead]
  refine Part.modHead_congr ?_
  simp [Part.entry, Context.flag]

theorem Part.pressuriseCrossing_other (other : (p.entry h).state ≠ .sealing) : p.pressuriseCrossing h = p := by
  unfold Part.pressuriseCrossing; split
  · next st _ => exact absurd st other
  · rfl

/-- Settles O39: each check answers with one change of the head. -/
theorem pressuriseAndFillStartCrossings : Obligations.PressuriseAndFillStartCrossings := by
  intro p h c
  dsimp only
  refine ⟨Part.pressuriseCrossing_other, fun other => ?_, fun st => ?_, fun known => ⟨fun st => ?_, fun st => ?_⟩⟩
  · show p.fillStartCrossing h = p
    unfold Part.fillStartCrossing
    split
    · next at_ => simp [at_] at other
    · next at_ => simp [at_] at other
    · rfl
  · have noted : p.crossing h .fill = p.modEntry h fun e => { e with fillStartNoted := true } := by
      show p.fillStartCrossing h = _
      simp only [Part.fillStartCrossing, st]
    rw [noted, Part.modEntry_eq]
  · have checks : p.crossing h .press =
        if p.sealRead h = false then (p.addContextFlag h .notSealed).goTo h .waitDischarge
        else if c.method = .none then p.goTo h .waitDischarge
        else if p.control.prod = .safe then (p.addContextFlag h .safeAbort).goTo h .waitDischarge
        else p.modEntry h fun e =>
          { e with gas := true, pressurised := true, state := .pressurize, timer := p.startTimer c.pressTime } := by
      show p.pressuriseCrossing h = _
      simp only [Part.pressuriseCrossing, st, known]
    have read : p.sealRead h = (p.pins.seals[h] && !(p.watched (moduleOf h) && p.modules[moduleOf h].silent)) := rfl
    have same : (p.head h).context = some c := known
    rw [checks, ← read]
    refine ⟨fun unsealed => ?_, fun sealed none_ => ?_, fun sealed dosed safe => ?_, fun sealed dosed other => ?_⟩
    · rw [if_pos unsealed, Part.flag_goTo_eq known]
    · rw [if_neg (by simp [sealed]), if_pos none_, Part.goTo_eq]
      exact Part.modHead_congr (by simp [same])
    · rw [if_neg (by simp [sealed]), if_neg dosed, if_pos safe, Part.flag_goTo_eq known]
    · rw [if_neg (by simp [sealed]), if_neg dosed, if_neg other, Part.modEntry_eq]
      exact Part.modHead_congr (by simp [same, Part.startTimer])
  · have decision : p.crossing h .fill = p.fillDecision h := by
      show p.fillStartCrossing h = _
      simp only [Part.fillStartCrossing, st]
    rw [decision]
    refine ⟨fun hold => ?_, fun other inhibited => ?_, fun other free => ?_⟩
    · rw [Part.fillDecision_of_hold known hold, Part.refuseFill_eq known]
    · rw [Part.fillDecision_of_inhibited known other inhibited, Part.refuseFill_eq known]
    · rw [Part.fillDecision_of_free known other free, Part.startFill_eq known]

end Sys2Proof.Machine
end

section
/-! Pulses in a dose, and the ends of a dose. -/

namespace Sys2Proof.Machine

open Sys2Proof

variable {h : HeadNo} {p : Part}

/-! ### The answer of a module -/

section answers

variable (m : ModuleNo)

theorem Part.moduleAnswers_eq : ∃ ms, p.moduleAnswers m = { p with modules := ms } := by
  unfold Part.moduleAnswers; split
  · exact ⟨_, rfl⟩
  · exact ⟨p.modules, rfl⟩

@[simp] theorem Part.head_moduleAnswers (g : HeadNo) : (p.moduleAnswers m).head g = p.head g := by
  obtain ⟨ms, e⟩ := Part.moduleAnswers_eq (p := p) m; rw [e]; rfl
@[simp] theorem Part.entry_moduleAnswers (g : HeadNo) : (p.moduleAnswers m).entry g = p.entry g :=
  congrArg Head.entry (Part.head_moduleAnswers m g)
@[simp] theorem Part.context_moduleAnswers (g : HeadNo) : (p.moduleAnswers m).context g = p.context g :=
  congrArg Head.context (Part.head_moduleAnswers m g)
@[simp] theorem Part.record_moduleAnswers (g : HeadNo) : (p.moduleAnswers m).record g = p.record g :=
  congrArg Head.record (Part.head_moduleAnswers m g)
@[simp] theorem Part.diag_moduleAnswers (g : HeadNo) : (p.moduleAnswers m).diag g = p.diag g :=
  congrArg Head.diag (Part.head_moduleAnswers m g)
@[simp] theorem Part.moduleAnswers_now : (p.moduleAnswers m).now = p.now := by
  obtain ⟨ms, e⟩ := Part.moduleAnswers_eq (p := p) m; rw [e]
@[simp] theorem Part.moduleAnswers_machine : (p.moduleAnswers m).machine = p.machine := by
  obtain ⟨ms, e⟩ := Part.moduleAnswers_eq (p := p) m; rw [e]
@[simp] theorem Part.moduleAnswers_control : (p.moduleAnswers m).control = p.control := by
  obtain ⟨ms, e⟩ := Part.moduleAnswers_eq (p := p) m; rw [e]
@[simp] theorem Part.moduleAnswers_slot : (p.moduleAnswers m).slot = p.slot := by
  obtain ⟨ms, e⟩ := Part.moduleAnswers_eq (p := p) m; rw [e]
@[simp] theorem Part.moduleAnswers_phase : (p.moduleAnswers m).phase = p.phase := by
  obtain ⟨ms, e⟩ := Part.moduleAnswers_eq (p := p) m; rw [e]
@[simp] theorem Part.moduleAnswers_recipes : (p.moduleAnswers m).recipes = p.recipes := by
  obtain ⟨ms, e⟩ := Part.moduleAnswers_eq (p := p) m; rw [e]
@[simp] theorem Part.calOn_moduleAnswers (g : HeadNo) : (p.moduleAnswers m).calOn g = p.calOn g := by
  simp only [Part.calOn, Part.moduleAnswers_slot]

end answers

/-! ### A pulse into the fill count -/

/-- The dose of a head runs to its completion (R29). -/
theorem Part.toSettle_eq {c : Context} (known : p.context h = some c) (status : DoseStatus) :
    p.toSettle h status = p.modHead h fun x => { x with
      entry := { p.entry h with
        gas := false, fast := false, fine := false, state := .settle, timer := .running (p.now + c.settleTime) }
      context := some { c with
        filling := false, openTimer := .stopped, silenceTimer := .stopped, status := status, afterState := .counting } } := by
  have context : (p.head h).context = some c := known
  unfold Part.toSettle
  refine Part.modHead_congr ?_
  simp [context, known, Part.entry, Part.startTimer, Entry.closeFill, Context.stopFilling]

theorem Part.completeDose_of_fill (fills : (p.entry h).state = .fillFast ∨ (p.entry h).state = .fillFine) :
    p.completeDose h = p.toSettle h .complete := by
  simp [Part.completeDose, HeadState.isFill_iff.mpr fills]

theorem Part.fastClose_of_fast (fast : (p.entry h).state = .fillFast) : p.fastClose h = p.modHead h fun x => { x with
    entry := { p.entry h with fast := false, state := .fillFine } } := by
  rw [Part.fastClose, if_pos fast, Part.modEntry_eq]

/-- A pulse of a FLOW dose: counted, and the first one in time reports the meter alive; then the fine or the close count
may be reached (R54, R58). -/
theorem Part.fillPulse_eq {c : Context} (known : p.context h = some c) :
    let n := countUp c.fill
    let first := decide (c.fill = 0) && p.aliveInTime c
    let q := p.modHead h fun x => { x with
      context := some { c with
        fill := n, silenceTimer := .running (p.now + p.machine.meterSilence), alive := c.alive || first
        fastClose := if n = c.f then some p.now else c.fastClose }
      diag := if first then x.diag.fall .meterSilent else x.diag }
    p.fillPulse h c = if n = c.c then q.completeDose h else if n = c.f then q.fastClose h else q := by
  have context : (p.head h).context = some c := known
  have fine : (decide (0 < c.f) && decide (countUp c.fill = c.f)) = decide (countUp c.fill = c.f) := by
    have counts : 0 < countUp c.fill := by unfold countUp countMax; omega
    by_cases reached : countUp c.fill = c.f
    · simp [← reached, counts]
    · simp [reached]
  unfold Part.fillPulse
  dsimp only
  rw [fine, Part.modContext_eq known]
  have heard : (if c.fill = 0 ∧ p.aliveInTime c = true then
      Part.reportAlive h (p.modHead h fun x => { x with context := some { c with
        fill := countUp c.fill, silenceTimer := p.startTimer p.machine.meterSilence
        fastClose := if decide (countUp c.fill = c.f) = true then some p.now else c.fastClose } })
      else p.modHead h fun x => { x with context := some { c with
        fill := countUp c.fill, silenceTimer := p.startTimer p.machine.meterSilence
        fastClose := if decide (countUp c.fill = c.f) = true then some p.now else c.fastClose } }) =
      p.modHead h fun x => { x with
        context := some { c with
          fill := countUp c.fill, silenceTimer := .running (p.now + p.machine.meterSilence)
          alive := c.alive || (decide (c.fill = 0) && p.aliveInTime c)
          fastClose := if countUp c.fill = c.f then some p.now else c.fastClose }
        diag := if decide (c.fill = 0) && p.aliveInTime c then x.diag.fall .meterSilent else x.diag } := by
    split
    · next alive =>
      rw [Part.reportAlive, Part.clearKind, Part.modDiag, Part.modContext, Part.modHead_modHead, Part.modHead_modHead]
      refine Part.modHead_congr ?_
      simp [alive, Part.startTimer]
    · next late =>
      refine Part.modHead_congr ?_
      have quiet : (decide (c.fill = 0) && p.aliveInTime c) = false := by simpa using late
      simp [quiet, Part.startTimer]
  rw [heard]
  simp only [decide_eq_true_eq]

theorem exec_flowmeterPulse (s : State) : exec (.flowmeterPulse h) s =
    .next { s with part := s.part.busArrival h (Part.pulse h) } := rfl

/-- A pulse on a head without a CAL DOSE, out of CONFIG and DRAIN, enters the demand and the dose (R53). -/
theorem Part.pulse_of_dose (prod : p.control.prod ∉ [Prod.config, .drain]) (free : p.calOn h = none) :
    p.pulse h = (p.demandPulse h).dosePulse h := by
  have same : (p.demandPulse h).calOn h = none := free
  unfold Part.pulse
  split
  · next at_ => simp [at_] at prod
  · next at_ => simp [at_] at prod
  all_goals simp only [same]

/-- Settles O31: a pulse counts, and what it reaches acts on the counted head. -/
theorem pulsesEndTheFlowDose : Obligations.PulsesEndTheFlowDose := by
  intro s h c
  dsimp only
  intro on fitted prod free known filling flow
  generalize start : ((s.part.moduleAnswers (moduleOf h)).modHead h fun x =>
    { x with demandCount := x.demandCount + 1 }) = q
  have head : q.head h = { s.part.head h with demandCount := (s.part.head h).demandCount + 1 } := by
    rw [← start, Part.head_modHead, if_pos rfl, Part.head_moduleAnswers]
  have known' : q.context h = some c := (congrArg Head.context head).trans known
  have entry : q.entry h = s.part.entry h := by have same := congrArg Head.entry head; exact same
  have now : q.now = s.part.now := by rw [← start, Part.modHead_now, Part.moduleAnswers_now]
  have silence : q.machine.meterSilence = s.part.machine.meterSilence := by
    rw [← start, Part.modHead_machine, Part.moduleAnswers_machine]
  have counted : exec (.flowmeterPulse h) s = .next { s with part := q.fillPulse h c } := by
    rw [exec_flowmeterPulse, Part.busArrival_taken on fitted, Part.pulse_of_dose (by simpa using prod) (by simpa using free),
      Part.demandPulse, start]
    simp only [Part.dosePulse, known', filling, flow, true_or, if_true]
  have pulse := Part.fillPulse_eq known'
  have alive : q.aliveInTime c = c.fillStart.any fun t => decide (s.part.now - t ≤ s.part.machine.meterSilence) := by
    simp only [Part.aliveInTime, now, silence]
  have most : countUp c.fill = min 16777215 (c.fill + 1) := rfl
  dsimp only at pulse
  rw [alive, now, silence, most] at pulse
  rw [counted, pulse]
  generalize min 16777215 (c.fill + 1) = n
  generalize (decide (c.fill = 0) && c.fillStart.any fun t => decide (s.part.now - t ≤ s.part.machine.meterSilence)) = first
  generalize count : (q.modHead h fun x => { x with
    context := some { c with
      fill := n, silenceTimer := .running (s.part.now + s.part.machine.meterSilence), alive := c.alive || first
      fastClose := if n = c.f then some s.part.now else c.fastClose }
    diag := if first then x.diag.fall .meterSilent else x.diag }) = r
  have head' : r.head h = { q.head h with
      context := some { c with
        fill := n, silenceTimer := .running (s.part.now + s.part.machine.meterSilence), alive := c.alive || first
        fastClose := if n = c.f then some s.part.now else c.fastClose }
      diag := if first then (q.head h).diag.fall .meterSilent else (q.head h).diag } := by
    rw [← count, Part.head_modHead, if_pos rfl]
  have entry' : r.entry h = s.part.entry h := by have same := congrArg Head.entry head'; exact same.trans entry
  have context' := congrArg Head.context head'
  have now' : r.now = s.part.now := by rw [← count, Part.modHead_now, now]
  refine ⟨fun more notFine => ?_, fun more fine fast => ?_, fun close fills => ?_⟩
  · rw [if_neg more, if_neg notFine, ← count]
    refine congrArg (fun t : Part => Host.Outcome.next { s with part := t }) (Part.modHead_congr ?_)
    simp [notFine]
  · rw [if_neg more, if_pos fine, Part.fastClose_of_fast (by rw [entry']; exact fast), entry', ← count, Part.modHead_modHead]
    refine congrArg (fun t : Part => Host.Outcome.next { s with part := t }) (Part.modHead_congr ?_)
    simp [fine]
  · rw [if_pos close, Part.completeDose_of_fill (by rw [entry']; exact fills), Part.toSettle_eq context', entry', now',
      ← count, Part.modHead_modHead]
    rfl

end Sys2Proof.Machine
end

section
/-! The fault flags of a head under rises and falls, and what a detection leaves of its record and its flags. -/

namespace Sys2Proof.Machine

open Sys2Proof

/-! ### Fault flags -/

theorem FaultKind.idx_inj {j k : FaultKind} : (j.idx : Nat) = k.idx ↔ j = k := by
  cases j <;> cases k <;> decide

theorem getLsbD_withBit {w : Nat} (s : BitVec w) (i j : Nat) :
    (withBit s i).getLsbD j = (s.getLsbD j || (decide (i < w) && decide (i = j))) := by
  simp [withBit, BitVec.getLsbD_twoPow]

theorem getLsbD_withoutBit {w : Nat} (s : BitVec w) (i j : Nat) :
    (withoutBit s i).getLsbD j = (s.getLsbD j && decide (i ≠ j)) := by
  by_cases inside : j < w
  · by_cases same : i = j
    · subst same; simp [withoutBit, inside]
    · simp [withoutBit, inside, same, Ne.symm same]
  · simp [BitVec.getLsbD_of_ge _ _ (Nat.le_of_not_lt inside)]

section flags

variable (d : Diag) (j k : FaultKind)

@[simp] theorem Diag.isLive_raise : (d.raise k).isLive j = (d.isLive j || decide (j = k)) := by
  have inside : (k.idx : Nat) < 10 := k.idx.isLt
  simp only [Diag.isLive, Diag.raise, getLsbD_withBit, inside, decide_true, Bool.true_and, FaultKind.idx_inj,
    @eq_comm _ k j]

@[simp] theorem Diag.isHeld_raise : (d.raise k).isHeld j = (d.isHeld j || decide (j = k)) := by
  have inside : (k.idx : Nat) < 10 := k.idx.isLt
  simp only [Diag.isHeld, Diag.raise, getLsbD_withBit, inside, decide_true, Bool.true_and, FaultKind.idx_inj,
    @eq_comm _ k j]

@[simp] theorem Diag.isLive_fall : (d.fall k).isLive j = (d.isLive j && decide (j ≠ k)) := by
  simp only [Diag.isLive, Diag.fall, getLsbD_withoutBit, ne_eq, FaultKind.idx_inj, @eq_comm _ k j]

@[simp] theorem Diag.isHeld_fall : (d.fall k).isHeld j = d.isHeld j := rfl

@[simp] theorem Diag.isLive_emptyWindow : d.emptyWindow.isLive j = (d.isLive j && decide (j ≠ .rateDeviation)) :=
  Diag.isLive_fall d j .rateDeviation

@[simp] theorem Diag.isHeld_emptyWindow : d.emptyWindow.isHeld j = d.isHeld j := rfl

/-- What a change of the rung makes of the diagnostic entry: a move to TIMED empties the deviation window (R123). -/
def Diag.moved (before after : HeadRecord) (d : Diag) : Diag :=
  if before.method ≠ .timed ∧ after.method = .timed then d.emptyWindow else d

variable (before after : HeadRecord)

theorem Diag.isLive_moved : (d.moved before after).isLive j =
    (d.isLive j && !(decide (j = .rateDeviation) && (before.method != .timed && after.method == .timed))) := by
  unfold Diag.moved; split
  · next moves => simp [bne_iff_ne.mpr moves.1, moves.2]
  · next stays =>
    have none_ : (before.method != .timed && after.method == .timed) = false := by simpa using stays
    simp [none_]

@[simp] theorem Diag.isHeld_moved : (d.moved before after).isHeld j = d.isHeld j := by unfold Diag.moved; split <;> rfl
@[simp] theorem Diag.mark_moved : (d.moved before after).mark = d.mark := by unfold Diag.moved; split <;> rfl
@[simp] theorem Diag.openDetail_moved : (d.moved before after).openDetail = d.openDetail := by
  unfold Diag.moved; split <;> rfl
@[simp] theorem Diag.shortDetail_moved : (d.moved before after).shortDetail = d.shortDetail := by
  unfold Diag.moved; split <;> rfl

end flags

/-! ### Decisions and detections -/

section ladder

variable {h : HeadNo} {p : Part}

theorem Part.setMethod_head (m : Method) (c : Option FaultKind) : (p.setMethod h m c).head h = { p.head h with
    record := { p.record h with method := m, cause := c, promo := 0 }
    diag := (p.diag h).moved (p.record h) { p.record h with method := m, cause := c, promo := 0 } } := by
  have view : ∀ f, ((p.modHead h f).recomputeAdvisory).head h = f (p.head h) := fun f =>
    (Part.head_modHead h h f p).trans (if_pos rfl)
  unfold Part.setMethod Diag.moved
  rw [view]
  have moves : (m = .timed && (p.record h).method != .timed) = true ↔
      (p.record h).method ≠ .timed ∧ m = .timed := by simp [and_comm]
  by_cases toTimed : (p.record h).method ≠ .timed ∧ m = .timed
  · simp only [if_pos (moves.mpr toTimed), if_pos toTimed]; rfl
  · simp only [if_neg (mt moves.mp toTimed), if_neg toTimed]; rfl

/-- The record of a head behind a decision (R120). -/
def Part.decidedRecord (p : Part) (h : HeadNo) (k : FaultKind) : HeadRecord :=
  (p.record h).decided (actionFor p.machine k) (p.timedOk h) k

theorem Diag.moved_self (d : Diag) (x : HeadRecord) : d.moved x x = d := by
  simp [Diag.moved]

/-- A decision moves the record along the ladder, and the window with a move to TIMED; the rest of the head stays (R81 to
R83, R120, R123). -/
theorem Part.decideKind_head (k : FaultKind) : (p.decideKind h k).head h = { p.head h with
    record := p.decidedRecord h k, diag := (p.diag h).moved (p.record h) (p.decidedRecord h k) } := by
  have stays : p.head h = { p.head h with record := p.record h, diag := (p.diag h).moved (p.record h) (p.record h) } := by
    rw [Diag.moved_self]; rfl
  have defeats : (k = .coilOpen ∨ k = .coilShort ∨ k = .windowOverrun) ↔ k.defeatsTimed = true := by
    cases k <;> decide
  unfold Part.decideKind Part.decidedRecord HeadRecord.decided
  cases action : actionFor p.machine k with
  | report => exact stays
  | out =>
    unfold Part.putOut
    cases method : (p.record h).method with
    | flow => exact Part.setMethod_head _ _
    | timed => exact Part.setMethod_head _ _
    | out => exact stays
  | degrade =>
    unfold Part.degrade
    cases method : (p.record h).method with
    | flow => exact Part.setMethod_head _ _
    | timed =>
      dsimp only
      simp only [defeats]
      split
      · exact Part.setMethod_head _ _
      · exact stays
    | out => exact stays

/-- A detection leaves a head with its entry and its context, its record on the rung of R120 and the kind raised; a kind
already live is left as it is (R114). -/
theorem Part.detect_head (k : FaultKind) : (p.detect h k).head h = { p.head h with
    record := p.rungAfter h k
    diag := if (p.diag h).isLive k then p.diag h else ((p.diag h).raise k).moved (p.record h) (p.rungAfter h k) } := by
  unfold Part.detect Part.rungAfter
  by_cases live : (p.diag h).isLive k = true
  · simp [live]; rfl
  · have raised : ((p.modDiag h (Diag.raise k)).head h) = { p.head h with diag := (p.diag h).raise k } := by
      rw [Part.modDiag, Part.head_modHead, if_pos rfl]; rfl
    have record : (p.modDiag h (Diag.raise k)).record h = p.record h := by simp
    simp only [live, if_false, Bool.false_eq_true, false_or, record]
    by_cases warm : (p.record h).warm = 0
    · rw [if_pos warm, Part.decideKind_head, raised]
      simp only [warm, lt_irrefl, if_false]
      have decided : (p.modDiag h (Diag.raise k)).decidedRecord h k = p.decidedRecord h k := by
        simp only [Part.decidedRecord, Part.timedOk, record]; rfl
      rw [decided, record, show (p.modDiag h (Diag.raise k)).diag h = (p.diag h).raise k by simp]
      rfl
    · rw [if_neg warm, raised]
      simp only [Nat.pos_of_ne_zero warm, if_true, Diag.moved_self]
      rfl

theorem Part.record_detect (k : FaultKind) : (p.detect h k).record h = p.rungAfter h k :=
  congrArg Head.record (Part.detect_head k)

theorem Part.diag_detect (k : FaultKind) : (p.detect h k).diag h =
    if (p.diag h).isLive k then p.diag h else ((p.diag h).raise k).moved (p.record h) (p.rungAfter h k) :=
  congrArg Head.diag (Part.detect_head k)

theorem Part.detect_isLive {k : FaultKind} (other : k ≠ .rateDeviation) : ((p.detect h k).diag h).isLive k = true := by
  rw [Part.diag_detect]; split
  · next live => exact live
  · simp [Diag.isLive_moved, other]

theorem Part.detect_isHeld {k : FaultKind} (rises : (p.diag h).isLive k = false) :
    ((p.detect h k).diag h).isHeld k = true := by
  rw [Part.diag_detect, if_neg (by simp [rises])]; simp

@[simp] theorem Part.detect_now (k : FaultKind) : (p.detect h k).now = p.now := by
  have view := congrArg Part.now (Part.offHeads_of_offHead (Part.detect_offHead h p k)); exact view

theorem Part.context_detect_known {c : Context} (known : p.context h = some c) (k : FaultKind) :
    (p.detect h k).context h = some c := (Part.context_detect h h p k).trans known

end ladder

end Sys2Proof.Machine
end

section
/-! The ends of a dose by time. -/

namespace Sys2Proof.Machine

open Sys2Proof

variable {h : HeadNo} {p : Part}

theorem exec_timedOpenExpiry (s : State) : exec (.timedOpenExpiry h) s = .next { s with part := s.part.openExpiry h } := rfl
theorem exec_meterSilenceExpiry (s : State) :
    exec (.meterSilenceExpiry h) s = .next { s with part := s.part.silenceExpiry h } := rfl

theorem Part.completeDose_of_not_fill (still : ¬ ((p.entry h).state = .fillFast ∨ (p.entry h).state = .fillFine)) :
    p.completeDose h = p := by
  rw [Part.completeDose, if_neg (mt HeadState.isFill_iff.mp still)]

/-- The expiry of the timed open timer stops it, and completes a dose that still fills (R55). -/
theorem Part.openExpiry_due {c : Context} {due : Nat} (known : p.context h = some c) (timer : c.openTimer = .running due) :
    p.openExpiry h = ((p.clockTo due).modHead h fun x => { x with
      context := some { c with openTimer := .stopped } }).completeDose h := by
  simp only [Part.openExpiry, known, timer, Part.atExpiry]
  rw [Part.modContext_eq (p := p.clockTo due) known]

/-- The expiry of the meter silence timer falls the dose back to time (R58, R59). -/
theorem Part.silenceExpiry_due {c : Context} {due : Nat} (known : p.context h = some c) (filling : c.filling = true)
    (timer : c.silenceTimer = .running due) : p.silenceExpiry h = (p.clockTo due).meterSilence h c := by
  simp only [Part.silenceExpiry, known, filling, timer, Part.atExpiry, if_true]

/-- What a meter silence leaves of a head whose dose fills (R58, R59). -/
theorem Part.meterSilence_head {c : Context} (known : p.context h = some c)
    (fills : (p.entry h).state = .fillFast ∨ (p.entry h).state = .fillFine) :
    (p.meterSilence h c).head h = { (p.detect h .meterSilent).head h with
      entry := if p.now < c.closeTime then p.entry h else { p.entry h with
        gas := false, fast := false, fine := false, state := .settle, timer := .running (p.now + c.settleTime) }
      context := some (if p.now < c.closeTime then { c.fallBack with openTimer := .running c.closeTime }
        else { c.fallBack with
          filling := false, openTimer := .stopped, silenceTimer := .stopped, status := .complete
          afterState := .counting }) } := by
  have known' := Part.context_detect_known known .meterSilent
  have entry : (p.detect h .meterSilent).entry h = p.entry h := Part.entry_detect h h p .meterSilent
  have now := Part.detect_now (h := h) (p := p) .meterSilent
  unfold Part.meterSilence
  dsimp only
  generalize p.detect h .meterSilent = q at *
  have entry' : (q.head h).entry = p.entry h := entry
  rw [Part.modContext_eq known']
  by_cases early : p.now < c.closeTime
  · rw [if_pos early, if_pos early, if_pos early, Part.modContext, Part.modHead_modHead, Part.head_modHead, if_pos rfl,
      ← entry']
    rfl
  · have context' : (q.modHead h fun x => { x with context := some c.fallBack }).context h = some c.fallBack := by
      rw [Part.context, Part.head_modHead, if_pos rfl]
    have entry'' : (q.modHead h fun x => { x with context := some c.fallBack }).entry h = p.entry h := by
      rw [Part.entry, Part.head_modHead, if_pos rfl]; exact entry'
    rw [if_neg early, if_neg early, if_neg early,
      Part.completeDose_of_fill (by rw [entry'']; exact fills), Part.toSettle_eq context', entry'', Part.modHead_modHead,
      Part.head_modHead, if_pos rfl, Part.modHead_now, now]
    rfl

theorem Part.meterSilence_offHead (c : Context) : (p.meterSilence h c).offHead h = p.offHead h := by
  have complete : ∀ q : Part, (q.completeDose h).offHead h = q.offHead h := fun q => by
    unfold Part.completeDose; split <;> simp
  unfold Part.meterSilence; dsimp only; split
  · simp
  · rw [complete]; simp

/-- Settles O33: both timers end in the completion of the dose. -/
theorem dosesEndByTime : Obligations.DosesEndByTime := by
  intro s h c due
  dsimp only
  rw [exec_timedOpenExpiry, exec_meterSilenceExpiry]
  refine ⟨fun none_ => ?_, fun known => ⟨fun stopped => ?_, fun timer fills => ?_, fun timer still => ?_, fun idle => ?_,
    fun filling timer fills => ?_⟩⟩
  · simp only [Part.openExpiry, Part.silenceExpiry, none_, and_self]
  · simp only [Part.openExpiry, known, stopped, Part.atExpiry]
  · have entry : ((s.part.clockTo due).modHead h fun x => { x with
        context := some { c with openTimer := .stopped } }).entry h = s.part.entry h := by
      rw [Part.entry, Part.head_modHead, if_pos rfl]; rfl
    have context : ((s.part.clockTo due).modHead h fun x => { x with
        context := some { c with openTimer := .stopped } }).context h = some { c with openTimer := .stopped } := by
      rw [Part.context, Part.head_modHead, if_pos rfl]
    rw [Part.openExpiry_due known timer, Part.completeDose_of_fill (by rw [entry]; exact fills), Part.toSettle_eq context,
      entry, Part.modHead_modHead]
    rfl
  · have entry : ((s.part.clockTo due).modHead h fun x => { x with
        context := some { c with openTimer := .stopped } }).entry h = s.part.entry h := by
      rw [Part.entry, Part.head_modHead, if_pos rfl]; rfl
    rw [Part.openExpiry_due known timer, Part.completeDose_of_not_fill (by rw [entry]; exact still)]
    rfl
  · unfold Part.silenceExpiry
    rw [known]
    rcases idle with out | stopped
    · simp [out]
    · simp [stopped, Part.atExpiry]
  · rw [Part.silenceExpiry_due known filling timer]
    have head := Part.meterSilence_head (p := s.part.clockTo due) known fills
    have off := Part.meterSilence_offHead (p := s.part.clockTo due) (h := h) c
    have now : ((s.part.clockTo due).meterSilence h c).now = max s.part.now due := by
      have view := congrArg Part.now (Part.offHeads_of_offHead off); exact view
    have others : ∀ g, g ≠ h → ((s.part.clockTo due).meterSilence h c).head g = s.part.head g := fun g other =>
      (Part.head_of_offHead off other).trans rfl
    have record : ((s.part.clockTo due).detect h .meterSilent).record h = s.part.rungAfter h .meterSilent :=
      Part.record_detect .meterSilent
    have live : (((s.part.clockTo due).detect h .meterSilent).diag h).isLive .meterSilent = true :=
      Part.detect_isLive (by decide)
    have held := Part.detect_isHeld (p := s.part.clockTo due) (h := h) (k := .meterSilent)
    refine ⟨_, rfl, now, ?_, ?_, others, fun early => ⟨?_, ?_⟩, fun late => ⟨?_, ?_⟩, ?_⟩
    · rw [Part.diag, head]; exact live
    · intro rises; rw [Part.diag, head]; exact held rises
    · rw [Part.entry, head]; exact if_pos early
    · rw [Part.context, head]; exact congrArg some (if_pos early)
    · rw [Part.entry, head]; exact if_neg (Nat.not_lt.mpr late)
    · rw [Part.context, head]; exact congrArg some (if_neg (Nat.not_lt.mpr late))
    · rw [Part.record, head]; exact record

end Sys2Proof.Machine
end

section
/-! The end of the vent sweep. -/

namespace Sys2Proof.Machine

open Sys2Proof

variable {h : HeadNo} {p q : Part}

theorem Part.anySilent_of_offCycle (e : q.offCycle = p.offCycle) : q.anySilent = p.anySilent := by
  have view := congrArg Part.anySilent e; exact view

/-- No test begins where no head is marked. -/
theorem Part.beginMarked_of_unmarked (unmarked : ∀ g, (p.diag g).mark = false) : p.beginMarked = p :=
  forEach_of_idle fun g _ => if_neg (by simp [unmarked g])

theorem Part.setProd_of_unmarked (unmarked : ∀ g, (p.diag g).mark = false) (new : Prod) :
    p.setProd new = { p with control := { p.control with
      prod := new, cleanOpened := if new = .drain ∨ new = .standby then false else p.control.cleanOpened } } := by
  unfold Part.setProd; dsimp only; split
  · exact Part.beginMarked_of_unmarked unmarked
  · rfl

/-- The sweep goes on while a head is in VENT, and it ends in CONFIG and in the running phase alone (R42, R151). -/
theorem Part.checkSweep_idle
    (idle : p.control.prod ≠ .config ∨ p.phase ≠ .running ∨ ∃ g, (p.entry g).state = .vent) : p.checkSweep = p := by
  refine if_neg fun ⟨config, running, done⟩ => ?_
  rcases idle with other | off | ⟨g, vents⟩
  · exact other config
  · exact off running
  · have none_ := List.all_eq_true.mp done g (List.mem_finRange g)
    simp [vents] at none_

theorem Part.checkSweep_done (config : p.control.prod = .config) (running : p.phase = .running)
    (done : ∀ g, (p.entry g).state ≠ .vent) : p.checkSweep = p.sweepDone :=
  if_pos ⟨config, running, List.all_eq_true.mpr fun g _ => by simpa using done g⟩

/-- The end of the sweep with every module answering and no test to begin (R151). -/
theorem Part.sweepDone_of_answering (unmarked : ∀ g, (p.diag g).mark = false) (answering : p.anySilent = false) :
    p.sweepDone = { p with
      control := { p.control with prod := .standby, cleanOpened := false }
      lineTimer := .running (p.now + p.machine.lineSilence) } := by
  unfold Part.sweepDone
  rw [Part.setProd_of_unmarked unmarked]
  have still : ∀ (c : Control) (t : Timer), Part.anySilent { p with control := c, lineTimer := t } = p.anySilent :=
    fun _ _ => rfl
  refine if_neg fun silent => ?_
  rw [(still _ _).symm.trans silent] at answering
  cases answering

/-- A module that is silent as the sweep ends takes the part to SAFE (R151, R157). -/
theorem Part.sweepDone_of_silent (silent : p.anySilent = true) :
    p.sweepDone.control.prod = .safe ∧ p.sweepDone.control.firstCause = some .headBus ∧
      p.sweepDone.control.causes = addCause 0 .headBus := by
  have prod := Part.setProd_prod p .standby
  have still := (Part.anySilent_of_offCycle (Part.setProd_offCycle p .standby)).trans silent
  unfold Part.sweepDone; dsimp only
  generalize p.setProd .standby = r at *
  have still' : Part.anySilent { r with lineTimer := r.startTimer r.machine.lineSilence } = true := still
  rw [if_pos still']
  exact Part.raiseSafe_control (p := { r with lineTimer := r.startTimer r.machine.lineSilence })
    (by rw [show ∀ t, Part.control { r with lineTimer := t } = r.control from fun _ => rfl, prod]; rfl) .headBus

theorem exec_ventExpiry (s : State) : exec (.ventExpiry h) s =
    .next { s with part := s.part.phaseExpiry h .vent (Part.ventEnd h) } := rfl

/-- Settles O29: the expiry closes the relief valve of the head, and the last one ends the sweep. -/
theorem ventExpiryEndsTheSweep : Obligations.VentExpiryEndsTheSweep := by
  intro s h due
  dsimp only
  rw [exec_ventExpiry]
  refine ⟨fun idle => by rw [Part.phaseExpiry_idle idle], fun st timer => ?_⟩
  rw [Part.phaseExpiry_due st timer, Part.ventEnd, Part.modEntry_eq]
  generalize start : ((s.part.clockTo due).modHead h fun x => { x with
    entry := { (s.part.clockTo due).entry h with relief := false, timer := .stopped, state := .rest } }) = q
  have entry : ∀ g, q.entry g = if g = h then { s.part.entry h with relief := false, timer := .stopped, state := .rest }
      else s.part.entry g := fun g => by
    rw [← start, Part.entry, Part.head_modHead]; split <;> rfl
  have control : q.control = s.part.control := by rw [← start]; rfl
  have phase : q.phase = s.part.phase := by rw [← start]; rfl
  have silent : q.anySilent = s.part.anySilent := by rw [← start]; rfl
  have diag : ∀ g, q.diag g = s.part.diag g := fun g => by
    rw [← start, Part.diag, Part.head_modHead]; split
    · next same => rw [same]; rfl
    · rfl
  refine ⟨fun goes => ?_, fun config running last => ?_⟩
  · rw [Part.checkSweep_idle, ← start]
    · rfl
    · rw [control, phase]
      exact goes.imp_right (Or.imp_right fun ⟨g, other, vents⟩ => ⟨g, by rw [entry, if_neg other]; exact vents⟩)
  · rw [Part.checkSweep_done (by rw [control]; exact config) (by rw [phase]; exact running) fun g => by
      rw [entry]; split
      · exact fun vents => by cases vents
      · next other => exact last g other]
    refine ⟨fun answering unmarked => ?_, fun silent_ => ?_⟩
    · rw [Part.sweepDone_of_answering (fun g => by rw [diag]; exact unmarked g) (by rw [silent]; exact answering), ← start]
      rfl
    · exact ⟨_, rfl, Part.sweepDone_of_silent (by rw [silent]; exact silent_)⟩

end Sys2Proof.Machine
end

section
/-! The relief of a container: the end of its settle, the relief valve, and what the fill-end and relief crossings and a
seal drop do to the head. -/

namespace Sys2Proof.Machine

open Sys2Proof

variable {h : HeadNo} {p q : Part}

/-! ### The rung of a detection -/

theorem HeadRecord.stored_decided (a : Action) (ok : Bool) (k : FaultKind) (x : HeadRecord) :
    (x.decided a ok k).stored = x.stored := by
  unfold HeadRecord.decided
  split
  · rfl
  · rfl
  · rfl
  · split <;> rfl
  · rfl
  · rfl

theorem Part.stored_rungAfter (k : FaultKind) : (p.rungAfter h k).stored = (p.record h).stored := by
  unfold Part.rungAfter; dsimp only; split
  · rfl
  · exact HeadRecord.stored_decided _ _ _ _

/-- The rung after a detection depends on the record, on whether the kind is live, on the machine configuration and on the
active recipe. -/
theorem Part.rungAfter_eq {k : FaultKind} (machine : q.machine = p.machine) (recipe : q.activeRecipe = p.activeRecipe)
    (record : q.record h = p.record h) (live : (q.diag h).isLive k = (p.diag h).isLive k) :
    q.rungAfter h k = p.rungAfter h k := by
  unfold Part.rungAfter Part.timedOk
  rw [record, live, machine, recipe]

theorem Part.rungAfter_congr {k : FaultKind} (off : q.offHead h = p.offHead h) (record : q.record h = p.record h)
    (live : (q.diag h).isLive k = (p.diag h).isLive k) : q.rungAfter h k = p.rungAfter h k := by
  refine Part.rungAfter_eq ?_ ?_ record live
  · have view := congrArg Part.machine (Part.offHeads_of_offHead off); exact view
  · have view := congrArg Part.activeRecipe (Part.offHeads_of_offHead off); exact view

theorem Part.now_of_offHead (off : q.offHead h = p.offHead h) : q.now = p.now := by
  have view := congrArg Part.now (Part.offHeads_of_offHead off); exact view

/-! ### A flag and its detection -/

theorem Part.context_addContextFlag {c : Context} (known : p.context h = some c) (f : ContainerFlag) :
    (p.addContextFlag h f).context h = some { c with flags := addFlag c.flags f } := by
  rw [Part.addContextFlag, Part.context_modContext, if_pos rfl, known]; rfl
@[simp] theorem Part.record_addContextFlag (g : HeadNo) (f : ContainerFlag) :
    (p.addContextFlag h f).record g = p.record g := Part.record_modContext h g _ p
@[simp] theorem Part.diag_addContextFlag (g : HeadNo) (f : ContainerFlag) :
    (p.addContextFlag h f).diag g = p.diag g := Part.diag_modContext h g _ p

/-- What a head shows of a kind that has been detected on it since `p` (R114). -/
structure Part.Detected (p : Part) (h : HeadNo) (k : FaultKind) (q : Part) : Prop where
  off : q.offHead h = p.offHead h
  live : (q.diag h).isLive k = true
  held : (p.diag h).isLive k = false → (q.diag h).isHeld k = true
  record : q.record h = p.rungAfter h k

theorem Part.detect_detected {k : FaultKind} (other : k ≠ .rateDeviation) : p.Detected h k (p.detect h k) :=
  ⟨Part.detect_offHead h p k, Part.detect_isLive other, Part.detect_isHeld, Part.record_detect k⟩

theorem Part.Detected.trans_head {k : FaultKind} {r : Part} (found : p.Detected h k q) (off : r.offHead h = q.offHead h)
    (diag : r.diag h = q.diag h) (record : r.record h = q.record h) : p.Detected h k r :=
  ⟨off.trans found.off, by rw [diag]; exact found.live, fun rises => by rw [diag]; exact found.held rises,
    record.trans found.record⟩

theorem Part.Detected.of_head {k : FaultKind} {r : Part} (found : q.Detected h k r) (off : q.offHead h = p.offHead h)
    (diag : q.diag h = p.diag h) (record : q.record h = p.record h) : p.Detected h k r :=
  ⟨found.off.trans off, found.live, fun rises => found.held (by rw [diag]; exact rises),
    found.record.trans (Part.rungAfter_congr off record (by rw [diag]))⟩

theorem Part.flagDetect_detected {k : FaultKind} (other : k ≠ .rateDeviation) (f : ContainerFlag) :
    p.Detected h k ((p.addContextFlag h f).detect h k) :=
  (Part.detect_detected other).of_head (Part.addContextFlag_offHead h p f) (by simp) (by simp)

/-! ### Relief -/

/-- The relief valve opens in one change of the entry (R21, R31). -/
theorem Part.openRelief_eq {c : Context} (known : p.context h = some c) : p.openRelief h = p.modHead h fun x => { x with
    entry := { p.entry h with
      gas := false, fast := false, fine := false, relief := true, state := .relief
      timer := .running (p.now + c.reliefTime) } } := by
  unfold Part.openRelief
  simp only [known, Option.map_some, Option.getD_some]
  exact Part.modEntry_eq _

theorem Part.entry_openRelief {c : Context} (known : p.context h = some c) : (p.openRelief h).entry h = { p.entry h with
    gas := false, fast := false, fine := false, relief := true, state := .relief
    timer := .running (p.now + c.reliefTime) } := by
  rw [Part.openRelief_eq known, Part.entry, Part.head_modHead, if_pos rfl]
@[simp] theorem Part.context_openRelief (g : HeadNo) : (p.openRelief h).context g = p.context g := by
  unfold Part.openRelief; exact Part.context_modEntry h g _ p
@[simp] theorem Part.record_openRelief (g : HeadNo) : (p.openRelief h).record g = p.record g := by
  unfold Part.openRelief; exact Part.record_modEntry h g _ p
@[simp] theorem Part.diag_openRelief (g : HeadNo) : (p.openRelief h).diag g = p.diag g := by
  unfold Part.openRelief; exact Part.diag_modEntry h g _ p

theorem Part.Detected.openRelief {k : FaultKind} (found : p.Detected h k q) : p.Detected h k (q.openRelief h) :=
  found.trans_head (Part.openRelief_offHead h q) (by simp) (by simp)

/-! ### A settle cut short -/

theorem Part.context_cutSettle {c : Context} (known : p.context h = some c) :
    (p.cutSettle h).context h = some { c with afterState := .discarded } := by
  rw [Part.cutSettle, Part.context_takeSamples, Part.context_modContext, if_pos rfl, known]; rfl

/-- A dose that gives no sample leaves the table alone (R62). -/
theorem Part.takeSamples_of_silent {c : Context} (known : p.context h = some c) (silent : c.gives = false) (full : Bool) :
    p.takeSamples h full = p := by
  simp [Part.takeSamples, known, silent]

theorem Part.cutSettle_of_silent {c : Context} (known : p.context h = some c) (silent : c.gives = false) :
    p.cutSettle h = p.modContext h fun c => { c with afterState := .discarded } := by
  have context : (p.modContext h fun c => { c with afterState := .discarded }).context h =
      some { c with afterState := .discarded } := by
    rw [Part.context_modContext, if_pos rfl, known]; rfl
  exact Part.takeSamples_of_silent context silent false

/-- A rate sample leaves the after-run as it is (R64). -/
theorem Part.stored_evaluateRate : ((p.evaluateRate h).record h).stored = (p.record h).stored := by
  unfold Part.evaluateRate; split
  · rw [Part.record_detect, Part.stored_rungAfter]
  · simp [Part.clearKind]

theorem Part.stored_admitRate (r : Nat) (bit : Bool) :
    ((p.admitRate h r bit).record h).stored = { (p.record h).stored with r := learnRate (p.record h).stored.r r } := by
  unfold Part.admitRate
  rw [Part.stored_evaluateRate]
  have advised : ∀ q : Part, q.recomputeAdvisory.record h = q.record h := fun _ => rfl
  rw [advised, Part.record, Part.head_modHead, if_pos rfl]
  rfl

theorem Part.afterRun_cutSettle : ((p.cutSettle h).record h).stored.a = (p.record h).stored.a := by
  have start : (p.modContext h fun c => { c with afterState := .discarded }).record h = p.record h := by simp
  unfold Part.cutSettle
  generalize (p.modContext h fun c => { c with afterState := .discarded }) = q at start
  rw [← start]
  unfold Part.takeSamples; split
  · rfl
  · split
    · simp only [Bool.false_eq_true, if_false]
      split
      · rfl
      · rw [Part.stored_admitRate]
    · rfl

end Sys2Proof.Machine
end

section
/-! The fill-end and relief crossings, and a seal drop. -/

namespace Sys2Proof.Machine

open Sys2Proof

variable {h : HeadNo} {p q : Part}

/-! ### The end of the fill window -/

@[simp] theorem Part.record_toSettle (g : HeadNo) (st : DoseStatus) : (p.toSettle h st).record g = p.record g := by
  simp only [Part.toSettle, Part.record, Part.head_modHead]; split
  · next same => rw [same]
  · rfl
@[simp] theorem Part.diag_toSettle (g : HeadNo) (st : DoseStatus) : (p.toSettle h st).diag g = p.diag g := by
  simp only [Part.toSettle, Part.diag, Part.head_modHead]; split
  · next same => rw [same]
  · rfl

theorem Part.overrunFill_detected : p.Detected h .windowOverrun (p.overrunFill h) :=
  (Part.flagDetect_detected (by decide) _).trans_head (Part.toSettle_offHead h _ _) (by simp [Part.overrunFill])
    (by simp [Part.overrunFill])

/-- The context of a fill that the end of its window aborts (R29, R30). -/
def Context.overrun (c : Context) : Context :=
  { c with
    flags := addFlag c.flags .windowOverrun, filling := false, openTimer := .stopped, silenceTimer := .stopped
    status := .aborted, afterState := .counting }

theorem Part.context_flagDetect {c : Context} (known : p.context h = some c) (f : ContainerFlag) (k : FaultKind) :
    ((p.addContextFlag h f).detect h k).context h = some { c with flags := addFlag c.flags f } := by
  rw [Part.context_detect, Part.context_addContextFlag known]

theorem Part.context_overrunFill {c : Context} (known : p.context h = some c) :
    (p.overrunFill h).context h = some c.overrun := by
  rw [Part.overrunFill, Part.toSettle_eq (Part.context_flagDetect known _ _), Part.context, Part.head_modHead, if_pos rfl]
  rfl

theorem Part.entry_overrunFill {c : Context} (known : p.context h = some c) : (p.overrunFill h).entry h = { p.entry h with
    gas := false, fast := false, fine := false, state := .settle, timer := .running (p.now + c.settleTime) } := by
  have entry : ((p.addContextFlag h .windowOverrun).detect h .windowOverrun).entry h = p.entry h := by simp
  have now : ((p.addContextFlag h .windowOverrun).detect h .windowOverrun).now = p.now := by rw [Part.detect_now]; rfl
  rw [Part.overrunFill, Part.toSettle_eq (Part.context_flagDetect known _ _), entry, now, Part.entry, Part.head_modHead,
    if_pos rfl]
  rfl

/-- An aborted fill gives no sample: its cut settle discards the after-run alone (R56, R62). -/
theorem Part.cutSettle_overrunFill {c : Context} (known : p.context h = some c) : (p.overrunFill h).cutSettle h =
    (p.overrunFill h).modContext h fun c => { c with afterState := .discarded } :=
  Part.cutSettle_of_silent (Part.context_overrunFill known) (by simp [Context.gives, Context.overrun])

/-- Settles O40: each crossing is read off the operations of its state. -/
theorem fillEndAndReliefCrossings : Obligations.FillEndAndReliefCrossings := by
  intro p h c
  dsimp only
  have ends : p.crossing h .fillend = p.fillEndCrossing h := rfl
  have relieves : p.crossing h .relief = p.reliefCrossing h := rfl
  have overran : ∀ t : Part, p.Detected h .windowOverrun t → (t.diag h).isLive .windowOverrun = true ∧
      ((p.diag h).isLive .windowOverrun = false → (t.diag h).isHeld .windowOverrun = true) ∧
      (t.record h).stored = (p.record h).stored ∧ ∀ g, g ≠ h → t.head g = p.head g := fun t found =>
    ⟨found.live, found.held, by rw [found.record, Part.stored_rungAfter], fun _ => Part.head_of_offHead found.off⟩
  rw [ends, relieves]
  refine ⟨fun st => ?_, fun other => ?_, fun idle => ?_, fun known => ⟨fun fills => ?_, fun st => ?_, fun st => ?_, fun st => ?_⟩⟩
  · have noted : p.fillEndCrossing h = p.modEntry h fun e => { e with fillEndNoted := true } := by
      simp only [Part.fillEndCrossing, st]
    rw [noted, Part.modEntry_eq]
  · unfold Part.fillEndCrossing; split
    · next st => simp [st] at other
    · next st => simp [st] at other
    · next st => simp [st] at other
    · rfl
  · unfold Part.reliefCrossing; split
    · next st => simp [st] at idle
    · next st => simp [st] at idle
    · next st => simp [st] at idle
    · next st => simp [st] at idle
    · next st => simp [st] at idle
    · next st => simp [st] at idle
    all_goals rfl
  · have ended : p.fillEndCrossing h = p.overrunFill h := by
      rcases fills with st | st <;> simp only [Part.fillEndCrossing, st]
    have relieved : p.reliefCrossing h = ((p.overrunFill h).cutSettle h).openRelief h := by
      rcases fills with st | st <;> simp only [Part.reliefCrossing, st]
    have cut : ((p.overrunFill h).cutSettle h).context h = some { c.overrun with afterState := .discarded } :=
      Part.context_cutSettle (Part.context_overrunFill known)
    have now : ((p.overrunFill h).cutSettle h).now = p.now :=
      Part.now_of_offHead ((Part.cutSettle_offHead h _).trans Part.overrunFill_detected.off)
    rw [ended, relieved]
    refine ⟨overran _ Part.overrunFill_detected, Part.context_overrunFill known, Part.entry_overrunFill known,
      overran _ (Part.Detected.openRelief ?_), ?_, ?_⟩
    · rw [Part.cutSettle_overrunFill known]
      exact Part.overrunFill_detected.trans_head (Part.modContext_offHead h _ _) (by simp) (by simp)
    · rw [Part.context_openRelief, cut]; rfl
    · rw [Part.entry_openRelief cut, Part.entry_cutSettle, Part.entry_overrunFill known, now]; rfl
  · rw [Part.reliefCrossing, st]; exact Part.openRelief_eq known
  · have now : (p.cutSettle h).now = p.now := Part.now_of_offHead (Part.cutSettle_offHead h p)
    have cut := Part.context_cutSettle known
    rw [Part.reliefCrossing, st]
    dsimp only
    refine ⟨?_, ?_, ?_, fun g other => Part.head_of_offHead (by simp) other⟩
    · rw [Part.entry_openRelief cut, Part.entry_cutSettle, now]; rfl
    · rw [Part.context_openRelief, cut]
    · rw [Part.record_openRelief, Part.afterRun_cutSettle]
  · have relieved : p.reliefCrossing h = ((p.addContextFlag h .windowOverrun).detect h .windowOverrun).openRelief h := by
      rcases st with st | st <;> simp only [Part.reliefCrossing, st]
    have flagged := Part.context_flagDetect known .windowOverrun .windowOverrun
    have entry : ((p.addContextFlag h .windowOverrun).detect h .windowOverrun).entry h = p.entry h := by simp
    have now : ((p.addContextFlag h .windowOverrun).detect h .windowOverrun).now = p.now := by rw [Part.detect_now]; rfl
    rw [relieved]
    refine ⟨overran _ (Part.flagDetect_detected (by decide) _).openRelief, ?_, ?_⟩
    · rw [Part.entry_openRelief flagged, entry, now]; rfl
    · rw [Part.context_openRelief, flagged]

/-! ### The table's other flags behind a cut settle -/

/-- A rate sample touches RATE_DEVIATION alone among the kinds (R124). -/
theorem Part.isLive_evaluateRate {k : FaultKind} (other : k ≠ .rateDeviation) :
    ((p.evaluateRate h).diag h).isLive k = (p.diag h).isLive k := by
  unfold Part.evaluateRate; split
  · rw [Part.diag_detect]; split
    · rfl
    · simp [Diag.isLive_moved, other]
  · simp [Part.clearKind, other]

theorem Part.isHeld_evaluateRate {k : FaultKind} (other : k ≠ .rateDeviation) :
    ((p.evaluateRate h).diag h).isHeld k = (p.diag h).isHeld k := by
  unfold Part.evaluateRate; split
  · rw [Part.diag_detect]; split
    · rfl
    · simp [other]
  · simp [Part.clearKind]

theorem Part.flags_cutSettle {k : FaultKind} (other : k ≠ .rateDeviation) :
    ((p.cutSettle h).diag h).isLive k = (p.diag h).isLive k ∧ ((p.cutSettle h).diag h).isHeld k = (p.diag h).isHeld k := by
  have start : (p.modContext h fun c => { c with afterState := .discarded }).diag h = p.diag h := by simp
  unfold Part.cutSettle
  generalize (p.modContext h fun c => { c with afterState := .discarded }) = q at start
  rw [← start]
  unfold Part.takeSamples; split
  · exact ⟨rfl, rfl⟩
  · split
    · simp only [Bool.false_eq_true, if_false]
      split
      · exact ⟨rfl, rfl⟩
      · next rate bit _ =>
        have advised : ∀ r : Part, r.recomputeAdvisory.diag h = r.diag h := fun _ => rfl
        unfold Part.admitRate
        rw [Part.isLive_evaluateRate other, Part.isHeld_evaluateRate other, advised, Part.diag, Part.head_modHead,
          if_pos rfl]
        exact ⟨rfl, rfl⟩
    · exact ⟨rfl, rfl⟩

/-! ### A container that loses its seal or a valve -/

/-- The context of a container that is lost in a state, behind its flag (R36, R37). -/
def Context.lostIn (st : HeadState) (c : Context) : Context :=
  if st = .fillFast ∨ st = .fillFine then
    { c with filling := false, openTimer := .stopped, silenceTimer := .stopped, status := .aborted }
  else if st = .settle then { c with afterState := .discarded } else c

/-- The end of the phase in which a container is lost: a fill is aborted and a settle is cut short (R36, R37). -/
def Part.cutPhase (h : HeadNo) (st : HeadState) (p : Part) : Part :=
  let p := if st.isFill then p.modContext h Context.abortFill else p
  if st = .settle then p.cutSettle h else p

theorem Part.lose_eq (f : ContainerFlag) : p.lose h f =
    ((if f = .sealLost then (p.addContextFlag h f).detect h .sealLost else p.addContextFlag h f).cutPhase h
      (p.entry h).state).openRelief h := rfl

theorem Part.cutPhase_offHead (st : HeadState) : (p.cutPhase h st).offHead h = p.offHead h := by
  unfold Part.cutPhase; dsimp only
  split <;> split <;> simp

theorem Part.entry_cutPhase (st : HeadState) (g : HeadNo) : (p.cutPhase h st).entry g = p.entry g := by
  unfold Part.cutPhase; dsimp only
  split <;> split <;> simp

theorem Part.context_cutPhase {c : Context} (known : p.context h = some c) (st : HeadState) :
    (p.cutPhase h st).context h = some (c.lostIn st) := by
  unfold Part.cutPhase Context.lostIn; dsimp only
  by_cases fills : st.isFill = true
  · have not_settle : st ≠ .settle := by rintro rfl; cases fills
    rw [if_pos fills, if_neg not_settle, if_pos (HeadState.isFill_iff.mp fills), Part.context_modContext, if_pos rfl, known]
    rfl
  · rw [if_neg fills, if_neg (mt HeadState.isFill_iff.mpr fills)]
    split
    · exact Part.context_cutSettle known
    · exact known

/-- Out of SETTLE the table of the head is not touched. -/
theorem Part.table_cutPhase {st : HeadState} (other : st ≠ .settle) :
    (p.cutPhase h st).record h = p.record h ∧ (p.cutPhase h st).diag h = p.diag h := by
  unfold Part.cutPhase; dsimp only
  rw [if_neg other]
  split <;> simp

theorem Part.flags_cutPhase (st : HeadState) {k : FaultKind} (other : k ≠ .rateDeviation) :
    ((p.cutPhase h st).diag h).isLive k = (p.diag h).isLive k ∧
      ((p.cutPhase h st).diag h).isHeld k = (p.diag h).isHeld k := by
  by_cases settles : st = .settle
  · subst settles
    have cut : p.cutPhase h .settle = p.cutSettle h := rfl
    rw [cut]; exact Part.flags_cutSettle other
  · rw [(Part.table_cutPhase settles).2]; exact ⟨rfl, rfl⟩

theorem exec_sealInputRise (s : State) : exec (.sealInputRise h) s =
    .next { s with part := (s.part.setSeal h true).busArrival h id } := rfl
theorem exec_sealDrop (s : State) : exec (.sealDrop h) s =
    .next { s with part := (s.part.setSeal h false).busArrival h (Part.sealDropAt h) } := rfl

end Sys2Proof.Machine
end

section
/-! A seal drop, and what a head loses by it. -/

namespace Sys2Proof.Machine

open Sys2Proof

variable {h : HeadNo} {p q : Part}

/-- Where the relief of a lost container leaves its head (R36, R37). -/
theorem Part.entry_lose {c : Context} (known : p.context h = some c) (f : ContainerFlag) : (p.lose h f).entry h =
    { p.entry h with
      gas := false, fast := false, fine := false, relief := true, state := .relief
      timer := .running (p.now + c.reliefTime) } := by
  have flagged : ∃ r : Part, (if f = .sealLost then (p.addContextFlag h f).detect h .sealLost else p.addContextFlag h f) = r ∧
      r.offHead h = p.offHead h ∧ r.entry h = p.entry h ∧ r.context h = some { c with flags := addFlag c.flags f } := by
    refine ⟨_, rfl, ?_, ?_, ?_⟩
    · split <;> simp
    · split <;> simp
    · split
      · exact Part.context_flagDetect known _ _
      · exact Part.context_addContextFlag known _
  obtain ⟨r, is_r, off, entry, context⟩ := flagged
  have time : ∀ st, (({ c with flags := addFlag c.flags f } : Context).lostIn st).reliefTime = c.reliefTime := fun st => by
    unfold Context.lostIn; split
    · rfl
    · split <;> rfl
  rw [Part.lose_eq, is_r, Part.entry_openRelief (Part.context_cutPhase context _), Part.entry_cutPhase, entry, time,
    Part.now_of_offHead ((Part.cutPhase_offHead _).trans off)]

theorem Part.context_lose {c : Context} (known : p.context h = some c) (f : ContainerFlag) :
    (p.lose h f).context h = some (({ c with flags := addFlag c.flags f } : Context).lostIn (p.entry h).state) := by
  rw [Part.lose_eq, Part.context_openRelief]
  split
  · exact Part.context_cutPhase (Part.context_flagDetect known _ _) _
  · exact Part.context_cutPhase (Part.context_addContextFlag known _) _

theorem Part.lose_offHead (f : ContainerFlag) : (p.lose h f).offHead h = p.offHead h := by
  rw [Part.lose_eq, Part.openRelief_offHead, Part.cutPhase_offHead]
  split <;> simp

/-- A lost seal is live behind its relief (R36). -/
theorem Part.lose_sealLost : ((p.lose h .sealLost).diag h).isLive .sealLost = true ∧
    ((p.diag h).isLive .sealLost = false → ((p.lose h .sealLost).diag h).isHeld .sealLost = true) := by
  have found := Part.flagDetect_detected (p := p) (h := h) (k := .sealLost) (by decide) .sealLost
  rw [Part.lose_eq, if_pos rfl, Part.diag_openRelief, (Part.flags_cutPhase _ (by decide)).1,
    (Part.flags_cutPhase _ (by decide)).2]
  exact ⟨found.live, found.held⟩

theorem Part.sealDropAt_of_relief (st : (p.entry h).state = .relief) :
    p.sealDropAt h = (p.addContextFlag h .sealLost).detect h .sealLost := by
  simp only [Part.sealDropAt, st]

theorem Part.sealDropAt_of_phase
    (st : (p.entry h).state ∈ [HeadState.pressurize, .waitFill, .fillFast, .fillFine, .settle, .waitRelief]) :
    p.sealDropAt h = p.lose h .sealLost := by
  simp only [List.mem_cons, List.not_mem_nil, or_false] at st
  rcases st with st | st | st | st | st | st <;> simp only [Part.sealDropAt, st]

theorem Part.sealDropAt_idle
    (st : (p.entry h).state ∈ [HeadState.rest, .testing, .skip, .sealing, .waitDischarge, .vent]) : p.sealDropAt h = p := by
  simp only [List.mem_cons, List.not_mem_nil, or_false] at st
  rcases st with st | st | st | st | st | st <;> simp only [Part.sealDropAt, st]

/-- Settles O34: the drop changes the pin, and what it does to the head follows from the head's state. -/
theorem sealDropRelievesTheHead : Obligations.SealDropRelievesTheHead := by
  intro s h c
  dsimp only
  intro on
  rw [exec_sealInputRise, exec_sealDrop]
  have on' : ∀ level, (s.part.setSeal h level).phase ≠ .inReset := fun _ => on
  refine ⟨?_, fun idle => ?_, fun fitted known st => ?_⟩
  · by_cases fitted : s.part.fitted h = true
    · rw [Part.busArrival_taken (on' true) fitted]; rfl
    · rw [Part.busArrival_unfitted (on' true) (Bool.eq_false_iff.mpr fitted)]
  · by_cases fitted : s.part.fitted h = true
    · have idle_ := idle.resolve_left (by simp [fitted])
      rw [Part.busArrival_taken (on' false) fitted, Part.sealDropAt_idle (by rw [Part.entry_moduleAnswers]; exact idle_)]
    · rw [Part.busArrival_unfitted (on' false) (Bool.eq_false_iff.mpr fitted)]
  · rw [Part.busArrival_taken (on' false) fitted]
    generalize drop : (s.part.setSeal h false).moduleAnswers (moduleOf h) = q
    have head : ∀ g, q.head g = s.part.head g := fun g => by rw [← drop, Part.head_moduleAnswers]; rfl
    have entry : q.entry h = s.part.entry h := congrArg Head.entry (head h)
    have known' : q.context h = some c := (congrArg Head.context (head h)).trans known
    have diag : q.diag h = s.part.diag h := congrArg Head.diag (head h)
    have now : q.now = s.part.now := by rw [← drop, Part.moduleAnswers_now]; rfl
    have off : (q.sealDropAt h).offHead h = q.offHead h := by
      rcases st with st | st
      · rw [Part.sealDropAt_of_relief (by rw [entry]; exact st)]; simp
      · rw [Part.sealDropAt_of_phase (by rw [entry]; exact st)]; exact Part.lose_offHead _
    have detected : ((q.sealDropAt h).diag h).isLive .sealLost = true ∧
        ((s.part.diag h).isLive .sealLost = false → ((q.sealDropAt h).diag h).isHeld .sealLost = true) := by
      rw [← diag]
      rcases st with st | st
      · rw [Part.sealDropAt_of_relief (by rw [entry]; exact st)]
        have found := Part.flagDetect_detected (p := q) (h := h) (k := .sealLost) (by decide) .sealLost
        exact ⟨found.live, found.held⟩
      · rw [Part.sealDropAt_of_phase (by rw [entry]; exact st)]; exact Part.lose_sealLost
    refine ⟨_, rfl, ?_, ?_, fun g other => (Part.head_of_offHead off other).trans (head g), detected.1, detected.2,
      fun relief => ?_, fun other => ?_⟩
    · have view := congrArg Part.pins (Part.offHeads_of_offHead off); exact view
    · have view := congrArg Part.modules (Part.offHeads_of_offHead off); exact view
    · rw [Part.sealDropAt_of_relief (by rw [entry]; exact relief)]
      exact ⟨by rw [Part.entry_detect, Part.entry_addContextFlag, entry], Part.context_flagDetect known' _ _⟩
    · rw [Part.sealDropAt_of_phase (by rw [entry]; exact st.resolve_left other)]
      exact ⟨by rw [Part.entry_lose known', entry, now], by rw [Part.context_lose known', entry]; rfl⟩

end Sys2Proof.Machine
end

section
/-! SAFE entry: what it does to the heads and to the Operation Slot. -/

namespace Sys2Proof.Machine

open Sys2Proof

variable {h g : HeadNo} {p q : Part}

/-! ### The marks and the slot -/

/-- A head without its test mark. -/
def Head.unmarked (x : Head) : Head := { x with diag := { x.diag with mark := false } }

@[simp] theorem Part.finish_head (r : OpResult) (g : HeadNo) : (p.finish r).head g = p.head g := by
  unfold Part.finish; split <;> rfl
@[simp] theorem Part.endTestCoils_head (r : OpResult) (g : HeadNo) : (p.endTestCoils r).head g = p.head g := by
  rw [Part.endTestCoils, Part.finish_head]; rfl

theorem Part.removeAllMarks_head (g : HeadNo) : p.removeAllMarks.head g = (p.head g).unmarked := by
  have all : ∀ x : Head, ({ p with heads := Vector.ofFn fun h => (p.head h).unmarked } : Part).head g =
      (p.head g).unmarked := fun _ => by simp [Part.head]
  unfold Part.removeAllMarks
  dsimp only
  split
  · rw [Part.endTestCoils_head]; exact all (p.head g)
  · exact all (p.head g)

/-- A running TEST COILS ends with the removal of every mark (R129). -/
theorem Part.removeAllMarks_of_running (runs : p.coilTest = .running) : p.removeAllMarks = Part.endTestCoils .testAborted
    { p with heads := Vector.ofFn fun h => (p.head h).unmarked } := by
  unfold Part.removeAllMarks
  dsimp only
  exact if_pos runs

theorem Part.removeAllMarks_of_idle (idle : p.coilTest ≠ .running) :
    p.removeAllMarks = { p with heads := Vector.ofFn fun h => (p.head h).unmarked } := by
  unfold Part.removeAllMarks
  dsimp only
  exact if_neg idle

theorem Part.removeAllMarks_slot (other : p.slot ≠ .pendingTest) : p.removeAllMarks.slot = p.slot := by
  by_cases runs : p.coilTest = .running
  · rw [Part.removeAllMarks_of_running runs]
    have finished : ∀ q : Part, q.slot ≠ .pendingTest → (q.finish .testAborted).slot = q.slot := fun q other => by
      unfold Part.finish; split
      · next done =>
        obtain ⟨pending, kind⟩ := done
        cases slot : q.slot with
        | pendingTest => exact absurd slot other
        | _ => simp [slot, Slot.kind, Slot.isPending, OpResult.kind] at kind pending
      · rfl
    exact finished _ other
  · rw [Part.removeAllMarks_of_idle runs]

/-! ### The heads -/

theorem Part.headSafe_idle
    (st : (p.entry h).state ∈ [HeadState.sealing, .relief, .waitDischarge, .rest, .skip, .testing, .vent]) :
    p.headSafe h = p := by
  simp only [List.mem_cons, List.not_mem_nil, or_false] at st
  rcases st with st | st | st | st | st | st | st <;> simp only [Part.headSafe, st]

/-- The context of a head behind a SAFE entry (R40). -/
def Context.safeIn (st : HeadState) (c : Context) : Context :=
  match st with
  | .fillFast | .fillFine => { c with
      flags := addFlag c.flags .safeAbort, filling := false, openTimer := .stopped, silenceTimer := .stopped
      status := .aborted }
  | .pressurize | .waitFill => { c with flags := addFlag c.flags .safeAbort }
  | .settle => { c with afterState := .discarded }
  | _ => c

/-- The states from which SAFE entry relieves the container (R40). -/
def HeadState.safeRelieves : HeadState → Bool
  | .fillFast | .fillFine | .pressurize | .waitFill | .settle | .waitRelief => true
  | _ => false

/-- A SAFE entry opens the relief of a container under way (R40). -/
theorem Part.headSafe_relieves {c : Context} (known : p.context h = some c)
    (under : (p.entry h).state.safeRelieves = true) :
    (p.headSafe h).entry h = { p.entry h with
      gas := false, fast := false, fine := false, relief := true, state := .relief
      timer := .running (p.now + c.reliefTime) } ∧
    (p.headSafe h).context h = some (c.safeIn (p.entry h).state) := by
  have relieved : ∀ (q : Part) (d : Context), q.offHead h = p.offHead h → q.entry h = p.entry h →
      q.context h = some d → d.reliefTime = c.reliefTime → (q.openRelief h).entry h = { p.entry h with
        gas := false, fast := false, fine := false, relief := true, state := .relief
        timer := .running (p.now + c.reliefTime) } ∧ (q.openRelief h).context h = some d :=
    fun q d off entry context time =>
      ⟨by rw [Part.entry_openRelief context, entry, time, Part.now_of_offHead off], by rw [Part.context_openRelief, context]⟩
  have aborted : ∀ f : Context → Context, (p.modContext h f).context h = some (f c) := fun f => by
    rw [Part.context_modContext, if_pos rfl, known]; rfl
  have fill := relieved (p.modContext h fun c => c.abortFill.flag .safeAbort) _ (Part.modContext_offHead h p _) (by simp)
    (aborted _) rfl
  have flagged := relieved (p.addContextFlag h .safeAbort) _ (Part.addContextFlag_offHead h p _) (by simp)
    (Part.context_addContextFlag known _) rfl
  have cut := relieved (p.cutSettle h) _ (Part.cutSettle_offHead h p) (by simp) (Part.context_cutSettle known) rfl
  unfold Part.headSafe
  cases st : (p.entry h).state <;> rw [st] at under
  case fillFast => exact fill
  case fillFine => exact fill
  case pressurize => exact flagged
  case waitFill => exact flagged
  case settle => exact cut
  case waitRelief => exact relieved p c rfl rfl known rfl
  all_goals cases under

/-- What a SAFE entry makes of a head before the marks go: its own step, and out of DRAIN its clean valves closed (R40,
R41). -/
def Part.safeHead (p q : Part) (g : HeadNo) : Head :=
  if p.fitted g = true then
    if p.control.prod = .drain then { (q.headSafe g).head g with entry := ((q.headSafe g).entry g).closeClean }
    else (q.headSafe g).head g
  else p.head g

/-- A SAFE entry is the work at the heads, the removal of the marks and the end of a CAL DOSE, in this order (R157). -/
theorem Part.enterSafe_eq (p : Part) (cause : Cause) : ∃ r : Part, p.enterSafe cause = r.removeAllMarks.abortCal .safe ∧
    r.slot = p.slot ∧ r.coilTest = p.coilTest ∧ r.now = p.now ∧
    ∀ g, ∃ q : Part, q.head g = p.head g ∧ q.now = p.now ∧ r.head g = p.safeHead q g := by
  unfold Part.enterSafe
  dsimp only
  generalize control : { p with control := { p.control with
    prod := .safe, firstCause := some cause, causes := addCause 0 cause, holdTimer := .stopped
    cleanOpened := false } } = r
  have heads : ∀ g, r.head g = p.head g := fun _ => by rw [← control]; rfl
  have fits : ∀ g, r.fitted g = p.fitted g := fun _ => by rw [← control]; rfl
  have now : r.now = p.now := by rw [← control]
  have slot : r.slot = p.slot := by rw [← control]
  have test : r.coilTest = p.coilTest := by rw [← control]
  have safe : (forFitted Part.headSafe r).offHeads = r.offHeads :=
    forFitted_view Part.offHeads _ (fun h q => Part.headSafe_offHeads h q) r
  have clean := (forFitted Part.headSafe r).closeCleanValves_offHeads.trans safe
  have fits' : ∀ g, (forFitted Part.headSafe r).fitted g = p.fitted g := fun g => by
    have view := congrArg (fun t : Part => t.machine.fitted.getLsbD g) safe
    exact Eq.trans view (fits g)
  have folds : ∀ g, ∃ q : Part, q.head g = p.head g ∧ q.now = p.now ∧
      (forFitted Part.headSafe r).head g = if p.fitted g = true then (q.headSafe g).head g else p.head g := fun g => by
    obtain ⟨q, head, offs, folded⟩ := forFitted_head (fun h q => Part.headSafe_offHead h q) r g
    rw [fits, heads] at folded
    have same := congrArg Part.now offs
    exact ⟨q, head.trans (heads g), Eq.trans same now, folded⟩
  split
  · next drain =>
    refine ⟨_, rfl, ?_, ?_, ?_, fun g => ?_⟩
    · have view := congrArg Part.slot clean; exact Eq.trans view slot
    · have view := congrArg Part.coilTest clean; exact Eq.trans view test
    · have view := congrArg Part.now clean; exact Eq.trans view now
    · obtain ⟨q, head, time, folded⟩ := folds g
      refine ⟨q, head, time, ?_⟩
      rw [Part.closeCleanValves_head, fits', Part.entry, folded]
      simp only [Part.safeHead, of_decide_eq_true drain, if_true]
      split <;> rfl
  · next other =>
    refine ⟨_, rfl, ?_, ?_, ?_, fun g => ?_⟩
    · have view := congrArg Part.slot safe; exact Eq.trans view slot
    · have view := congrArg Part.coilTest safe; exact Eq.trans view test
    · have view := congrArg Part.now safe; exact Eq.trans view now
    · obtain ⟨q, head, time, folded⟩ := folds g
      refine ⟨q, head, time, ?_⟩
      have away : p.control.prod ≠ .drain := by simpa using other
      rw [folded]
      simp only [Part.safeHead, away, if_false]

/-- TEST COILS ends in its own result alone (R129, R176). -/
theorem Part.removeAllMarks_isCal (noCal : p.slot.isCal = false) : p.removeAllMarks.slot.isCal = false := by
  by_cases test : p.slot = .pendingTest
  · by_cases runs : p.coilTest = .running
    · rw [Part.removeAllMarks_of_running runs]
      unfold Part.endTestCoils Part.finish; split
      · rfl
      · exact noCal
    · rw [Part.removeAllMarks_of_idle runs]; exact noCal
  · rw [Part.removeAllMarks_slot test]; exact noCal

/-- The heads behind a SAFE entry without a CAL DOSE (R40, R41, R127). -/
theorem Part.enterSafe_head (cause : Cause) (noCal : p.slot.isCal = false) (g : HeadNo) :
    ∃ q : Part, q.head g = p.head g ∧ q.now = p.now ∧ (p.enterSafe cause).head g = (p.safeHead q g).unmarked := by
  obtain ⟨r, entered, slot, -, -, heads⟩ := p.enterSafe_eq cause
  obtain ⟨q, head, now, folded⟩ := heads g
  refine ⟨q, head, now, ?_⟩
  rw [entered, Part.abortCal_of_noCal (Part.removeAllMarks_isCal (by rw [slot]; exact noCal)), Part.removeAllMarks_head,
    folded]

theorem Part.abortCal_mark (cause : AbortCause) (g : HeadNo) : ((p.abortCal cause).diag g).mark = (p.diag g).mark := by
  unfold Part.abortCal; split
  · have ends : ∀ k r, (p.endCal k r).diag g = p.diag g := fun k r => by
      rw [Part.endCal, Part.diag, Part.finish_head]; exact Part.diag_modEntry k.head g _ p
    rw [ends]
  · rfl

/-- No mark outlives a SAFE entry (R127). -/
theorem Part.enterSafe_mark (cause : Cause) (g : HeadNo) : ((p.enterSafe cause).diag g).mark = false := by
  obtain ⟨r, entered, -⟩ := p.enterSafe_eq cause
  rw [entered, Part.abortCal_mark, Part.diag, Part.removeAllMarks_head]; rfl

/-- A SAFE entry ends a CAL DOSE ABORTED and closes its valves (R183). -/
theorem Part.enterSafe_cal {k : CalRecord} (slot : p.slot = .pendingCal k) (cause : Cause) :
    (p.enterSafe cause).slot = .finished (.calAborted .safe k.counted k.after (p.now - k.start)) ∧
    ((p.enterSafe cause).entry k.head).gas = false ∧ ((p.enterSafe cause).entry k.head).fast = false ∧
    ((p.enterSafe cause).entry k.head).fine = false := by
  obtain ⟨r, entered, same, -, now, -⟩ := p.enterSafe_eq cause
  have pending : r.removeAllMarks.slot = .pendingCal k := by
    rw [Part.removeAllMarks_slot (by rw [same, slot]; exact fun e => by cases e), same, slot]
  have time : r.removeAllMarks.now = r.now := by
    have view := congrArg Part.now (Part.removeAllMarks_offWork r); exact view
  have valves : ∀ (q : Part) (s : Slot), ({ q with slot := s } : Part).entry k.head = q.entry k.head := fun _ _ => rfl
  rw [entered, Part.abortCal_of_pending pending, time, now, valves, Part.entry, Part.head_modHead, if_pos rfl]
  exact ⟨rfl, rfl, rfl, rfl⟩

theorem Part.enterSafe_slot (noCal : p.slot.isCal = false) (cause : Cause) : ∃ r : Part,
    (p.enterSafe cause).slot = r.removeAllMarks.slot ∧ (p.enterSafe cause).coilTest = r.removeAllMarks.coilTest ∧
    r.slot = p.slot ∧ r.coilTest = p.coilTest := by
  obtain ⟨r, entered, slot, test, -⟩ := p.enterSafe_eq cause
  refine ⟨r, ?_, ?_, slot, test⟩
  · rw [entered, Part.abortCal_of_noCal (Part.removeAllMarks_isCal (by rw [slot]; exact noCal))]
  · rw [entered, Part.abortCal_of_noCal (Part.removeAllMarks_isCal (by rw [slot]; exact noCal))]

/-- A SAFE entry ends TEST COILS ABORTED (R129). -/
theorem Part.enterSafe_test (slot : p.slot = .pendingTest) (runs : p.coilTest = .running) (cause : Cause) :
    (p.enterSafe cause).slot = .finished .testAborted ∧ (p.enterSafe cause).coilTest = .idle := by
  obtain ⟨r, slot', test', same, running⟩ := Part.enterSafe_slot (p := p) (by rw [slot]; rfl) cause
  rw [slot', test', Part.removeAllMarks_of_running (running.trans runs), Part.endTestCoils, Part.finish,
    if_pos (by simp [same, slot, Slot.isPending, Slot.kind, OpResult.kind])]
  exact ⟨rfl, rfl⟩

theorem Part.enterSafe_save (save : p.slot.isSave = true) (cause : Cause) : (p.enterSafe cause).slot = p.slot := by
  have noCal : p.slot.isCal = false := by
    cases slot : p.slot <;> simp [slot, Slot.isSave, Slot.isCal] at save ⊢
  obtain ⟨r, slot', -, same, -⟩ := Part.enterSafe_slot noCal cause
  rw [slot', Part.removeAllMarks_slot, same]
  rw [same]; intro test; rw [test] at save; cases save

end Sys2Proof.Machine
end

section
/-! The statement about the entry to SAFE. -/

namespace Sys2Proof.Machine

open Sys2Proof

variable {h g : HeadNo} {p q : Part}

/-- A container under way is relieved by a SAFE entry, its context as R40 has it. -/
theorem Part.enterSafe_relieves {c : Context} (cause : Cause) (noCal : p.slot.isCal = false) (fitted : p.fitted h = true)
    (other : p.control.prod ≠ .drain) (known : p.context h = some c)
    (under : (p.entry h).state.safeRelieves = true) :
    (p.enterSafe cause).entry h = { p.entry h with
      gas := false, fast := false, fine := false, relief := true, state := .relief
      timer := .running (p.now + c.reliefTime) } ∧
    (p.enterSafe cause).context h = some (c.safeIn (p.entry h).state) := by
  obtain ⟨q, head, now, entered⟩ := Part.enterSafe_head cause noCal h
  have entry : q.entry h = p.entry h := congrArg Head.entry head
  have known' : q.context h = some c := (congrArg Head.context head).trans known
  obtain ⟨relieved, context⟩ := Part.headSafe_relieves known' (by rw [entry]; exact under)
  rw [entry, now] at relieved
  rw [entry] at context
  rw [Part.safeHead, if_pos fitted, if_neg other] at entered
  exact ⟨(congrArg Head.entry entered).trans relieved, (congrArg Head.context entered).trans context⟩

/-- A head with no container under way keeps its entry but for clean valves that SAFE entry out of DRAIN closes (R40,
R41). -/
theorem Part.enterSafe_stays (cause : Cause) (noCal : p.slot.isCal = false) (fitted : p.fitted h = true)
    (st : (p.entry h).state ∈ [HeadState.sealing, .relief, .waitDischarge, .rest, .skip, .testing, .vent]) :
    (p.enterSafe cause).context h = p.context h ∧
    (p.enterSafe cause).entry h = if p.control.prod = .drain then (p.entry h).closeClean else p.entry h := by
  obtain ⟨q, head, -, entered⟩ := Part.enterSafe_head cause noCal h
  have entry : q.entry h = p.entry h := congrArg Head.entry head
  rw [Part.safeHead, if_pos fitted, Part.headSafe_idle (by rw [entry]; exact st), entry, head] at entered
  constructor
  · rw [Part.context, entered]; split <;> rfl
  · rw [Part.entry, entered]; split <;> rfl

/-- What SAFE entry with a cause has done to the State Controller, the slot and a head. -/
def Part.EnteredSafe (p : Part) (h : HeadNo) (c : Context) (k : CalRecord) (cause : Cause) (t : Part) : Prop :=
  let e := p.entry h
  let relieved := { e with
    gas := false, fast := false, fine := false, relief := true, state := .relief
    timer := .running (p.now + c.reliefTime) }
  t.control.prod = .safe ∧ t.control.firstCause = some cause ∧ t.control.causes = addCause 0 cause ∧
  t.control.holdTimer = .stopped ∧ t.control.cleanOpened = false ∧ (∀ g, (t.diag g).mark = false) ∧
  (p.slot = .pendingCal k →
    t.slot = .finished (.calAborted .safe k.counted k.after (p.now - k.start)) ∧
    (t.entry k.head).gas = false ∧ (t.entry k.head).fast = false ∧ (t.entry k.head).fine = false) ∧
  (p.slot = .pendingTest → p.coilTest = .running → t.slot = .finished .testAborted ∧ t.coilTest = .idle) ∧
  (p.slot.isSave = true → t.slot = p.slot) ∧
  (p.fitted h = true → p.slot.isCal = false →
    (p.control.prod ≠ .drain → p.context h = some c →
      (e.state = .fillFast ∨ e.state = .fillFine → t.entry h = relieved ∧ t.context h = some { c with
        flags := addFlag c.flags .safeAbort, filling := false, openTimer := .stopped, silenceTimer := .stopped
        status := .aborted }) ∧
      (e.state = .pressurize ∨ e.state = .waitFill →
        t.entry h = relieved ∧ t.context h = some { c with flags := addFlag c.flags .safeAbort }) ∧
      (e.state = .settle → t.entry h = relieved ∧ t.context h = some { c with afterState := .discarded }) ∧
      (e.state = .waitRelief → t.entry h = relieved ∧ t.context h = some c)) ∧
    (e.state ∈ [HeadState.sealing, .relief, .waitDischarge, .rest, .skip, .testing, .vent] →
      t.context h = p.context h ∧ t.entry h = if p.control.prod = .drain then
        { e with gas := false, fast := false, fine := false, cleanWaiting := false } else e))

theorem Part.enterSafe_entered (p : Part) (h : HeadNo) (c : Context) (k : CalRecord) (cause : Cause) :
    p.EnteredSafe h c k cause (p.enterSafe cause) := by
  have control := Part.enterSafe_control p cause
  refine ⟨by rw [control], by rw [control], by rw [control], by rw [control], by rw [control], Part.enterSafe_mark cause,
    fun slot => Part.enterSafe_cal slot cause, fun slot runs => Part.enterSafe_test slot runs cause,
    fun save => Part.enterSafe_save save cause, fun fitted noCal => ⟨fun other known => ?_, fun st => ?_⟩⟩
  · have relieves := Part.enterSafe_relieves cause noCal fitted other known
    refine ⟨fun st => ?_, fun st => ?_, fun st => ?_, fun st => ?_⟩
    · rcases st with st | st <;> rw [st] at relieves <;> exact relieves rfl
    · rcases st with st | st <;> rw [st] at relieves <;> exact relieves rfl
    · rw [st] at relieves; exact relieves rfl
    · rw [st] at relieves; exact relieves rfl
  · exact Part.enterSafe_stays cause noCal fitted st

/-! ### The two ways into SAFE -/

/-- Off the heads and the slot a SAFE entry writes the State Controller alone (R157). -/
theorem Part.enterSafe_offWork (p : Part) (cause : Cause) : (p.enterSafe cause).offWork = Part.offWork { p with
    control := { p.control with
      prod := .safe, firstCause := some cause, causes := addCause 0 cause, holdTimer := .stopped
      cleanOpened := false } } := by
  have heads : ∀ q : Part, (forFitted Part.headSafe q).offWork = q.offWork :=
    fun q => Part.offWork_of_offHeads (forFitted_view _ _ (fun h r => by simp) q)
  have clean : ∀ q : Part, q.closeCleanValves.offWork = q.offWork := fun q => Part.offWork_of_offHeads (by simp)
  unfold Part.enterSafe
  dsimp only
  rw [Part.abortCal_offWork, Part.removeAllMarks_offWork]
  split
  · rw [clean, heads]
  · rw [heads]

theorem exec_enterSafe (s : State) : exec .enterSafe s =
    .next { s with part := s.part.request .enterSafe .line 0x07 takeEnterSafe } := rfl
theorem exec_lineSilenceExpiry (s : State) : exec .lineSilenceExpiry s =
    .next { s with part := lineSilenceEnd s.part } := rfl

theorem lineSilenceEnd_idle (stopped : p.lineTimer = .stopped) : lineSilenceEnd p = p := by
  simp only [lineSilenceEnd, stopped, Part.atExpiry]

/-- The part at the line silence (R161). -/
def Part.lineSilent (due : Nat) (p : Part) : Part := { p with
  now := max p.now due, lineTimer := .stopped, control := { p.control with lineQuiet := true } }

theorem lineSilenceEnd_due {due : Nat} (timer : p.lineTimer = .running due) : lineSilenceEnd p =
    if p.control.prod.barsSilence then (p.lineSilent due).raiseSafe .lineSilent else p.lineSilent due := by
  simp only [lineSilenceEnd, timer, Part.atExpiry]
  rfl

/-- Settles O46: both ways lead through the one SAFE entry. -/
theorem safeEntryActsOnEveryHead : Obligations.SafeEntryActsOnEveryHead := by
  intro s h c k due
  dsimp only
  rw [exec_enterSafe, exec_lineSilenceExpiry]
  refine ⟨fun takes => ⟨fun other => ?_, fun safe => ?_⟩, fun stopped => by rw [lineSilenceEnd_idle stopped],
    fun timer => ⟨fun quiet => ?_, fun bars => ?_⟩⟩
  · have enters : s.part.control.prod.entersSafe = true := by
      have config := takes.2.1
      cases prod : s.part.control.prod <;> simp_all [Prod.entersSafe]
    refine ⟨(s.part.crcPassed .line).enterSafe .command, ?_,
      Part.enterSafe_entered (s.part.crcPassed .line) h c k .command⟩
    rw [Part.request_accepted (change := fun q => q.raiseSafe .command) takes rfl, Part.accepts,
      Part.raiseSafe_of_entersSafe (by rw [Part.crcPassed_prod]; exact enters)]
  · have joins : takeEnterSafe (s.part.crcPassed .line) = accept { s.part.crcPassed .line with
        control := { (s.part.crcPassed .line).control with
          causes := addCause (s.part.crcPassed .line).control.causes .command } } := by
      simp only [takeEnterSafe, Part.raiseSafe, Part.crcPassed_prod, safe]
    rw [Part.request_accepted (change := fun q =>
      { q with control := { q.control with causes := addCause q.control.causes .command } }) takes joins]
  · have stays : s.part.control.prod.barsSilence = false := by
      simp only [List.mem_cons, List.not_mem_nil, or_false] at quiet
      rcases quiet with prod | prod | prod <;> rw [prod] <;> rfl
    rw [lineSilenceEnd_due timer, if_neg (by simp [stays])]
    rfl
  · have bars_ : s.part.control.prod.barsSilence = true ∧ s.part.control.prod.entersSafe = true := by
      simp only [List.mem_cons, List.not_mem_nil, or_false] at bars
      rcases bars with prod | prod | prod | prod <;> rw [prod] <;> exact ⟨rfl, rfl⟩
    have off := Part.enterSafe_offWork (s.part.lineSilent due) .lineSilent
    rw [lineSilenceEnd_due timer, if_pos bars_.1, Part.raiseSafe_of_entersSafe (by exact bars_.2)]
    refine ⟨_, rfl, ?_, ?_, Part.enterSafe_entered (s.part.lineSilent due) h c k .lineSilent⟩
    · have view := congrArg Part.lineTimer off; exact view
    · rw [Part.enterSafe_control]; rfl

end Sys2Proof.Machine
end

section
/-! Cleaning: the commands of DRAIN. -/

namespace Sys2Proof.Machine

open Sys2Proof

variable {h g : HeadNo} {p q : Part}

theorem Part.contextCount_eq_zero : p.contextCount = 0 ↔ ∀ h, p.context h = none := by
  simp [Part.contextCount, allHeads, List.length_eq_zero_iff, List.filter_eq_nil_iff]

/-- The part with given heads: what an operation on the heads alone leaves. -/
def Part.withHeads (hs : Vector Head 64) (p : Part) : Part := { p with heads := hs }

theorem Part.withHeads_control (hs : Vector Head 64) (p : Part) (f : Control → Control) :
    ({ p with control := f p.control } : Part).withHeads hs =
      { p.withHeads hs with control := f (p.withHeads hs).control } := rfl

theorem Part.clearDrainTotals_withHeads (hs : Vector Head 64) : p.clearDrainTotals.withHeads hs = p.withHeads hs := by
  simp only [Part.clearDrainTotals, Part.withHeads]

theorem Part.closeCleanValves_withHeads (hs : Vector Head 64) : p.closeCleanValves.withHeads hs = p.withHeads hs :=
  forFitted_view (Part.withHeads hs) (fun h => Part.modEntry h Entry.closeClean) (fun _ _ => rfl) p

theorem Part.openCleanAt_withHeads (hs : Vector Head 64) : (p.openCleanAt h).withHeads hs = p.withHeads hs := by
  unfold Part.openCleanAt; split
  · split <;> rfl
  · rfl

/-- CLEAN OPEN at one head (R41). -/
def Head.openClean (x : Head) : Head :=
  if x.record.stored.inService then
    if x.entry.state = .rest ∨ x.entry.state = .skip then
      { x with entry := { x.entry with gas := true, fast := true, fine := true, cleanWaiting := false } }
    else if x.entry.state = .testing then { x with entry := { x.entry with cleanWaiting := true } }
    else x
  else x

theorem Part.openCleanAt_head : (p.openCleanAt h).head h = (p.head h).openClean := by
  have entry : (p.head h).entry = p.entry h := rfl
  have record : (p.head h).record = p.record h := rfl
  have opened : ∀ f : Entry → Entry, (p.modEntry h f).head h = { p.head h with entry := f (p.entry h) } := fun f => by
    rw [Part.modEntry, Part.head_modHead, if_pos rfl]; rfl
  unfold Part.openCleanAt Head.openClean
  rw [entry, record]
  by_cases serves : (p.record h).stored.inService = true
  · rw [if_pos serves, if_pos serves]
    split
    · next st => rw [if_pos (.inl st), opened]; rfl
    · next st => rw [if_pos (.inr st), opened]; rfl
    · next st => rw [if_neg (by simp [st]), if_pos st, opened]; rfl
    · next rest skip test => rw [if_neg (not_or.mpr ⟨rest, skip⟩), if_neg test]
  · rw [if_neg serves, if_neg serves]

theorem forFitted_openClean_head (p : Part) (g : HeadNo) : (forFitted Part.openCleanAt p).head g =
    if p.fitted g = true then (p.head g).openClean else p.head g := by
  obtain ⟨q, head, -, folded⟩ := forFitted_head (fun _ _ => Part.openCleanAt_offHead) p g
  rw [folded, Part.openCleanAt_head, head]

/-! ### The tests of marked heads (R126) -/

/-- The start of the coil test of a marked head in service that rests (R39, R126). -/
def Head.beginMarked (now : Nat) (x : Head) : Head :=
  if x.record.stored.inService ∧ x.diag.mark = true ∧ x.entry.state = .rest then
    { x with entry := { x.entry with state := .testing, timer := .running (now + 20), reports := noReports } }
  else x

/-- The step of `beginMarked` at one head. -/
def Part.beginMarkedAt (h : HeadNo) (p : Part) : Part :=
  if (p.record h).stored.inService && (p.diag h).mark && (p.entry h).state == .rest && p.mayTest h then p.beginTest h
  else p

theorem Part.beginMarkedAt_head (free : p.control.prod.barsTests = false) :
    (p.beginMarkedAt h).head h = (p.head h).beginMarked p.now := by
  have asks : ((p.record h).stored.inService && (p.diag h).mark && (p.entry h).state == .rest && p.mayTest h) = true ↔
      (p.head h).record.stored.inService ∧ (p.head h).diag.mark = true ∧ (p.head h).entry.state = .rest := by
    simp only [Part.mayTest, free, Part.record, Part.diag, Part.entry, Bool.and_eq_true, Bool.or_eq_true, beq_iff_eq,
      Bool.not_false]
    tauto
  unfold Part.beginMarkedAt Head.beginMarked
  by_cases begins : (p.head h).record.stored.inService ∧ (p.head h).diag.mark = true ∧ (p.head h).entry.state = .rest
  · rw [if_pos (asks.mpr begins), if_pos begins, Part.beginTest, Part.modEntry, Part.head_modHead, if_pos rfl]; rfl
  · rw [if_neg (mt asks.mp begins), if_neg begins]

theorem Part.beginMarkedAt_offHead : (p.beginMarkedAt h).offHead h = p.offHead h := by
  unfold Part.beginMarkedAt Part.beginTest; split <;> simp

theorem Part.beginMarked_head (free : p.control.prod.barsTests = false) (g : HeadNo) : p.beginMarked.head g =
    if p.fitted g = true then (p.head g).beginMarked p.now else p.head g := by
  obtain ⟨q, head, offs, folded⟩ := forFitted_head (f := Part.beginMarkedAt) (fun _ _ => Part.beginMarkedAt_offHead) p g
  have now : q.now = p.now := by have view := congrArg Part.now offs; exact view
  have free' : q.control.prod.barsTests = false := by
    have view := congrArg (fun r : Part => r.control.prod.barsTests) offs; exact Eq.trans view free
  have folds : p.beginMarked = forFitted Part.beginMarkedAt p := rfl
  rw [folds, folded, Part.beginMarkedAt_head free', head, now]

theorem Part.beginMarked_withHeads (hs : Vector Head 64) : p.beginMarked.withHeads hs = p.withHeads hs := by
  unfold Part.beginMarked
  refine forFitted_view (Part.withHeads hs) _ (fun h q => ?_) p
  split <;> rfl

/-! ### The four commands -/

theorem exec_cleanBegin (s : State) : exec .cleanBegin s =
    .next { s with part := s.part.request .cleanBegin .line 0x0A takeCleanBegin } := rfl
theorem exec_cleanOpen (s : State) : exec .cleanOpen s =
    .next { s with part := s.part.request .cleanOpen .line 0x0B takeCleanOpen } := rfl
theorem exec_cleanClose (s : State) : exec .cleanClose s =
    .next { s with part := s.part.request .cleanClose .line 0x0C takeCleanClose } := rfl
theorem exec_cleanEnd (s : State) : exec .cleanEnd s =
    .next { s with part := s.part.request .cleanEnd .line 0x0D takeCleanEnd } := rfl

theorem takeCleanBegin_refuses (cannot : p.control.prod ≠ .standby ∨ p.contextCount ≠ 0 ∨ p.slot.isCal = true) :
    takeCleanBegin p = refusal .wrongState p := by
  unfold takeCleanBegin
  split
  · rfl
  · next standby =>
    split
    · rfl
    · next bare =>
      have cal : p.slot.isCal = true := (cannot.resolve_left standby).resolve_left bare
      rw [if_pos cal]

theorem takeCleanBegin_accepts (standby : p.control.prod = .standby) (bare : p.contextCount = 0)
    (noCal : p.slot.isCal = false) : takeCleanBegin p = accept (p.clearDrainTotals.setProd .drain) := by
  simp [takeCleanBegin, standby, bare, noCal]

theorem takeClean_refuses (other : p.control.prod ≠ .drain) : takeCleanOpen p = refusal .wrongState p ∧
    takeCleanClose p = refusal .wrongState p ∧ takeCleanEnd p = refusal .wrongState p :=
  ⟨if_pos other, if_pos other, if_pos other⟩

theorem takeClean_accepts (drain : p.control.prod = .drain) :
    takeCleanOpen p = accept (forFitted Part.openCleanAt (p.setClean true)) ∧
    takeCleanClose p = accept (p.setClean false).closeCleanValves ∧
    takeCleanEnd p = accept ((p.setClean false).closeCleanValves.setProd .standby) :=
  ⟨if_neg (not_not_intro drain), if_neg (not_not_intro drain), if_neg (not_not_intro drain)⟩

theorem Part.clearDrainTotals_head (g : HeadNo) : p.clearDrainTotals.head g =
    { p.head g with record := { p.record g with drainPulses := 0 } } := by
  simp [Part.clearDrainTotals, Part.head, Part.record]

/-- From STANDBY no test begins with the change to DRAIN (R126). -/
theorem Part.setProd_drain (standby : p.control.prod = .standby) : p.setProd .drain =
    { p with control := { p.control with prod := .drain, cleanOpened := false } } := by
  have free : (p.control.prod.barsTests && !Prod.drain.barsTests) = false := by rw [standby]; rfl
  unfold Part.setProd
  dsimp only
  rw [free]
  rfl

theorem Part.setProd_standby (drain : p.control.prod = .drain) : p.setProd .standby =
    Part.beginMarked { p with control := { p.control with prod := .standby, cleanOpened := false } } := by
  have leaves : (p.control.prod.barsTests && !Prod.standby.barsTests) = true := by rw [drain]; rfl
  unfold Part.setProd
  dsimp only
  rw [leaves]
  rfl

/-- Settles O47: each command is one pass over the heads. -/
theorem cleaningOpensAndClosesTheValves : Obligations.CleaningOpensAndClosesTheValves := by
  intro s
  dsimp only
  intro takes
  rw [exec_cleanBegin, exec_cleanOpen, exec_cleanClose, exec_cleanEnd]
  have heads : ∀ h, (s.part.crcPassed .line).head h = s.part.head h := fun h => rfl
  have prod : (s.part.crcPassed .line).control.prod = s.part.control.prod := rfl
  have count : (s.part.crcPassed .line).contextCount = 0 ↔ ∀ h, s.part.context h = none := Part.contextCount_eq_zero
  refine ⟨fun cannot => ?_, fun standby bare noCal => ?_, fun other => ?_, fun drain => ?_⟩
  · rw [Part.request_refused takes (takeCleanBegin_refuses (p := s.part.crcPassed .line)
      (cannot.imp_right (Or.imp_left fun full => mt count.mp full)))]
  · have taken := takeCleanBegin_accepts (p := s.part.crcPassed .line) standby (count.mpr bare) noCal
    rw [Part.request_accepted (change := fun q => q.clearDrainTotals.setProd .drain) takes taken]
    refine ⟨(s.part.crcPassed .line).clearDrainTotals.setProd .drain, rfl, ?_, fun h => ?_⟩
    · rw [Part.setProd_drain (p := (s.part.crcPassed .line).clearDrainTotals) standby]
      refine (Part.withHeads_control _ _ fun c => { c with prod := .drain, cleanOpened := false }).trans ?_
      rw [Part.clearDrainTotals_withHeads]
      rfl
    · rw [Part.setProd_drain (p := (s.part.crcPassed .line).clearDrainTotals) standby]
      exact Part.clearDrainTotals_head (p := s.part.crcPassed .line) h
  · obtain ⟨opens, closes, ends⟩ := takeClean_refuses (p := s.part.crcPassed .line) other
    rw [Part.request_refused takes opens, Part.request_refused takes closes, Part.request_refused takes ends]
    exact ⟨rfl, rfl, rfl⟩
  · obtain ⟨opens, closes, ends⟩ := takeClean_accepts (p := s.part.crcPassed .line) drain
    rw [Part.request_accepted (change := fun q => forFitted Part.openCleanAt (q.setClean true)) takes opens,
      Part.request_accepted (change := fun q => (q.setClean false).closeCleanValves) takes closes,
      Part.request_accepted (change := fun q => (q.setClean false).closeCleanValves.setProd .standby) takes ends]
    have closed := Part.closeCleanValves_head ((s.part.crcPassed .line).setClean false)
    have standby := Part.setProd_standby (p := ((s.part.crcPassed .line).setClean false).closeCleanValves) (by
      have view := congrArg (fun q : Part => q.control.prod)
        ((s.part.crcPassed .line).setClean false).closeCleanValves_offHeads
      exact Eq.trans view drain)
    refine ⟨⟨_, rfl, ?_, fun h => ?_⟩, ⟨_, rfl, ?_, fun h => ?_⟩,
      ⟨((s.part.crcPassed .line).setClean false).closeCleanValves.setProd .standby, rfl, ?_, fun h => ?_⟩⟩
    · refine (forFitted_view (Part.withHeads s.part.heads) _ (fun _ _ => Part.openCleanAt_withHeads _) _).trans ?_
      rw [← drain]; rfl
    · rw [forFitted_openClean_head]
      simp only [Bool.and_eq_true, ite_and]
      rfl
    · refine (Part.closeCleanValves_withHeads s.part.heads).trans ?_
      rw [← drain]; rfl
    · rw [Part.closeCleanValves_head]; rfl
    · rw [standby]
      refine (Part.beginMarked_withHeads s.part.heads).trans ?_
      refine (Part.withHeads_control _ _ fun c => { c with prod := .standby, cleanOpened := false }).trans ?_
      rw [Part.closeCleanValves_withHeads]
      rfl
    · rw [standby, Part.beginMarked_head rfl]
      generalize shut : ((s.part.crcPassed .line).setClean false).closeCleanValves = q at closed
      have offs : q.offHeads = ((s.part.crcPassed .line).setClean false).offHeads := by
        rw [← shut]; exact Part.closeCleanValves_offHeads _
      have now : q.now = s.part.now := by have view := congrArg Part.now offs; exact view
      have fits : q.fitted h = s.part.fitted h := by
        have view := congrArg (fun r : Part => r.machine.fitted.getLsbD h) offs; exact view
      have head : ∀ c : Control, ({ q with control := c } : Part).head h = q.head h := fun _ => rfl
      have fits' : ∀ c : Control, ({ q with control := c } : Part).fitted h = q.fitted h := fun _ => rfl
      rw [head, fits', fits, closed, show ∀ c : Control, ({ q with control := c } : Part).now = q.now from fun _ => rfl,
        now]
      by_cases fitted : s.part.fitted h = true
      · have fitted' : ((s.part.crcPassed .line).setClean false).fitted h = true := fitted
        rw [if_pos fitted, if_pos fitted, if_pos fitted']
        rfl
      · have fitted' : ¬ ((s.part.crcPassed .line).setClean false).fitted h = true := fitted
        rw [if_neg fitted, if_neg fitted, if_neg fitted']
        rfl

end Sys2Proof.Machine
end

section
/-! Coil reports: the detection, what the Sequencer does with a report by the state of the head, and the end of a vent. -/

namespace Sys2Proof.Machine

open Sys2Proof

variable {h : HeadNo} {p q : Part}

/-! ### The detection of a coil report (R117) -/

/-- What a coil report of a valve leaves in the table of its head (R114, R117, R120). -/
structure Part.CoilFound (p : Part) (h : HeadNo) (v : Valve) (f : CoilFault) (t : Part) : Prop where
  live : (t.diag h).isLive (coilKind f) = true
  openDetail : (t.diag h).openDetail =
    if f = .openLoad then withBit (p.diag h).openDetail (valveBit v) else (p.diag h).openDetail
  shortDetail : (t.diag h).shortDetail =
    if f = .short then withBit (p.diag h).shortDetail (valveBit v) else (p.diag h).shortDetail
  held : (p.diag h).isLive (coilKind f) = false → (t.diag h).isHeld (coilKind f) = true
  record : t.record h = p.rungAfter h (coilKind f)

theorem coilKind_ne (f : CoilFault) : coilKind f ≠ .rateDeviation := by cases f <;> decide

@[simp] theorem Diag.isLive_addDetail (f : CoilFault) (v : Valve) (d : Diag) (k : FaultKind) :
    (d.addDetail f v).isLive k = d.isLive k := by cases f <;> rfl

theorem Part.coilDetect_diag (f : CoilFault) (v : Valve) : (p.coilDetect h f v).diag h =
    if (p.diag h).isLive (coilKind f) then (p.diag h).addDetail f v
    else (((p.diag h).addDetail f v).raise (coilKind f)).moved (p.record h) (p.rungAfter h (coilKind f)) := by
  have detailed : (p.modDiag h (Diag.addDetail f v)).diag h = (p.diag h).addDetail f v := by
    rw [Part.diag_modDiag, if_pos rfl]
  have rung : (p.modDiag h (Diag.addDetail f v)).rungAfter h (coilKind f) = p.rungAfter h (coilKind f) :=
    Part.rungAfter_eq rfl rfl (by simp) (by rw [detailed, Diag.isLive_addDetail])
  rw [Part.coilDetect, Part.diag_detect, detailed, rung, Part.record_modDiag, Diag.isLive_addDetail]

theorem Part.coilDetect_record (f : CoilFault) (v : Valve) :
    (p.coilDetect h f v).record h = p.rungAfter h (coilKind f) := by
  rw [Part.coilDetect, Part.record_detect]
  refine Part.rungAfter_eq rfl rfl (by simp) ?_
  rw [Part.diag_modDiag, if_pos rfl, Diag.isLive_addDetail]

theorem Part.coilDetect_found (v : Valve) (f : CoilFault) : p.CoilFound h v f (p.coilDetect h f v) := by
  have details : ∀ d : Diag, (d.addDetail f v).openDetail =
      (if f = .openLoad then withBit d.openDetail (valveBit v) else d.openDetail) ∧ (d.addDetail f v).shortDetail =
      (if f = .short then withBit d.shortDetail (valveBit v) else d.shortDetail) := fun d => by
    cases f <;> exact ⟨rfl, rfl⟩
  refine ⟨Part.detect_isLive (coilKind_ne f), ?_, ?_, fun rises => ?_, Part.coilDetect_record f v⟩
  · rw [← (details _).1, Part.coilDetect_diag]; split
    · rfl
    · rw [Diag.openDetail_moved]; rfl
  · rw [← (details _).2, Part.coilDetect_diag]; split
    · rfl
    · rw [Diag.shortDetail_moved]; rfl
  · rw [Part.coilDetect_diag, if_neg (by simp [rises]), Diag.isHeld_moved, Diag.isHeld_raise]; simp

/-- The detection reads the table of the head, the machine configuration and the active recipe alone. -/
theorem Part.CoilFound.of_table {v : Valve} {f : CoilFault} {t : Part} (found : q.CoilFound h v f t)
    (machine : q.machine = p.machine) (recipe : q.activeRecipe = p.activeRecipe) (diag : q.diag h = p.diag h)
    (record : q.record h = p.record h) : p.CoilFound h v f t where
  live := found.live
  openDetail := by rw [← diag]; exact found.openDetail
  shortDetail := by rw [← diag]; exact found.shortDetail
  held := by rw [← diag]; exact found.held
  record := found.record.trans (Part.rungAfter_eq machine recipe record (by rw [diag]))

/-! ### The head at a coil report (R37, R38, R41) -/

theorem Part.coilReportAt_lose {v : Valve}
    (st : (p.entry h).state ∈ [HeadState.pressurize, .waitFill, .fillFast, .fillFine]) (liquid : v ≠ .relief)
    (opened : (p.entry h).isOpen v = true) : p.coilReportAt h v = p.lose h .valveFault := by
  simp only [List.mem_cons, List.not_mem_nil, or_false] at st
  rcases st with st | st | st | st <;> simp only [Part.coilReportAt, st, liquid, opened, ne_eq, not_false_eq_true,
    and_self, if_true]

theorem Part.coilReportAt_shut {v : Valve}
    (st : (p.entry h).state ∈ [HeadState.pressurize, .waitFill, .fillFast, .fillFine])
    (other : v = .relief ∨ (p.entry h).isOpen v = false) : p.coilReportAt h v = p := by
  have shut : ¬ (v ≠ .relief ∧ (p.entry h).isOpen v = true) := fun ⟨liquid, opened⟩ => by
    simp [opened, liquid] at other
  simp only [List.mem_cons, List.not_mem_nil, or_false] at st
  rcases st with st | st | st | st <;> simp only [Part.coilReportAt, st, shut, if_false]

theorem Part.coilReportAt_relief {v : Valve} (st : (p.entry h).state = .relief) : p.coilReportAt h v =
    if v = .relief then
      p.modHead h fun x => { x with entry := { p.entry h with relief := false, timer := .stopped, state := .waitDischarge } }
    else p := by
  simp only [Part.coilReportAt, st]
  split
  · rw [Part.modEntry_eq]
  · rfl

theorem Part.coilReportAt_vent {v : Valve} (st : (p.entry h).state = .vent) : p.coilReportAt h v =
    if v = .relief then p.ventEnd h else p := by
  simp only [Part.coilReportAt, st]
  rfl

theorem Part.coilReportAt_rest {v : Valve} (st : (p.entry h).state = .rest ∨ (p.entry h).state = .skip) :
    p.coilReportAt h v = if p.control.prod = .drain ∧ v ≠ .relief then p.modHead h fun x => { x with
      entry := (p.entry h).withdraw v } else p := by
  have taken : p.coilReportAt h v =
      if p.control.prod = .drain ∧ v ≠ .relief then p.modEntry h (Entry.withdraw v) else p := by
    rcases st with st | st <;> simp only [Part.coilReportAt, st]
  rw [taken, Part.modEntry_eq]

theorem Part.coilReportAt_idle {v : Valve}
    (st : (p.entry h).state ∈ [HeadState.testing, .sealing, .settle, .waitRelief, .waitDischarge]) :
    p.coilReportAt h v = p := by
  simp only [List.mem_cons, List.not_mem_nil, or_false] at st
  rcases st with st | st | st | st | st <;> simp only [Part.coilReportAt, st]

/-- A container lost to a valve leaves the table of its head alone (R37). -/
theorem Part.lose_table {f : ContainerFlag} (other : f ≠ .sealLost) (phase : (p.entry h).state ≠ .settle) :
    (p.lose h f).diag h = p.diag h ∧ (p.lose h f).record h = p.record h := by
  rw [Part.lose_eq, if_neg other, Part.diag_openRelief, Part.record_openRelief, (Part.table_cutPhase phase).1,
    (Part.table_cutPhase phase).2]
  exact ⟨Part.diag_addContextFlag h f, Part.record_addContextFlag h f⟩

/-- Out of the end of a vent the report touches one head, and its table not at all. -/
theorem Part.coilReportAt_table {v : Valve} (away : (p.entry h).state ≠ .vent ∨ v ≠ .relief) :
    (p.coilReportAt h v).offHead h = p.offHead h ∧ (p.coilReportAt h v).diag h = p.diag h ∧
      (p.coilReportAt h v).record h = p.record h := by
  have changed : ∀ e : Entry, (p.modHead h fun x => { x with entry := e }).offHead h = p.offHead h ∧
      (p.modHead h fun x => { x with entry := e }).diag h = p.diag h ∧
      (p.modHead h fun x => { x with entry := e }).record h = p.record h := fun e =>
    ⟨Part.modHead_offHead h _ p, by rw [Part.diag, Part.head_modHead, if_pos rfl]; rfl,
      by rw [Part.record, Part.head_modHead, if_pos rfl]; rfl⟩
  cases st : (p.entry h).state
  case pressurize | waitFill | fillFast | fillFine =>
    by_cases lost : v ≠ .relief ∧ (p.entry h).isOpen v = true
    · rw [Part.coilReportAt_lose (by simp [st]) lost.1 lost.2]
      exact ⟨Part.lose_offHead _, Part.lose_table (by decide) (by simp [st])⟩
    · rw [Part.coilReportAt_shut (by simp [st]) (by by_cases relief : v = .relief <;> simp_all)]
      exact ⟨rfl, rfl, rfl⟩
  case relief =>
    rw [Part.coilReportAt_relief st]; split
    · exact changed _
    · exact ⟨rfl, rfl, rfl⟩
  case vent =>
    rw [Part.coilReportAt_vent st, if_neg (away.resolve_left (not_not_intro st))]
    exact ⟨rfl, rfl, rfl⟩
  case rest =>
    rw [Part.coilReportAt_rest (.inl st)]; split
    · exact changed _
    · exact ⟨rfl, rfl, rfl⟩
  case skip =>
    rw [Part.coilReportAt_rest (.inr st)]; split
    · exact changed _
    · exact ⟨rfl, rfl, rfl⟩
  all_goals
    rw [Part.coilReportAt_idle (by simp [st])]
    exact ⟨rfl, rfl, rfl⟩

end Sys2Proof.Machine
end

section
/-! The end of a vent by a coil report, and the statement about coil reports. -/

namespace Sys2Proof.Machine

open Sys2Proof

variable {h : HeadNo} {p q : Part}

/-! ### The end of a vent (R42, R151) -/

/-- A vent that has ended, before the sweep is judged (R42). -/
def Part.ventClosed (h : HeadNo) (p : Part) : Part := p.modHead h fun x => { x with
  entry := { p.entry h with relief := false, timer := .stopped, state := .rest } }

/-- A head is the last of the vent sweep: the part is in CONFIG and runs, and no other head vents (R42). -/
def Part.lastVent (p : Part) (h : HeadNo) : Prop :=
  p.control.prod = .config ∧ p.phase = .running ∧ ∀ g, g ≠ h → (p.entry g).state ≠ .vent

/-- The part behind the sweep: STANDBY, with the line silence timer started (R151). -/
def Part.swept (h : HeadNo) (p : Part) : Part := { p.ventClosed h with
  control := { p.control with prod := .standby, cleanOpened := false }
  lineTimer := .running (p.now + p.machine.lineSilence) }

theorem Part.ventEnd_eq : p.ventEnd h = (p.ventClosed h).checkSweep := by
  rw [Part.ventEnd, Part.modEntry_eq]; rfl

theorem Part.ventClosed_entry (g : HeadNo) : (p.ventClosed h).entry g = if g = h then
    { p.entry h with relief := false, timer := .stopped, state := .rest } else p.entry g := by
  rw [Part.ventClosed, Part.entry, Part.head_modHead]; split <;> rfl

theorem Part.ventClosed_diag (g : HeadNo) : (p.ventClosed h).diag g = p.diag g := by
  rw [Part.ventClosed, Part.diag, Part.head_modHead]; split
  · next same => rw [same]; rfl
  · rfl

theorem Part.ventEnd_of_more (more : ¬ p.lastVent h) : p.ventEnd h = p.ventClosed h := by
  rw [Part.ventEnd_eq, Part.checkSweep_idle]
  by_contra done
  simp only [not_or, ne_eq, not_not, not_exists] at done
  obtain ⟨config, running, none_⟩ := done
  refine more ⟨config, running, fun g other vents => none_ g ?_⟩
  rw [Part.ventClosed_entry, if_neg other]; exact vents

theorem Part.ventEnd_of_last (last : p.lastVent h) : p.ventEnd h = (p.ventClosed h).sweepDone := by
  obtain ⟨config, running, none_⟩ := last
  rw [Part.ventEnd_eq, Part.checkSweep_done (p := p.ventClosed h) config running]
  intro g
  rw [Part.ventClosed_entry]; split
  · exact fun vents => by cases vents
  · next other => exact none_ g other

theorem Part.ventEnd_of_answering (last : p.lastVent h) (unmarked : ∀ g, (p.diag g).mark = false)
    (answering : p.anySilent = false) : p.ventEnd h = p.swept h := by
  have answering' : (p.ventClosed h).anySilent = false := answering
  rw [Part.ventEnd_of_last last, Part.sweepDone_of_answering (fun g => by rw [Part.ventClosed_diag]; exact unmarked g)
    answering']
  rfl

theorem Part.ventEnd_of_silent (last : p.lastVent h) (unmarked : ∀ g, (p.diag g).mark = false)
    (silent : p.anySilent = true) : p.ventEnd h = (p.swept h).enterSafe .headBus := by
  have raises : (p.ventClosed h).sweepDone =
      if (p.swept h).anySilent then (p.swept h).raiseSafe .headBus else p.swept h := by
    unfold Part.sweepDone
    rw [Part.setProd_of_unmarked fun g => by rw [Part.ventClosed_diag]; exact unmarked g]
    rfl
  have silent' : (p.swept h).anySilent = true := silent
  rw [Part.ventEnd_of_last last, raises, if_pos silent', Part.raiseSafe_of_entersSafe rfl]

/-- At the head of the vent SAFE entry finds nothing to do (R40). -/
theorem Part.enterSafe_swept_head (noCal : p.slot.isCal = false) (unmarked : ∀ g, (p.diag g).mark = false)
    (cause : Cause) : ((p.swept h).enterSafe cause).head h = (p.ventClosed h).head h := by
  obtain ⟨q, head, -, entered⟩ := Part.enterSafe_head (p := p.swept h) cause noCal h
  have state : (q.entry h).state = .rest := by
    have entry : q.entry h = (p.ventClosed h).entry h := congrArg Head.entry head
    rw [entry, Part.ventClosed_entry, if_pos rfl]
  have mark : ((p.ventClosed h).head h).diag.mark = false := by
    have view : ((p.ventClosed h).head h).diag = p.diag h := Part.ventClosed_diag h
    rw [view]; exact unmarked h
  have swept : (p.swept h).head h = (p.ventClosed h).head h := rfl
  rw [entered, Part.safeHead, Part.headSafe_idle (by simp [state]), head, swept]
  simp only [show (p.swept h).control.prod = .standby from rfl, reduceCtorEq, if_false, ite_self]
  rw [Head.unmarked, ← mark]

theorem Part.ventEnd_activeSlot (unmarked : ∀ g, (p.diag g).mark = false) :
    (p.ventEnd h).control.activeSlot = p.control.activeSlot := by
  by_cases last : p.lastVent h
  · cases silent : p.anySilent with
    | false => rw [Part.ventEnd_of_answering last unmarked silent]; rfl
    | true => rw [Part.ventEnd_of_silent last unmarked silent, Part.enterSafe_control]; rfl
  · rw [Part.ventEnd_of_more last]; rfl

theorem Part.ventEnd_head (noCal : p.slot.isCal = false) (unmarked : ∀ g, (p.diag g).mark = false) :
    (p.ventEnd h).head h = (p.ventClosed h).head h := by
  by_cases last : p.lastVent h
  · cases silent : p.anySilent with
    | false => rw [Part.ventEnd_of_answering last unmarked silent]; rfl
    | true => rw [Part.ventEnd_of_silent last unmarked silent, Part.enterSafe_swept_head noCal unmarked]
  · rw [Part.ventEnd_of_more last]

/-! ### Reports of a head -/

theorem Part.machine_of_offCycle (e : q.offCycle = p.offCycle) : q.machine = p.machine := by
  have view := congrArg Part.machine e; exact view
theorem Part.recipes_of_offCycle (e : q.offCycle = p.offCycle) : q.recipes = p.recipes := by
  have view := congrArg Part.recipes e; exact view
theorem Part.modules_of_offCycle (e : q.offCycle = p.offCycle) : q.modules = p.modules := by
  have view := congrArg Part.modules e; exact view

theorem exec_coilReport (v : Valve) (f : CoilFault) (s : State) : exec (.coilReport h v f) s =
    .next { s with part := s.part.busArrival h (Part.coilReport h v f) } := rfl

theorem Part.coilReportCal_away {v : Valve}
    (away : p.calOn h = none ∨ v = .relief ∨ (p.entry h).isOpen v = false) : p.coilReportCal h v = p := by
  unfold Part.coilReportCal
  split
  · next held =>
    have free : p.calOn h = none := away.resolve_right (not_or.mpr ⟨held.1, by simp [held.2]⟩)
    unfold Part.abortCalOn
    rw [free]; rfl
  · rfl

/-- A report on a valve that a CAL DOSE holds open ends the dose first (R183). -/
theorem Part.coilReportCal_ends {v : Valve} {k : CalRecord} (cal : p.calOn h = some k) (liquid : v ≠ .relief)
    (opened : (p.entry h).isOpen v = true) : p.coilReportCal h v = { p.modHead h fun x => { x with
      entry := { p.entry h with gas := false, fast := false, fine := false } } with
        slot := .finished (.calAborted .coil k.counted k.after (p.now - k.start)) } := by
  have pending : p.slot = .pendingCal k ∧ k.head = h := by
    unfold Part.calOn at cal
    split at cal
    · next c slot =>
      split at cal
      · next on => cases cal; exact ⟨slot, on⟩
      · cases cal
    · cases cal
  obtain ⟨slot, rfl⟩ := pending
  rw [Part.coilReportCal, if_pos ⟨liquid, opened⟩, Part.abortCalOn, cal, if_pos Option.isSome_some,
    Part.abortCal_of_pending slot]
  rfl

/-- A report that ends no vent: the detection, and one head touched (R37, R38, R117). -/
theorem Part.coilReport_away {v : Valve} (f : CoilFault)
    (free : p.calOn h = none ∨ v = .relief ∨ (p.entry h).isOpen v = false)
    (away : (p.entry h).state ≠ .vent ∨ v ≠ .relief) :
    p.CoilFound h v f (p.coilReport h v f) ∧ (p.coilReport h v f).offHead h = p.offHead h ∧
    (p.coilReport h v f).entry h = (p.coilReportAt h v).entry h ∧
    (p.coilReport h v f).context h = (p.coilReportAt h v).context h := by
  have taken : p.coilReport h v f = (p.coilReportAt h v).coilDetect h f v := by
    rw [Part.coilReport, Part.coilReportCal_away free]
  obtain ⟨off, diag, record⟩ := Part.coilReportAt_table (p := p) (h := h) away
  rw [taken, Part.entry_coilDetect, Part.context_coilDetect]
  refine ⟨(Part.coilDetect_found v f).of_table ?_ ?_ diag record, (Part.coilDetect_offHead h _ f v).trans off, rfl, rfl⟩
  · have view := congrArg Part.machine (Part.offHeads_of_offHead off); exact view
  · have view := congrArg Part.activeRecipe (Part.offHeads_of_offHead off); exact view

/-- A report on the relief valve of a vent: the detection behind the end of the vent (R42). -/
theorem Part.coilReport_vent (f : CoilFault) (st : (p.entry h).state = .vent) (noCal : p.slot.isCal = false)
    (unmarked : ∀ g, (p.diag g).mark = false) : p.CoilFound h .relief f (p.coilReport h .relief f) ∧
    (p.coilReport h .relief f).entry h = { p.entry h with relief := false, timer := .stopped, state := .rest } ∧
    (p.coilReport h .relief f).context h = p.context h ∧
    (p.coilReport h .relief f).offHead h = (p.ventEnd h).offHead h ∧
    (p.coilReport h .relief f).modules = p.modules := by
  have taken : p.coilReport h .relief f = (p.ventEnd h).coilDetect h f .relief := by
    rw [Part.coilReport, Part.coilReportCal_away (.inr (.inl rfl)), Part.coilReportAt_vent st, if_pos rfl]
  have head := Part.ventEnd_head (h := h) noCal unmarked
  have off := Part.coilDetect_offHead h (p.ventEnd h) f .relief
  have cycle := Part.ventEnd_offCycle (h := h) (p := p)
  have machine : (p.ventEnd h).machine = p.machine := Part.machine_of_offCycle cycle
  have recipes : (p.ventEnd h).recipes = p.recipes := Part.recipes_of_offCycle cycle
  have modules : (p.ventEnd h).modules = p.modules := Part.modules_of_offCycle cycle
  have recipe : (p.ventEnd h).activeRecipe = p.activeRecipe := by
    unfold Part.activeRecipe; rw [recipes, Part.ventEnd_activeSlot unmarked]
  have closed : (p.ventClosed h).head h = { p.head h with
      entry := { p.entry h with relief := false, timer := .stopped, state := .rest } } := by
    rw [Part.ventClosed, Part.head_modHead, if_pos rfl]
  rw [closed] at head
  rw [taken, Part.entry_coilDetect, Part.context_coilDetect]
  refine ⟨(Part.coilDetect_found _ f).of_table machine recipe ?_ ?_, ?_, ?_, off, ?_⟩
  · have view := congrArg Head.diag head; exact view
  · have view := congrArg Head.record head; exact view
  · have view := congrArg Head.entry head; exact view
  · have view := congrArg Head.context head; exact view
  · have view := congrArg Part.modules (Part.offHeads_of_offHead off); exact Eq.trans view modules

end Sys2Proof.Machine
end

section
/-! The statement about coil reports. -/

namespace Sys2Proof.Machine

open Sys2Proof

variable {h : HeadNo} {p q : Part}

theorem Part.lineTimer_of_offWork (e : q.offWork = p.offWork) : q.lineTimer = p.lineTimer := by
  have view := congrArg Part.lineTimer e; exact view

/-- The answer of a module and the end of a CAL DOSE touch different parts of the state. -/
theorem Part.coilReportCal_moduleAnswers {v : Valve} {k : CalRecord} (m : ModuleNo) (cal : p.calOn h = some k)
    (liquid : v ≠ .relief) (opened : (p.entry h).isOpen v = true) :
    let ended := { p.modHead h fun x => { x with
      entry := { p.entry h with gas := false, fast := false, fine := false } } with
        slot := .finished (.calAborted .coil k.counted k.after (p.now - k.start)) }
    (p.moduleAnswers m).coilReportCal h v = (ended.moduleAnswers m).coilReportCal h v := by
  dsimp only
  generalize after : ({ p.modHead h fun x => { x with
    entry := { p.entry h with gas := false, fast := false, fine := false } } with
      slot := .finished (.calAborted .coil k.counted k.after (p.now - k.start)) } : Part) = ended
  have shut : (ended.entry h).isOpen v = false := by
    have entry : ended.entry h = { p.entry h with gas := false, fast := false, fine := false } := by
      have written : ∀ (r : Part) (sl : Slot), ({ r with slot := sl } : Part).entry h = r.entry h := fun _ _ => rfl
      rw [← after, written, Part.entry, Part.head_modHead, if_pos rfl]
    rw [entry]
    cases v
    case relief => exact absurd rfl liquid
    all_goals rfl
  rw [Part.coilReportCal_ends (p := p.moduleAnswers m) (by simpa using cal) liquid (by simpa using opened),
    Part.coilReportCal_away (p := ended.moduleAnswers m) (.inr (.inr (by simpa using shut))), Part.entry_moduleAnswers,
    Part.moduleAnswers_now, ← after]
  unfold Part.moduleAnswers
  by_cases watched : p.phase = .running ∧ p.watched m = true
  · rw [if_pos watched, if_pos (by exact watched)]; rfl
  · rw [if_neg watched, if_neg (by exact watched)]

/-- Settles O35: the report is a detection behind what the Sequencer makes of it, and a CAL DOSE ends before both. -/
theorem coilReportsAreDetections : Obligations.CoilReportsAreDetections := by
  intro s h v f c k
  dsimp only
  intro on
  rw [exec_coilReport]
  have finds : ∀ t : Part, (s.part.moduleAnswers (moduleOf h)).CoilFound h v f t →
      t.modules = (s.part.moduleAnswers (moduleOf h)).modules → t.modules = (s.part.moduleAnswers (moduleOf h)).modules ∧
      (t.diag h).isLive (coilKind f) = true ∧ (t.diag h).openDetail =
        (if f = .openLoad then withBit (s.part.diag h).openDetail (valveBit v) else (s.part.diag h).openDetail) ∧
      (t.diag h).shortDetail =
        (if f = .short then withBit (s.part.diag h).shortDetail (valveBit v) else (s.part.diag h).shortDetail) ∧
      ((s.part.diag h).isLive (coilKind f) = false → (t.diag h).isHeld (coilKind f) = true) ∧
      t.record h = s.part.rungAfter h (coilKind f) := fun t found modules => by
    obtain ⟨ms, answered⟩ := Part.moduleAnswers_eq (p := s.part) (moduleOf h)
    have found' : s.part.CoilFound h v f t := found.of_table (by rw [answered]) (by rw [answered]; rfl)
      (Part.diag_moduleAnswers _ h) (Part.record_moduleAnswers _ h)
    exact ⟨modules, found'.live, found'.openDetail, found'.shortDetail, found'.held, found'.record⟩
  refine ⟨fun out => ?_, fun fitted cal liquid opened => ?_, fun fitted free away => ?_,
    fun fitted st relief unmarked noCal => ?_⟩
  · rw [Part.busArrival_unfitted on out]
  · rw [exec_coilReport, Part.busArrival_taken on fitted, Part.busArrival_taken (by exact on) (by exact fitted),
      Part.coilReport, Part.coilReportCal_moduleAnswers (moduleOf h) cal liquid opened]
    rfl
  · rw [Part.busArrival_taken on fitted]
    have entry := Part.entry_moduleAnswers (p := s.part) (moduleOf h) h
    have context := Part.context_moduleAnswers (p := s.part) (moduleOf h) h
    have now := Part.moduleAnswers_now (p := s.part) (moduleOf h)
    have prod := congrArg Control.prod (Part.moduleAnswers_control (p := s.part) (moduleOf h))
    have slot := Part.moduleAnswers_slot (p := s.part) (moduleOf h)
    have heads := Part.head_moduleAnswers (p := s.part) (moduleOf h)
    have cal := Part.calOn_moduleAnswers (p := s.part) (moduleOf h) h
    generalize s.part.moduleAnswers (moduleOf h) = q at *
    obtain ⟨found, off, entry', context'⟩ := Part.coilReport_away f (by rw [cal, entry]; exact free) (by rw [entry]; exact away)
    have modules : (q.coilReport h v f).modules = q.modules := by
      have view := congrArg Part.modules (Part.offHeads_of_offHead off); exact view
    have slot' : (q.coilReport h v f).slot = q.slot := by
      have view := congrArg Part.slot (Part.offHeads_of_offHead off); exact view
    have stays : q.coilReportAt h v = q → (q.coilReport h v f).entry h = s.part.entry h ∧
        (q.coilReport h v f).context h = s.part.context h := fun same => by
      rw [entry', context', same]; exact ⟨entry, context⟩
    have changes : ∀ e : Entry, q.coilReportAt h v = q.modHead h (fun x => { x with entry := e }) →
        (q.coilReport h v f).entry h = e ∧ (q.coilReport h v f).context h = s.part.context h := fun e changed => by
      rw [entry', context', changed]
      have head : (q.modHead h fun x => { x with entry := e }).head h = { q.head h with entry := e } := by
        rw [Part.head_modHead, if_pos rfl]
      exact ⟨congrArg Head.entry head, (congrArg Head.context head).trans context⟩
    refine ⟨_, rfl, finds _ found modules, slot'.trans slot,
      fun g other => (Part.head_of_offHead off other).trans (heads g), fun known st liquid opened => ?_,
      fun st relief => ?_, fun st shut => ?_, fun st liquid => ?_, fun st => ?_, fun st drain liquid => ?_,
      fun st other => ?_⟩
    · have lost := Part.coilReportAt_lose (p := q) (h := h) (by rw [entry]; exact st) liquid (by rw [entry]; exact opened)
      have settle : (s.part.entry h).state ≠ .settle := by
        intro settles; simp [settles] at st
      rw [entry', context', lost, Part.entry_lose (context.trans known), Part.context_lose (context.trans known), entry, now]
      refine ⟨rfl, congrArg some ?_⟩
      unfold Context.lostIn
      simp only [settle, if_false]
    · rw [← entry]
      exact changes _ ((Part.coilReportAt_relief (by rw [entry]; exact st)).trans (if_pos relief))
    · exact stays (Part.coilReportAt_shut (by rw [entry]; exact st) (by rw [entry]; exact shut))
    · exact stays ((Part.coilReportAt_relief (by rw [entry]; exact st)).trans (if_neg liquid))
    · by_cases vents : (s.part.entry h).state = .vent
      · exact stays ((Part.coilReportAt_vent (by rw [entry]; exact vents)).trans
          (if_neg (away.resolve_left (not_not_intro vents))))
      · refine stays (Part.coilReportAt_idle ?_)
        rw [entry]; simpa [vents] using st
    · rw [← entry]
      exact changes _ ((Part.coilReportAt_rest (by rw [entry]; exact st)).trans (if_pos ⟨prod.trans drain, liquid⟩))
    · refine stays ((Part.coilReportAt_rest (by rw [entry]; exact st)).trans (if_neg fun ⟨drain, liquid⟩ => ?_))
      exact other.elim (fun away => away (prod.symm.trans drain)) liquid
  · rw [Part.busArrival_taken on fitted, relief]
    rw [relief] at finds
    have entries := Part.entry_moduleAnswers (p := s.part) (moduleOf h)
    have context := Part.context_moduleAnswers (p := s.part) (moduleOf h) h
    have diags := Part.diag_moduleAnswers (p := s.part) (moduleOf h)
    have heads := Part.head_moduleAnswers (p := s.part) (moduleOf h)
    have control := Part.moduleAnswers_control (p := s.part) (moduleOf h)
    have phase := Part.moduleAnswers_phase (p := s.part) (moduleOf h)
    have slot := Part.moduleAnswers_slot (p := s.part) (moduleOf h)
    have now := Part.moduleAnswers_now (p := s.part) (moduleOf h)
    have silence := congrArg (fun m : MachineConfig => m.lineSilence) (Part.moduleAnswers_machine (p := s.part) (moduleOf h))
    have timer : (s.part.moduleAnswers (moduleOf h)).lineTimer = s.part.lineTimer := by
      obtain ⟨ms, answered⟩ := Part.moduleAnswers_eq (p := s.part) (moduleOf h); rw [answered]
    generalize s.part.moduleAnswers (moduleOf h) = q at *
    have unmarked' : ∀ g, (q.diag g).mark = false := fun g => by rw [diags]; exact unmarked g
    obtain ⟨found, entry, context', off, modules⟩ := Part.coilReport_vent (p := q) (h := h) f (by rw [entries]; exact st)
      (by rw [slot]; exact noCal) unmarked'
    have isLast : q.lastVent h ↔
        s.part.control.prod = .config ∧ s.part.phase = .running ∧ ∀ g, g ≠ h → (s.part.entry g).state ≠ .vent := by
      simp only [Part.lastVent, control, phase, entries]
    have controls : (q.coilReport h .relief f).control = (q.ventEnd h).control := by
      have view := congrArg Part.control (Part.offHeads_of_offHead off); exact view
    have timers : (q.coilReport h .relief f).lineTimer = (q.ventEnd h).lineTimer := by
      have view := congrArg Part.lineTimer (Part.offHeads_of_offHead off); exact view
    have closed : ∀ g, g ≠ h → (q.ventClosed h).head g = s.part.head g := fun g other => by
      rw [Part.ventClosed, Part.head_modHead, if_neg other, heads]
    have swept : ∀ g, (q.swept h).head g = (q.ventClosed h).head g := fun _ => rfl
    have start : (q.swept h).lineTimer = .running (s.part.now + s.part.machine.lineSilence) := by
      rw [← now, ← silence]; rfl
    refine ⟨_, rfl, finds _ found modules, by rw [entry, entries], context'.trans context, fun quiet g other => ?_,
      fun more => ?_, fun last => ?_⟩
    · rw [Part.head_of_offHead off other]
      by_cases last : q.lastVent h
      · rw [Part.ventEnd_of_answering last unmarked' (quiet.resolve_left (not_not_intro (isLast.mp last))), swept,
          closed g other]
      · rw [Part.ventEnd_of_more last, closed g other]
    · rw [controls, timers, Part.ventEnd_of_more (mt isLast.mp more)]
      exact ⟨control, timer⟩
    · have last' := isLast.mpr last
      cases silent : q.anySilent with
      | false =>
        rw [controls, timers, Part.ventEnd_of_answering last' unmarked' silent]
        refine ⟨start, fun _ => ?_, fun contra => by cases contra⟩
        rw [← control]; rfl
      | true =>
        have off' := Part.enterSafe_offWork (q.swept h) .headBus
        rw [controls, timers, Part.ventEnd_of_silent last' unmarked' silent]
        refine ⟨?_, fun contra => (by cases contra), fun _ => ?_⟩
        · rw [← start, Part.lineTimer_of_offWork off']
        · rw [Part.enterSafe_control]; exact ⟨rfl, rfl, rfl⟩

end Sys2Proof.Machine
end

section
/-! Coil tests: the reports, the outcome at the Monitor, and the end of a test. -/

namespace Sys2Proof.Machine

open Sys2Proof

variable {h : HeadNo} {p q : Part}

/-! ### The detections of an outcome (R118) -/

/-- Adding members one by one to a set is joining it with the set of them. -/
theorem foldl_withBit {α : Type} {w : Nat} (l : List α) (idx : α → Nat) (f : α → Bool) (s : BitVec w) :
    l.foldl (fun s x => if f x then withBit s (idx x) else s) s = s ||| bitsOf w l idx f := by
  induction l generalizing s with
  | nil => exact (BitVec.or_zero).symm
  | cons x l ih =>
    have folded : bitsOf w (x :: l) idx f =
      l.foldl (fun s x => if f x then withBit s (idx x) else s) (if f x then withBit 0 (idx x) else 0) := rfl
    have zero : ∀ b : BitVec w, 0 ||| b = b := fun _ => BitVec.zero_or
    rw [List.foldl_cons, ih, folded, ih]
    split
    · simp only [withBit, zero, BitVec.or_assoc]
    · rw [zero]

theorem bitsOf_of_none {α : Type} {w : Nat} {l : List α} {idx : α → Nat} {f : α → Bool} (none_ : ∀ x ∈ l, f x = false) :
    bitsOf w l idx f = 0 := by
  induction l with
  | nil => rfl
  | cons x l ih =>
    have folded : bitsOf w (x :: l) idx f =
      l.foldl (fun s x => if f x then withBit s (idx x) else s) (if f x then withBit 0 (idx x) else 0) := rfl
    rw [folded, none_ x List.mem_cons_self]
    exact ih fun y mem => none_ y (List.mem_cons_of_mem x mem)

theorem Part.outcomeDetections_cons (t : TestReport) (f : CoilFault) (r : Valve × TestReport)
    (rs : List (Valve × TestReport)) : p.outcomeDetections h t f (r :: rs) =
      (if r.2 == t then p.coilDetect h f r.1 else p).outcomeDetections h t f rs := by
  unfold Part.outcomeDetections
  rw [List.filter_cons]
  split <;> rfl

theorem Part.coilDetect_isLive_other {f : CoilFault} {k : FaultKind} (v : Valve) (other : k ≠ coilKind f)
    (stays : k ≠ .rateDeviation) : ((p.coilDetect h f v).diag h).isLive k = (p.diag h).isLive k := by
  rw [Part.coilDetect_diag]; split
  · simp
  · simp [Diag.isLive_moved, other, stays]

theorem Part.coilDetect_mark (f : CoilFault) (v : Valve) : ((p.coilDetect h f v).diag h).mark = (p.diag h).mark := by
  have added : ∀ d : Diag, (d.addDetail f v).mark = d.mark := fun d => by cases f <;> rfl
  rw [Part.coilDetect_diag]; split
  · exact added _
  · rw [Diag.mark_moved]; exact added _

section outcome

variable (t : TestReport) (f : CoilFault) (rs : List (Valve × TestReport))

theorem Part.outcomeDetections_offTable : (p.outcomeDetections h t f rs).offTable h = p.offTable h :=
  foldl_view (Part.offTable h) (fun q (r : Valve × TestReport) => q.coilDetect h f r.1)
    (fun q r => Part.coilDetect_offTable h q f r.1) _ p

theorem Part.outcomeDetections_isLive : ((p.outcomeDetections h t f rs).diag h).isLive (coilKind f) =
    ((p.diag h).isLive (coilKind f) || rs.any fun r => r.2 == t) := by
  induction rs generalizing p with
  | nil => exact (Bool.or_false _).symm
  | cons r rs ih =>
    rw [Part.outcomeDetections_cons, ih, List.any_cons]
    split
    · next found => rw [(Part.coilDetect_found r.1 f).live, found]; simp
    · next other => rw [Bool.not_eq_true _ |>.mp other, Bool.false_or]

theorem Part.outcomeDetections_isLive_other {k : FaultKind} (other : k ≠ coilKind f) (stays : k ≠ .rateDeviation) :
    ((p.outcomeDetections h t f rs).diag h).isLive k = (p.diag h).isLive k :=
  foldl_view (fun q : Part => (q.diag h).isLive k) (fun q (r : Valve × TestReport) => q.coilDetect h f r.1)
    (fun _ r => Part.coilDetect_isLive_other r.1 other stays) _ p

/-- The details after the detections of one kind: the named valves join the detail of that kind (R117). -/
theorem Part.outcomeDetections_details :
    ((p.outcomeDetections h t f rs).diag h).openDetail = (if f = .openLoad then
      (p.diag h).openDetail ||| bitsOf 4 rs (fun r => valveBit r.1) (fun r => r.2 == t) else (p.diag h).openDetail) ∧
    ((p.outcomeDetections h t f rs).diag h).shortDetail = (if f = .short then
      (p.diag h).shortDetail ||| bitsOf 4 rs (fun r => valveBit r.1) (fun r => r.2 == t) else (p.diag h).shortDetail) := by
  rw [← foldl_withBit, ← foldl_withBit]
  induction rs generalizing p with
  | nil => constructor <;> exact (ite_self _).symm
  | cons r rs ih =>
    obtain ⟨opens, shorts⟩ := ih (p := if r.2 == t then p.coilDetect h f r.1 else p)
    rw [Part.outcomeDetections_cons, opens, shorts, List.foldl_cons, List.foldl_cons]
    by_cases names : (r.2 == t) = true
    · have found := Part.coilDetect_found (p := p) (h := h) r.1 f
      simp only [names, if_true]
      rw [found.openDetail, found.shortDetail]
      constructor
      · split <;> rfl
      · split <;> rfl
    · simp only [names]
      exact ⟨rfl, rfl⟩

end outcome

/-! ### The removal of a mark (R127, R129) -/

theorem Part.checkTestCoils_head (g : HeadNo) : p.checkTestCoils.head g = p.head g := by
  unfold Part.checkTestCoils; split
  · exact Part.endTestCoils_head _ _
  · rfl

theorem Part.removeMark_head (g : HeadNo) : (p.removeMark h).head g = if g = h then (p.head h).unmarked else p.head g := by
  unfold Part.removeMark; split
  · rw [Part.checkTestCoils_head, Part.modDiag, Part.head_modHead]; rfl
  · next bare =>
    have none_ : (p.head h).diag.mark = false := Bool.eq_false_iff.mpr bare
    split
    · next same => rw [same, Head.unmarked, ← none_]
    · rfl

/-! ### The outcome at the Monitor (R118) -/

/-- What the outcome of a whole test does to the table of the head, before its mark goes (R118). -/
def Part.judgeTest (h : HeadNo) (rs : List (Valve × TestReport)) (p : Part) : Part :=
  if rs.all fun r => r.2 == .good then (p.clearKind h .coilOpen).clearKind h .coilShort
  else (p.outcomeDetections h .openLoad .openLoad rs).outcomeDetections h .short .short rs

theorem Part.testOutcome_eq (rs : List (Valve × TestReport)) :
    p.testOutcome h rs = (p.judgeTest h rs).removeMark h := rfl

theorem Part.judgeTest_offTable (rs : List (Valve × TestReport)) : (p.judgeTest h rs).offTable h = p.offTable h := by
  unfold Part.judgeTest; split
  · simp
  · rw [Part.outcomeDetections_offTable, Part.outcomeDetections_offTable]

/-- The coil kinds after an outcome: a kind that the test finds is live, and a test that finds neither clears both. -/
theorem Part.judgeTest_isLive (rs : List (Valve × TestReport)) :
    let opens := rs.any fun r => r.2 == .openLoad
    let shorts := rs.any fun r => r.2 == .short
    ((p.judgeTest h rs).diag h).isLive .coilOpen = (opens || (p.diag h).isLive .coilOpen && shorts) ∧
    ((p.judgeTest h rs).diag h).isLive .coilShort = (shorts || (p.diag h).isLive .coilShort && opens) := by
  have finds : rs.all (fun r => r.2 == .good) = false →
      (rs.any (fun r => r.2 == .openLoad) || rs.any (fun r => r.2 == .short)) = true := fun bad => by
    obtain ⟨r, mem, faulty⟩ := List.all_eq_false.mp bad
    rw [Bool.or_eq_true, List.any_eq_true, List.any_eq_true]
    cases report : r.2 with
    | good => simp [report] at faulty
    | openLoad => exact .inl ⟨r, mem, by simp [report]⟩
    | short => exact .inr ⟨r, mem, by simp [report]⟩
  have clean : rs.all (fun r => r.2 == .good) = true →
      rs.any (fun r => r.2 == .openLoad) = false ∧ rs.any (fun r => r.2 == .short) = false := fun good => by
    rw [List.all_eq_true] at good
    rw [List.any_eq_false, List.any_eq_false]
    exact ⟨fun r mem => by simp [eq_of_beq (good r mem)], fun r mem => by simp [eq_of_beq (good r mem)]⟩
  dsimp only
  unfold Part.judgeTest
  split
  · next good =>
    rw [(clean good).1, (clean good).2]
    simp [Part.clearKind]
  · next bad =>
    have found := finds (Bool.eq_false_iff.mpr bad)
    have opens := Part.outcomeDetections_isLive (p := p) (h := h) .openLoad .openLoad rs
    have shorts := Part.outcomeDetections_isLive (p := p.outcomeDetections h .openLoad .openLoad rs) (h := h) .short .short rs
    rw [Part.outcomeDetections_isLive_other (k := .coilOpen) _ _ _ (by decide) (by decide)]
    simp only [coilKind] at opens shorts
    rw [opens, shorts, Part.outcomeDetections_isLive_other (k := .coilShort) _ _ _ (by decide) (by decide)]
    generalize (rs.any fun r => r.2 == .openLoad) = o at found
    generalize (rs.any fun r => r.2 == .short) = s at found
    generalize (p.diag h).isLive .coilOpen = x
    generalize (p.diag h).isLive .coilShort = y
    revert found
    cases o <;> cases s <;> cases x <;> cases y <;> decide

theorem Part.judgeTest_details (rs : List (Valve × TestReport)) :
    ((p.judgeTest h rs).diag h).openDetail =
      (p.diag h).openDetail ||| bitsOf 4 rs (fun r => valveBit r.1) (fun r => r.2 == .openLoad) ∧
    ((p.judgeTest h rs).diag h).shortDetail =
      (p.diag h).shortDetail ||| bitsOf 4 rs (fun r => valveBit r.1) (fun r => r.2 == .short) := by
  have none_ : ∀ (d : BitVec 4) (t : TestReport), (rs.all fun r => r.2 == .good) = true → t ≠ .good →
      d ||| bitsOf 4 rs (fun r => valveBit r.1) (fun r => r.2 == t) = d := fun d t good other => by
    rw [bitsOf_of_none]
    · exact BitVec.or_zero
    · intro r mem
      rw [eq_of_beq (List.all_eq_true.mp good r mem)]
      exact beq_eq_false_iff_ne.mpr other.symm
  unfold Part.judgeTest
  split
  · next good =>
    rw [none_ _ _ good (by decide), none_ _ _ good (by decide)]
    simp [Part.clearKind]
    exact ⟨rfl, rfl⟩
  · have opens := Part.outcomeDetections_details (p := p) (h := h) .openLoad .openLoad rs
    have shorts := Part.outcomeDetections_details (p := p.outcomeDetections h .openLoad .openLoad rs) (h := h) .short .short rs
    simp only [if_true, reduceCtorEq, if_false] at opens shorts
    rw [shorts.1, shorts.2, opens.1, opens.2]
    exact ⟨rfl, rfl⟩

/-! ### The end of a test (R39) -/

/-- The entry of a head behind its test; the clean valves that waited for it open in DRAIN (R39, R41). -/
def Entry.tested (opened : Bool) (e : Entry) : Entry :=
  let rest := { e with state := .rest, timer := .stopped, reports := noReports }
  if e.cleanWaiting && opened then { rest with gas := true, fast := true, fine := true, cleanWaiting := false } else rest

theorem Entry.tested_of_free {e : Entry} (free : e.cleanWaiting = false) (opened : Bool) :
    e.tested opened = { e with state := .rest, timer := .stopped, reports := noReports } := by
  simp [Entry.tested, free]

theorem Part.leaveTest_eq : p.leaveTest h = p.modHead h fun x => { x with
    entry := (p.entry h).tested (p.control.cleanOpened && decide (p.control.prod = .drain)) } := by
  have drains : (p.control.prod == .drain) = decide (p.control.prod = .drain) := rfl
  rw [Part.leaveTest, Part.modEntry_eq]
  refine Part.modHead_congr ?_
  unfold Entry.tested
  simp only [drains, Bool.and_assoc]
  rfl

theorem exec_coilTestReport (v : Valve) (r : TestReport) (s : State) : exec (.coilTestReport h v r) s =
    .next { s with part := s.part.busArrival h fun p =>
      if (p.entry h).state = .testing then p.modEntry h fun e => { e with reports := e.reports.set v r } else p } := rfl
theorem exec_coilTestExpiry (s : State) : exec (.coilTestExpiry h) s =
    .next { s with part := s.part.phaseExpiry h .testing (Part.testExpiry h) } := rfl

theorem Part.testExpiry_of_missing (missing : (p.entry h).reports.all = none) : p.testExpiry h = p.leaveTest h := by
  simp only [Part.testExpiry, missing]

theorem Part.testExpiry_of_all {rs : List (Valve × TestReport)} (whole : (p.entry h).reports.all = some rs) :
    p.testExpiry h = ((p.leaveTest h).judgeTest h rs).removeMark h := by
  simp only [Part.testExpiry, whole, Part.testOutcome_eq]

/-- Settles O30: the head leaves its test, the outcome is judged, and the mark goes. -/
theorem coilTestsEndInTheirOutcome : Obligations.CoilTestsEndInTheirOutcome := by
  intro s h v r due a b c d
  dsimp only
  rw [exec_coilTestReport, exec_coilTestExpiry]
  refine ⟨fun on fitted st => ?_, fun on idle => ?_, fun idle => ?_, fun st timer missing => ?_,
    fun st timer waits reports => ?_⟩
  · rw [Part.busArrival_taken on fitted, Part.entry_moduleAnswers, if_pos st, Part.modEntry_eq, Part.entry_moduleAnswers]
  · by_cases fitted : s.part.fitted h = true
    · rw [Part.busArrival_taken on fitted, Part.entry_moduleAnswers, if_neg (idle.resolve_left (by simp [fitted]))]
    · rw [Part.busArrival_unfitted on (Bool.eq_false_iff.mpr fitted)]
  · rw [Part.phaseExpiry_idle idle]
  · rw [Part.phaseExpiry_due st timer, Part.testExpiry_of_missing (by exact missing), Part.leaveTest_eq]
    simp only [Entry.tested, ← Bool.and_assoc]
    rfl
  · rw [Part.phaseExpiry_due st timer]
    have entry : (s.part.clockTo due).entry h = s.part.entry h := rfl
    have whole : ((s.part.clockTo due).entry h).reports.all =
        some [(.gas, a), (.fast, b), (.fine, c), (.relief, d)] := by rw [entry, reports]; rfl
    rw [Part.testExpiry_of_all whole, Part.leaveTest_eq, entry, Entry.tested_of_free waits]
    generalize outcome : [(Valve.gas, a), (.fast, b), (.fine, c), (.relief, d)] = rs
    have names : ∀ t : TestReport, (rs.any fun r => r.2 == t) = decide (t ∈ [a, b, c, d]) := fun t => by
      rw [← outcome, Bool.eq_iff_iff]; simp [@eq_comm _ t]
    generalize left : ((s.part.clockTo due).modHead h fun x => { x with
      entry := { s.part.entry h with state := .rest, timer := .stopped, reports := noReports } }) = q
    have heads : ∀ g, q.head g = if g = h then { s.part.head h with
        entry := { s.part.entry h with state := .rest, timer := .stopped, reports := noReports } }
        else s.part.head g := fun g => by
      rw [← left, Part.head_modHead]; rfl
    have own := (heads h).trans (if_pos rfl)
    have diag : q.diag h = s.part.diag h := by have view := congrArg Head.diag own; exact view
    have table := Part.judgeTest_offTable (p := q) (h := h) rs
    have marked := Part.removeMark_head (p := q.judgeTest h rs) (h := h)
    have mine := (marked h).trans (if_pos rfl)
    have entry' : ((q.judgeTest h rs).removeMark h).entry h = (q.judgeTest h rs).entry h := by
      have view := congrArg Head.entry mine; exact view
    have context' : ((q.judgeTest h rs).removeMark h).context h = (q.judgeTest h rs).context h := by
      have view := congrArg Head.context mine; exact view
    have diag' : ((q.judgeTest h rs).removeMark h).diag h = { (q.judgeTest h rs).diag h with mark := false } := by
      have view := congrArg Head.diag mine; exact view
    have live : ∀ (d : Diag) (k : FaultKind), ({ d with mark := false } : Diag).isLive k = d.isLive k := fun _ _ => rfl
    obtain ⟨opens, shorts⟩ := Part.judgeTest_isLive (p := q) (h := h) rs
    obtain ⟨openDetail, shortDetail⟩ := Part.judgeTest_details (p := q) (h := h) rs
    rw [names, names, diag] at opens shorts
    rw [diag] at openDetail shortDetail
    refine ⟨_, rfl, ?_, fun g other => ?_, ?_, by rw [diag'], by rw [diag', live, opens], by rw [diag', live, shorts],
      by rw [diag']; exact openDetail, by rw [diag']; exact shortDetail⟩
    · rw [entry', Part.entry_of_offTable table]
      have view := congrArg Head.entry own; exact view
    · rw [marked, if_neg other, Part.head_of_offHead (Part.offHead_of_offTable table) other, heads, if_neg other]
    · rw [context', Part.context_of_offTable table]
      have view := congrArg Head.context own; exact view

end Sys2Proof.Machine
end

section
/-! The speed advisory under the work at the table, and the learning samples of a dose. -/

namespace Sys2Proof.Machine

open Sys2Proof

variable {h : HeadNo} {p q : Part}

/-! ### The speed advisory (R66, R67) -/

/-- What the speed advisory reads of a head's record (R66). -/
def HeadRecord.rating (x : HeadRecord) : Bool × Method × Nat × Int :=
  (x.stored.inService, x.method, x.stored.r, x.stored.t)

theorem Part.computeAdvisory_congr (machine : q.machine = p.machine) (configBad : q.configBad = p.configBad)
    (recipe : q.activeRecipe = p.activeRecipe) (rating : ∀ g, (q.record g).rating = (p.record g).rating) :
    q.computeAdvisory = p.computeAdvisory := by
  have parts : ∀ g, (q.record g).stored.inService = (p.record g).stored.inService ∧
      (q.record g).method = (p.record g).method ∧ (q.record g).stored.r = (p.record g).stored.r ∧
      (q.record g).stored.t = (p.record g).stored.t := fun g => by
    simpa [HeadRecord.rating] using rating g
  have fits : ∀ g, q.fitted g = p.fitted g := fun g => by unfold Part.fitted; rw [machine]
  have qualifies : q.qualifies = p.qualifies := funext fun g => by
    obtain ⟨serves, method, -, -⟩ := parts g
    unfold Part.qualifies
    rw [serves, method, fits]
  unfold Part.computeAdvisory
  rw [recipe, configBad, qualifies, machine]
  have speeds : ∀ (w v : Nat), (fun g => headSpeed w (q.record g).stored.r v (q.record g).stored.t) =
      fun g => headSpeed w (p.record g).stored.r v (p.record g).stored.t := fun w v => funext fun g => by
    obtain ⟨-, -, rate, trim⟩ := parts g
    rw [rate, trim]
  simp only [speeds]

/-- The stored advisory is the one of the part as it is (R67). -/
def Part.Advised (p : Part) : Prop := p.advisory = p.computeAdvisory

theorem Part.recomputeAdvisory_advised : p.recomputeAdvisory.Advised := rfl

theorem Part.Advised.of_same (advised : p.Advised) (advisory : q.advisory = p.advisory) (machine : q.machine = p.machine)
    (configBad : q.configBad = p.configBad) (recipe : q.activeRecipe = p.activeRecipe)
    (rating : ∀ g, (q.record g).rating = (p.record g).rating) : q.Advised :=
  (advisory.trans advised).trans (Part.computeAdvisory_congr machine configBad recipe rating).symm

theorem Part.Advised.modDiag (advised : p.Advised) (f : Diag → Diag) : (p.modDiag h f).Advised :=
  advised.of_same rfl rfl rfl rfl fun g => by rw [Part.record_modDiag]

theorem Part.setMethod_advised (m : Method) (c : Option FaultKind) : (p.setMethod h m c).Advised :=
  Part.recomputeAdvisory_advised

/-- A decision leaves the part alone or moves the method of the head (R82, R83, R120). -/
theorem Part.decideKind_cases (k : FaultKind) :
    p.decideKind h k = p ∨ ∃ m, p.decideKind h k = p.setMethod h m (some k) := by
  unfold Part.decideKind Part.putOut Part.degrade
  cases actionFor p.machine k with
  | report => exact .inl rfl
  | out => cases (p.record h).method with
    | flow => exact .inr ⟨_, rfl⟩
    | timed => exact .inr ⟨_, rfl⟩
    | out => exact .inl rfl
  | degrade => cases (p.record h).method with
    | flow => exact .inr ⟨_, rfl⟩
    | timed =>
      dsimp only; split
      · exact .inr ⟨_, rfl⟩
      · exact .inl rfl
    | out => exact .inl rfl

theorem Part.Advised.decideKind (advised : p.Advised) (k : FaultKind) : (p.decideKind h k).Advised := by
  rcases Part.decideKind_cases (p := p) (h := h) k with same | ⟨m, moved⟩
  · rw [same]; exact advised
  · rw [moved]; exact Part.setMethod_advised _ _

theorem Part.Advised.detect (advised : p.Advised) (k : FaultKind) : (p.detect h k).Advised := by
  unfold Part.detect; split
  · exact advised
  · dsimp only; split
    · exact (advised.modDiag _).decideKind k
    · exact advised.modDiag _

theorem Part.Advised.evaluateRate (advised : p.Advised) : (p.evaluateRate h).Advised := by
  unfold Part.evaluateRate; split
  · exact advised.detect _
  · exact advised.modDiag _

/-- A detection that moves the method has recomputed the advisory (R81). -/
theorem Part.detect_advised_of_moved {k : FaultKind} (moved : (p.rungAfter h k).method ≠ (p.record h).method) :
    (p.detect h k).Advised := by
  rw [← Part.record_detect] at moved
  unfold Part.detect at moved ⊢
  split
  · next live => rw [if_pos live] at moved; exact absurd rfl moved
  · next rises =>
    rw [if_neg rises] at moved
    dsimp only at moved ⊢
    split
    · next warm =>
      rw [if_pos warm] at moved
      rcases Part.decideKind_cases (p := p.modDiag h (Diag.raise k)) (h := h) k with same | ⟨m, set⟩
      · rw [same, Part.record_modDiag] at moved; exact absurd rfl moved
      · rw [set]; exact Part.setMethod_advised _ _
    · next warm => rw [if_neg warm, Part.record_modDiag] at moved; exact absurd rfl moved

/-! ### Rungs (R81 to R83) -/

/-- Two records stand on the same rung of the ladder. -/
def HeadRecord.OnRung (x y : HeadRecord) : Prop := x.method = y.method ∧ x.cause = y.cause ∧ x.promo = y.promo

theorem HeadRecord.OnRung.decided {x y : HeadRecord} (same : x.OnRung y) (a : Action) (ok : Bool) (k : FaultKind) :
    (x.decided a ok k).OnRung (y.decided a ok k) := by
  have method := same.1
  unfold HeadRecord.decided
  rw [method]
  split
  · exact ⟨rfl, rfl, rfl⟩
  · exact ⟨rfl, rfl, rfl⟩
  · exact ⟨rfl, rfl, rfl⟩
  · split
    · exact ⟨rfl, rfl, rfl⟩
    · exact same
  · exact same
  · exact same

/-- What no move along the ladder changes (R81). -/
structure HeadRecord.SameRest (x y : HeadRecord) : Prop where
  stored : x.stored = y.stored
  gen : x.gen = y.gen
  warm : x.warm = y.warm
  outlierRun : x.outlierRun = y.outlierRun

theorem HeadRecord.decided_rest (a : Action) (ok : Bool) (k : FaultKind) (x : HeadRecord) :
    (x.decided a ok k).SameRest x := by
  unfold HeadRecord.decided
  split
  · exact ⟨rfl, rfl, rfl, rfl⟩
  · exact ⟨rfl, rfl, rfl, rfl⟩
  · exact ⟨rfl, rfl, rfl, rfl⟩
  · split <;> exact ⟨rfl, rfl, rfl, rfl⟩
  · exact ⟨rfl, rfl, rfl, rfl⟩
  · exact ⟨rfl, rfl, rfl, rfl⟩

theorem Part.rungAfter_rest (k : FaultKind) : (p.rungAfter h k).SameRest (p.record h) := by
  unfold Part.rungAfter; dsimp only; split
  · exact ⟨rfl, rfl, rfl, rfl⟩
  · exact HeadRecord.decided_rest _ _ _ _

/-- The rung after a detection depends on the rung before it, the warm-up and whether the kind is live; off the head, on
the action and on what is allowed. -/
theorem Part.rungAfter_onRung {k : FaultKind} (machine : q.machine = p.machine) (ok : q.timedOk h = p.timedOk h)
    (same : (q.record h).OnRung (p.record h)) (warm : (q.record h).warm = (p.record h).warm)
    (live : (q.diag h).isLive k = (p.diag h).isLive k) : (q.rungAfter h k).OnRung (p.rungAfter h k) := by
  unfold Part.rungAfter
  dsimp only
  rw [machine, ok, warm, live]
  split
  · exact same
  · exact same.decided _ _ _

theorem Part.timedOk_congr (recipe : q.activeRecipe = p.activeRecipe) (stored :
    (q.record h).stored.timedAllowed = (p.record h).stored.timedAllowed) : q.timedOk h = p.timedOk h := by
  unfold Part.timedOk; rw [recipe, stored]

/-! ### The after-run sample (R63) -/

/-- A measured after-run is an outlier (R63). -/
def Part.farOff (p : Part) (h : HeadNo) (a : Nat) : Prop := p.machine.outlierLimit < distance a (p.record h).stored.a

/-- The run of outliers that an outlier leaves (R63). -/
def HeadRecord.nextRun (x : HeadRecord) : Nat := min 3 (x.outlierRun + 1)

/-- The record an after-run sample writes, before a detection decides its rung (R63). -/
def HeadRecord.sampled (limit a : Nat) (x : HeadRecord) : HeadRecord :=
  if limit < distance a x.stored.a then { x with outlierRun := x.nextRun }
  else { x with outlierRun := 0, stored := { x.stored with a := learnAfter x.stored.a a } }

theorem Part.record_modRecord_self (f : HeadRecord → HeadRecord) : (p.modRecord h f).record h = f (p.record h) := by
  rw [Part.record_modRecord, if_pos rfl]

theorem Part.admitAfter_far {a : Nat} (far : p.farOff h a) : p.admitAfter h a =
    let q := p.modRecord h (HeadRecord.sampled p.machine.outlierLimit a)
    if (p.record h).nextRun = 3 then q.detect h .afterrunOutlier else q := by
  have far' : p.machine.outlierLimit < distance a (p.record h).stored.a := far
  have writes : p.modRecord h (fun x => { x with outlierRun := min 3 ((p.record h).outlierRun + 1) }) =
      p.modRecord h (HeadRecord.sampled p.machine.outlierLimit a) := by
    unfold Part.modRecord
    refine Part.modHead_congr ?_
    have record : (p.head h).record = p.record h := rfl
    rw [record, HeadRecord.sampled, if_pos far']
    rfl
  unfold Part.admitAfter
  dsimp only
  rw [if_pos far', writes]
  rfl

theorem Part.admitAfter_near {a : Nat} (near : ¬ p.farOff h a) : p.admitAfter h a =
    (p.modRecord h (HeadRecord.sampled p.machine.outlierLimit a)).clearKind h .afterrunOutlier := by
  have near' : ¬ p.machine.outlierLimit < distance a (p.record h).stored.a := near
  have writes : p.modRecord h (fun x => { x with
      outlierRun := 0, stored := { x.stored with a := learnAfter x.stored.a a } }) =
      p.modRecord h (HeadRecord.sampled p.machine.outlierLimit a) := by
    unfold Part.modRecord
    refine Part.modHead_congr ?_
    have record : (p.head h).record = p.record h := rfl
    rw [record, HeadRecord.sampled, if_neg near']
  unfold Part.admitAfter
  dsimp only
  rw [if_neg near', writes]

/-- The rung an after-run sample leaves (R63, R120). -/
def Part.sampledRung (p : Part) (h : HeadNo) (a : Nat) : HeadRecord :=
  if p.machine.outlierLimit < distance a (p.record h).stored.a ∧ (p.record h).nextRun = 3 then
    p.rungAfter h .afterrunOutlier
  else p.record h

theorem HeadRecord.sampled_onRung (limit a : Nat) (x : HeadRecord) :
    (x.sampled limit a).OnRung x ∧ (x.sampled limit a).warm = x.warm ∧ (x.sampled limit a).gen = x.gen ∧
      (x.sampled limit a).stored.timedAllowed = x.stored.timedAllowed ∧ (x.sampled limit a).rating = x.rating := by
  unfold HeadRecord.sampled; split <;> exact ⟨⟨rfl, rfl, rfl⟩, rfl, rfl, rfl, rfl⟩

/-- The record behind an after-run sample: its values, on the rung of the detection. -/
theorem Part.admitAfter_record (a : Nat) :
    ((p.admitAfter h a).record h).SameRest ((p.record h).sampled p.machine.outlierLimit a) ∧
      ((p.admitAfter h a).record h).OnRung (p.sampledRung h a) := by
  obtain ⟨rung, warm, -, allowed, -⟩ := HeadRecord.sampled_onRung p.machine.outlierLimit a (p.record h)
  have written := Part.record_modRecord_self (h := h) (p := p) (HeadRecord.sampled p.machine.outlierLimit a)
  unfold Part.sampledRung
  by_cases far : p.farOff h a
  · rw [Part.admitAfter_far far]
    dsimp only
    by_cases third : (p.record h).nextRun = 3
    · rw [if_pos third, if_pos ⟨far, third⟩, Part.record_detect]
      refine ⟨?_, Part.rungAfter_onRung rfl ?_ (by rw [written]; exact rung) (by rw [written, warm]) (by simp)⟩
      · rw [← written]; exact Part.rungAfter_rest _
      · exact Part.timedOk_congr rfl (by rw [written]; exact allowed)
    · rw [if_neg third, if_neg fun both => third both.2, written]
      exact ⟨⟨rfl, rfl, rfl, rfl⟩, rung⟩
  · rw [Part.admitAfter_near far, if_neg fun both => far both.1, Part.clearKind, Part.record_modDiag, written]
    exact ⟨⟨rfl, rfl, rfl, rfl⟩, rung⟩

/-- Only a degrading action moves a head to TIMED (R82, R83). -/
theorem HeadRecord.decided_timed {a : Action} (action : a ≠ .degrade) (ok : Bool) (k : FaultKind) (x : HeadRecord)
    (timed : (x.decided a ok k).method = .timed) : x.method = .timed := by
  unfold HeadRecord.decided at timed
  split at timed
  · cases timed
  · cases timed
  · exact absurd rfl action
  · exact absurd rfl action
  · exact timed
  · exact timed

/-- A detection that does not degrade leaves the deviation window alone (R123). -/
theorem Part.detect_diag_of_not_degrade {k : FaultKind} (action : actionFor p.machine k ≠ .degrade) :
    (p.detect h k).diag h = if (p.diag h).isLive k then p.diag h else (p.diag h).raise k := by
  have stays : ¬ ((p.record h).method ≠ .timed ∧ (p.rungAfter h k).method = .timed) := fun ⟨other, timed⟩ => by
    unfold Part.rungAfter at timed
    dsimp only at timed
    split at timed
    · exact other timed
    · exact other (HeadRecord.decided_timed action _ _ _ timed)
  rw [Part.diag_detect, Diag.moved, if_neg stays]

/-- The diagnostic entry behind an after-run sample. -/
theorem Part.admitAfter_diag_near {a : Nat} (near : ¬ p.farOff h a) :
    (p.admitAfter h a).diag h = (p.diag h).fall .afterrunOutlier := by
  rw [Part.admitAfter_near near, Part.clearKind, Part.diag_modDiag, if_pos rfl, Part.diag_modRecord]

theorem Part.admitAfter_diag_early {a : Nat} (far : p.farOff h a) (early : (p.record h).nextRun ≠ 3) :
    (p.admitAfter h a).diag h = p.diag h := by
  rw [Part.admitAfter_far far]
  dsimp only
  rw [if_neg early, Part.diag_modRecord]

theorem Part.admitAfter_third {a : Nat} (far : p.farOff h a) (third : (p.record h).nextRun = 3) : p.admitAfter h a =
    (p.modRecord h (HeadRecord.sampled p.machine.outlierLimit a)).detect h .afterrunOutlier := by
  rw [Part.admitAfter_far far]
  exact if_pos third

theorem Part.admitAfter_found {a : Nat} (far : p.farOff h a) (third : (p.record h).nextRun = 3) :
    ((p.admitAfter h a).diag h).isLive .afterrunOutlier = true ∧
    ((p.diag h).isLive .afterrunOutlier = false → ((p.admitAfter h a).diag h).isHeld .afterrunOutlier = true) := by
  rw [Part.admitAfter_third far third]
  exact ⟨Part.detect_isLive (by decide), fun rises => Part.detect_isHeld (by simpa using rises)⟩

/-- An outlier whose action does not degrade leaves the window and RATE_DEVIATION alone (R120, R123). -/
theorem Part.admitAfter_window {a : Nat}
    (permits : p.farOff h a → actionFor p.machine .afterrunOutlier ≠ .degrade) :
    ((p.admitAfter h a).diag h).window = (p.diag h).window ∧
    ((p.admitAfter h a).diag h).isLive .rateDeviation = (p.diag h).isLive .rateDeviation := by
  by_cases far : p.farOff h a
  · by_cases third : (p.record h).nextRun = 3
    · have diag := Part.detect_diag_of_not_degrade (h := h)
        (p := p.modRecord h (HeadRecord.sampled p.machine.outlierLimit a)) (k := .afterrunOutlier) (permits far)
      rw [Part.diag_modRecord] at diag
      rw [Part.admitAfter_third far third, diag]
      split
      · exact ⟨rfl, rfl⟩
      · exact ⟨rfl, by simp⟩
    · rw [Part.admitAfter_diag_early far third]; exact ⟨rfl, rfl⟩
  · rw [Part.admitAfter_diag_near far]; exact ⟨rfl, by simp⟩

/-- An outlier that moves the method has recomputed the advisory (R81). -/
theorem Part.admitAfter_advised {a : Nat} (moved : (p.sampledRung h a).method ≠ (p.record h).method) :
    (p.admitAfter h a).Advised := by
  unfold Part.sampledRung at moved
  split at moved
  · next both =>
    obtain ⟨far, third⟩ := both
    have written := Part.record_modRecord_self (h := h) (p := p) (HeadRecord.sampled p.machine.outlierLimit a)
    obtain ⟨rung, warm, -, allowed, -⟩ := HeadRecord.sampled_onRung p.machine.outlierLimit a (p.record h)
    have same := Part.rungAfter_onRung (h := h) (p := p) (k := .afterrunOutlier)
      (q := p.modRecord h (HeadRecord.sampled p.machine.outlierLimit a)) rfl
      (Part.timedOk_congr rfl (by rw [written]; exact allowed)) (by rw [written]; exact rung) (by rw [written, warm])
      (by simp)
    rw [Part.admitAfter_third far third]
    refine Part.detect_advised_of_moved ?_
    rw [same.1, written, rung.1]
    exact moved
  · exact absurd rfl moved

/-! ### The rate sample (R64, R123, R124) -/

/-- The part with a rate sample written, before RATE_DEVIATION is evaluated (R64, R67, R123). -/
def Part.rated (h : HeadNo) (rate : Nat) (bit : Bool) (p : Part) : Part :=
  (p.modHead h fun x => { x with
    record := { p.record h with
      stored := { (p.record h).stored with r := learnRate (p.record h).stored.r rate } }
    diag := { p.diag h with window := windowJoin p.machine.window bit (p.diag h).window } }).recomputeAdvisory

theorem Part.admitRate_eq (rate : Nat) (bit : Bool) : p.admitRate h rate bit = (p.rated h rate bit).evaluateRate h := by
  unfold Part.admitRate Part.rated
  dsimp only
  refine congrArg (fun q : Part => Part.evaluateRate h q.recomputeAdvisory) (Part.modHead_congr ?_)
  rfl

theorem Part.rated_record (rate : Nat) (bit : Bool) : (p.rated h rate bit).record h = { p.record h with
    stored := { (p.record h).stored with r := learnRate (p.record h).stored.r rate } } := by
  have advised : ∀ q : Part, q.recomputeAdvisory.record h = q.record h := fun _ => rfl
  rw [Part.rated, advised, Part.record, Part.head_modHead, if_pos rfl]

theorem Part.rated_diag (rate : Nat) (bit : Bool) : (p.rated h rate bit).diag h = { p.diag h with
    window := windowJoin p.machine.window bit (p.diag h).window } := by
  have advised : ∀ q : Part, q.recomputeAdvisory.diag h = q.diag h := fun _ => rfl
  rw [Part.rated, advised, Part.diag, Part.head_modHead, if_pos rfl]

theorem Part.evaluateRate_calm (calm : windowDeviant p.machine.window (p.diag h).window = false) :
    (p.evaluateRate h).record h = p.record h ∧ ((p.evaluateRate h).diag h).window = (p.diag h).window ∧
    ((p.evaluateRate h).diag h).isLive .rateDeviation = false := by
  rw [Part.evaluateRate, calm, if_neg (by decide), Part.clearKind, Part.record_modDiag, Part.diag_modDiag, if_pos rfl]
  exact ⟨rfl, rfl, by simp⟩

/-- A deviant window is a detection; the move to TIMED that may follow empties it (R123, R124). -/
theorem Part.evaluateRate_deviant (deviates : windowDeviant p.machine.window (p.diag h).window = true) :
    let y := p.rungAfter h .rateDeviation
    (p.evaluateRate h).record h = y ∧
    ((p.diag h).isLive .rateDeviation = false → ((p.evaluateRate h).diag h).isHeld .rateDeviation = true) ∧
    (y.method = .timed ∧ (p.record h).method ≠ .timed →
      ((p.evaluateRate h).diag h).window = [] ∧ ((p.evaluateRate h).diag h).isLive .rateDeviation = false) ∧
    (y.method ≠ .timed ∨ (p.record h).method = .timed →
      ((p.evaluateRate h).diag h).window = (p.diag h).window ∧
      ((p.evaluateRate h).diag h).isLive .rateDeviation = true) := by
  dsimp only
  rw [Part.evaluateRate, deviates, if_pos rfl, Part.record_detect]
  refine ⟨rfl, Part.detect_isHeld, fun moved => ?_, fun stays => ?_⟩
  · have rises : (p.diag h).isLive .rateDeviation = false := by
      cases live : (p.diag h).isLive .rateDeviation with
      | false => rfl
      | true =>
        have same : p.rungAfter h .rateDeviation = p.record h := if_pos (.inl live)
        rw [same] at moved
        exact absurd moved.1 moved.2
    rw [Part.diag_detect, if_neg (by simp [rises]), Diag.moved, if_pos moved.symm]
    exact ⟨rfl, by simp⟩
  · have not_moved : ¬ ((p.record h).method ≠ .timed ∧ (p.rungAfter h .rateDeviation).method = .timed) :=
      fun ⟨other, timed⟩ => stays.elim (fun away => away timed) other
    rw [Part.diag_detect, Diag.moved, if_neg not_moved]
    split
    · next live => exact ⟨rfl, live⟩
    · exact ⟨rfl, by simp⟩

end Sys2Proof.Machine
end

section
/-! The settle expiry: what a complete dose teaches its head. -/

namespace Sys2Proof.Machine

open Sys2Proof

variable {h : HeadNo} {p q : Part}

/-! ### A rate sample beside the after-run -/

/-- What a rate sample leaves of a head (R64). -/
structure Part.KeptByRate (h : HeadNo) (p t : Part) : Prop where
  off : t.offTable h = p.offTable h
  stored : { (t.record h).stored with r := (p.record h).stored.r } = (p.record h).stored
  gen : (t.record h).gen = (p.record h).gen
  outlierRun : (t.record h).outlierRun = (p.record h).outlierRun
  live : ∀ k, k ≠ .rateDeviation → (t.diag h).isLive k = (p.diag h).isLive k
  held : ∀ k, k ≠ .rateDeviation → (t.diag h).isHeld k = (p.diag h).isHeld k

theorem Part.keptByRate_refl : Part.KeptByRate h p p := ⟨rfl, rfl, rfl, rfl, fun _ _ => rfl, fun _ _ => rfl⟩

theorem Part.evaluateRate_rest : ((p.evaluateRate h).record h).SameRest (p.record h) := by
  unfold Part.evaluateRate; split
  · rw [Part.record_detect]; exact Part.rungAfter_rest _
  · rw [Part.clearKind, Part.record_modDiag]; exact ⟨rfl, rfl, rfl, rfl⟩

theorem Part.admitRate_kept (rate : Nat) (bit : Bool) : Part.KeptByRate h p (p.admitRate h rate bit) := by
  have rest := Part.evaluateRate_rest (h := h) (p := p.rated h rate bit)
  rw [Part.rated_record] at rest
  refine ⟨Part.admitRate_offTable h p rate bit, ?_, ?_, ?_, fun k other => ?_, fun k other => ?_⟩
  · rw [Part.admitRate_eq, rest.stored]
  · rw [Part.admitRate_eq, rest.gen]
  · rw [Part.admitRate_eq, rest.outlierRun]
  · rw [Part.admitRate_eq, Part.isLive_evaluateRate other, Part.rated_diag]; rfl
  · rw [Part.admitRate_eq, Part.isHeld_evaluateRate other, Part.rated_diag]; rfl

/-! ### Which samples a dose gives (R62, R64) -/

theorem Part.takeSamples_unrated {c : Context} (known : p.context h = some c) (gives : c.gives = true)
    (gen : c.snap.map (·.gen) = some (p.record h).gen) (unrated : c.rateSample = none) :
    p.takeSamples h true = p.admitAfter h c.measuredAfter := by
  simp only [Part.takeSamples, known, gives, gen, and_self, if_true, unrated]

theorem Part.takeSamples_rated {c : Context} {rate : Nat} {bit : Bool} (known : p.context h = some c)
    (gives : c.gives = true) (gen : c.snap.map (·.gen) = some (p.record h).gen) (rated : c.rateSample = some (rate, bit)) :
    p.takeSamples h true = (p.admitAfter h c.measuredAfter).admitRate h rate bit := by
  simp only [Part.takeSamples, known, gives, gen, and_self, if_true, rated]

theorem Part.takeSamples_other {c : Context} (known : p.context h = some c) (full : Bool)
    (other : c.gives = false ∨ c.snap.map (·.gen) ≠ some (p.record h).gen) : p.takeSamples h full = p := by
  have barred : ¬ (c.gives = true ∧ c.snap.map (·.gen) = some (p.record h).gen) := fun ⟨gives, gen⟩ =>
    other.elim (fun none_ => by simp [gives] at none_) fun old => old gen
  simp only [Part.takeSamples, known, barred, if_false]

theorem Context.rateSample_none {c : Context} (none_ : c.f = 0 ∨ c.fillStart = none ∨ c.fastClose = none) :
    c.rateSample = none := by
  unfold Context.rateSample Context.fastTime
  rcases none_ with zero | open_ | open_
  · split
    · rw [if_neg fun both => absurd both.1 (by simp [zero])]
    · rfl
  · rw [open_]
    cases c.snap <;> rfl
  · rw [open_]
    cases c.snap <;> cases c.fillStart <;> rfl

theorem Context.rateSample_of_times {c : Context} {sn : Snapshot} {t0 t1 : Nat} (snap : c.snap = some sn)
    (start : c.fillStart = some t0) (close : c.fastClose = some t1) (fast : 0 < c.f) : c.rateSample =
      if 100 ≤ t1 - t0 then
        some (roundNat (c.f * 10000000) (sn.k * (t1 - t0)),
          decide (sn.dev * sn.r < distance (roundNat (c.f * 10000000) (sn.k * (t1 - t0))) sn.r * 100))
      else none := by
  simp only [Context.rateSample, Context.fastTime, snap, start, close, fast, true_and]
  rfl

/-! ### The settle expiry -/

theorem exec_settleExpiry (s : State) : exec (.settleExpiry h) s =
    .next { s with part := s.part.phaseExpiry h .settle (Part.settleEnd h) } := rfl

/-- The context of a dose whose settle has run out (R56, R65). -/
def Context.settled (c : Context) : Context := { c with afterState := .closed, judgement := c.judge }

/-- The head that waits for its relief behind its settle (R32). -/
def Part.settled (h : HeadNo) (c : Context) (p : Part) : Part := p.modHead h fun x => { x with
  entry := { p.entry h with state := .waitRelief, timer := .stopped }, context := some c.settled }

theorem Part.settleEnd_eq {c : Context} (known : p.context h = some c) :
    p.settleEnd h = (p.settled h c).takeSamples h true := by
  have context : (p.head h).context = some c := known
  unfold Part.settleEnd Part.settled
  refine congrArg (Part.takeSamples h true) (Part.modHead_congr ?_)
  simp only [context, Option.map_some]
  rfl

theorem Part.settled_head (c : Context) : (p.settled h c).head h = { p.head h with
    entry := { p.entry h with state := .waitRelief, timer := .stopped }, context := some c.settled } := by
  rw [Part.settled, Part.head_modHead, if_pos rfl]

/-- The after-run a dose teaches (R63). -/
theorem Part.admitAfter_learns (a : Nat) :
    (distance a (p.record h).stored.a ≤ p.machine.outlierLimit →
      ((p.admitAfter h a).record h).stored.a = learnAfter (p.record h).stored.a a ∧
      ((p.admitAfter h a).record h).outlierRun = 0 ∧
      ((p.admitAfter h a).diag h).isLive .afterrunOutlier = false) ∧
    (p.farOff h a → ((p.admitAfter h a).record h).stored.a = (p.record h).stored.a ∧
      ((p.admitAfter h a).record h).outlierRun = (p.record h).nextRun) ∧
    ((p.admitAfter h a).record h).stored.k = (p.record h).stored.k ∧
    ((p.admitAfter h a).record h).stored.t = (p.record h).stored.t ∧
    ((p.admitAfter h a).record h).stored.r = (p.record h).stored.r ∧
    ((p.admitAfter h a).record h).stored.timedAllowed = (p.record h).stored.timedAllowed ∧
    ((p.admitAfter h a).record h).gen = (p.record h).gen ∧ ((p.admitAfter h a).record h).warm = (p.record h).warm := by
  obtain ⟨rest, -⟩ := Part.admitAfter_record (h := h) (p := p) a
  rw [rest.stored, rest.outlierRun, rest.gen, rest.warm]
  unfold HeadRecord.sampled
  refine ⟨fun near => ?_, fun far => ?_, ?_⟩
  · have near' : ¬ p.farOff h a := Nat.not_lt.mpr near
    rw [Part.admitAfter_diag_near near', if_neg (Nat.not_lt.mpr near)]
    exact ⟨rfl, rfl, by simp⟩
  · have far' : p.machine.outlierLimit < distance a (p.record h).stored.a := far
    rw [if_pos far']
    exact ⟨rfl, rfl⟩
  · split <;> exact ⟨rfl, rfl, rfl, rfl, rfl, rfl⟩

end Sys2Proof.Machine
end

section
/-! The statement about the settle expiry. -/

namespace Sys2Proof.Machine

open Sys2Proof

variable {h : HeadNo} {p q : Part}

/-- Behind an admitted rate sample: the flow rate has moved, the advisory is new, and RATE_DEVIATION follows the window
(R64, R67, R123, R124). -/
theorem Part.admitRate_learns {a rate : Nat} {bit : Bool}
    (permits : p.farOff h a → actionFor p.machine .afterrunOutlier ≠ .degrade) :
    let t := (p.admitAfter h a).admitRate h rate bit
    let joined := windowJoin p.machine.window bit (p.diag h).window
    let first := p.sampledRung h a
    let y := if (p.diag h).isLive .rateDeviation = true ∨ 0 < (p.record h).warm then first else
      first.decided (actionFor p.machine .rateDeviation) (p.timedOk h) .rateDeviation
    (windowDeviant p.machine.window joined = false → (t.diag h).window = joined ∧
      (t.diag h).isLive .rateDeviation = false ∧ (t.record h).OnRung first) ∧
    (windowDeviant p.machine.window joined = true →
      ((p.diag h).isLive .rateDeviation = false → (t.diag h).isHeld .rateDeviation = true) ∧ (t.record h).OnRung y ∧
      (y.method = .timed ∧ first.method ≠ .timed →
        (t.diag h).window = [] ∧ (t.diag h).isLive .rateDeviation = false) ∧
      (y.method ≠ .timed ∨ first.method = .timed →
        (t.diag h).window = joined ∧ (t.diag h).isLive .rateDeviation = true)) := by
  dsimp only
  obtain ⟨window, live⟩ := Part.admitAfter_window permits
  obtain ⟨-, rung⟩ := Part.admitAfter_record (h := h) (p := p) a
  obtain ⟨-, -, -, -, -, allowed, -, warm⟩ := Part.admitAfter_learns (h := h) (p := p) a
  have off := Part.offHeads_of_offHead (Part.offHead_of_offTable (Part.admitAfter_offTable h p a))
  have machine : (p.admitAfter h a).machine = p.machine := by have view := congrArg Part.machine off; exact view
  have recipe : (p.admitAfter h a).activeRecipe = p.activeRecipe := by
    have view := congrArg Part.activeRecipe off; exact view
  rw [Part.admitRate_eq]
  generalize p.admitAfter h a = q at *
  generalize write : q.rated h rate bit = r
  have record : r.record h = { q.record h with stored := { (q.record h).stored with r := learnRate (q.record h).stored.r rate } } := by
    rw [← write, Part.rated_record]
  have diag : (r.diag h).window = windowJoin p.machine.window bit (p.diag h).window ∧
      (r.diag h).isLive .rateDeviation = (p.diag h).isLive .rateDeviation := by
    rw [← write, Part.rated_diag, machine, window, ← live]; exact ⟨rfl, rfl⟩
  have machine' : r.machine = p.machine := by rw [← write, ← machine]; rfl
  have ok : r.timedOk h = p.timedOk h := by
    refine Part.timedOk_congr ?_ ?_
    · rw [← recipe, ← write]; rfl
    · rw [record, ← allowed]
  have rung' : (r.record h).OnRung (p.sampledRung h a) := by rw [record]; exact rung
  have warm' : (r.record h).warm = (p.record h).warm := by rw [record, ← warm]
  refine ⟨fun calm => ?_, fun deviates => ?_⟩
  · obtain ⟨same, window', live'⟩ := Part.evaluateRate_calm (p := r) (h := h) (by rw [machine', diag.1]; exact calm)
    rw [same, window', live', diag.1]
    exact ⟨rfl, rfl, rung'⟩
  · obtain ⟨taken, held, emptied, joins⟩ := Part.evaluateRate_deviant (p := r) (h := h)
      (by rw [machine', diag.1]; exact deviates)
    have after : (r.rungAfter h .rateDeviation).OnRung (if (p.diag h).isLive .rateDeviation = true ∨ 0 < (p.record h).warm
        then p.sampledRung h a else (p.sampledRung h a).decided (actionFor p.machine .rateDeviation) (p.timedOk h)
          .rateDeviation) := by
      unfold Part.rungAfter
      dsimp only
      rw [diag.2, warm', machine', ok]
      split
      · exact rung'
      · exact rung'.decided _ _ _
    rw [taken, ← diag.2]
    rw [after.1, rung'.1, diag.1] at joins
    rw [after.1, rung'.1] at emptied
    rw [diag.2] at *
    exact ⟨held, after, emptied, joins⟩

/-- The same rung may be seen from a part whose head differs in entry and context alone. -/
theorem Part.sampledRung_congr {a : Nat} (machine : q.machine = p.machine) (record : q.record h = p.record h)
    (rung : q.rungAfter h .afterrunOutlier = p.rungAfter h .afterrunOutlier) : q.sampledRung h a = p.sampledRung h a := by
  unfold Part.sampledRung; rw [machine, record, rung]

/-- What every dose that teaches leaves of its head, with a rate sample or without (R62 to R64). -/
theorem Part.KeptByRate.learns {a : Nat} {t : Part} (kept : Part.KeptByRate h (p.admitAfter h a) t) :
    t.entry h = p.entry h ∧ t.context h = p.context h ∧ (∀ g, g ≠ h → t.head g = p.head g) ∧
    (t.record h).stored.k = (p.record h).stored.k ∧ (t.record h).stored.t = (p.record h).stored.t ∧
    (t.record h).gen = (p.record h).gen ∧
    (distance a (p.record h).stored.a ≤ p.machine.outlierLimit →
      (t.record h).stored.a = learnAfter (p.record h).stored.a a ∧ (t.record h).outlierRun = 0 ∧
      (t.diag h).isLive .afterrunOutlier = false) ∧
    (p.farOff h a → (t.record h).stored.a = (p.record h).stored.a ∧ (t.record h).outlierRun = (p.record h).nextRun) ∧
    (p.farOff h a → (p.record h).nextRun ≠ 3 →
      (t.diag h).isLive .afterrunOutlier = (p.diag h).isLive .afterrunOutlier) ∧
    (p.farOff h a → (p.record h).nextRun = 3 → (t.diag h).isLive .afterrunOutlier = true ∧
      ((p.diag h).isLive .afterrunOutlier = false → (t.diag h).isHeld .afterrunOutlier = true)) := by
  obtain ⟨near, far, k, t', -, -, gen, -⟩ := Part.admitAfter_learns (h := h) (p := p) a
  have off := kept.off.trans (Part.admitAfter_offTable h p a)
  have after : (t.record h).stored.a = ((p.admitAfter h a).record h).stored.a := by
    have view := congrArg StoredHead.a kept.stored; exact view
  rw [after, kept.gen, kept.outlierRun, kept.live _ (by decide), kept.held _ (by decide)]
  refine ⟨Part.entry_of_offTable off h, Part.context_of_offTable off h,
    fun g other => Part.head_of_offHead (Part.offHead_of_offTable off) other, (congrArg StoredHead.k kept.stored).trans k,
    (congrArg StoredHead.t kept.stored).trans t', gen, near, far,
    fun far early => by rw [Part.admitAfter_diag_early far early], Part.admitAfter_found⟩

/-- Settles O27: the after-run sample first, then the rate sample on the head it leaves. -/
theorem settleExpiryTeachesTheHead : Obligations.SettleExpiryTeachesTheHead := by
  intro s h due c
  dsimp only
  rw [exec_settleExpiry]
  refine ⟨fun idle => by rw [Part.phaseExpiry_idle idle], fun st timer known => ?_⟩
  rw [Part.phaseExpiry_due st timer, Part.settleEnd_eq (p := s.part.clockTo due) known]
  have head := Part.settled_head (p := s.part.clockTo due) (h := h) c
  have off : ((s.part.clockTo due).settled h c).offHead h = (s.part.clockTo due).offHead h := Part.modHead_offHead h _ _
  have context := congrArg Head.context head
  have record : ((s.part.clockTo due).settled h c).record h = s.part.record h := by
    have view := congrArg Head.record head; exact view
  have diag : ((s.part.clockTo due).settled h c).diag h = s.part.diag h := by
    have view := congrArg Head.diag head; exact view
  have entry : ((s.part.clockTo due).settled h c).entry h =
      { s.part.entry h with state := .waitRelief, timer := .stopped } := by
    have view := congrArg Head.entry head; exact view
  have machine : ((s.part.clockTo due).settled h c).machine = s.part.machine := rfl
  have ok : ((s.part.clockTo due).settled h c).timedOk h = s.part.timedOk h := Part.timedOk_congr rfl (by rw [record])
  have rung : ((s.part.clockTo due).settled h c).rungAfter h .afterrunOutlier = s.part.rungAfter h .afterrunOutlier :=
    Part.rungAfter_eq rfl rfl record (by rw [diag])
  refine ⟨fun other => ?_, fun sn gives snap gen => ?_⟩
  · rw [Part.takeSamples_other context true (by rw [record]; exact other)]
    rfl
  · have gen' : c.settled.snap.map (·.gen) =
        some (((s.part.clockTo due).settled h c).record h).gen := by rw [record, ← gen, show c.settled.snap = some sn from snap]; rfl
    have gives' : c.settled.gives = true := gives
    have measured : c.settled.measuredAfter = roundNat (c.after * 10000) sn.k := by
      have factor : c.settled.k = sn.k := by unfold Context.k; rw [show c.settled.snap = some sn from snap]; rfl
      unfold Context.measuredAfter; rw [factor]; rfl
    have unrated := fun none_ => Part.takeSamples_unrated context gives' gen' none_
    have rated := fun rate bit sample => Part.takeSamples_rated (rate := rate) (bit := bit) context gives' gen' sample
    rw [measured] at unrated rated
    generalize roundNat (c.after * 10000) sn.k = a at *
    have first := Part.sampledRung_congr (a := a) machine record rung
    have others : ∀ g, g ≠ h → ((s.part.clockTo due).settled h c).head g = s.part.head g := fun g other =>
      (Part.head_of_offHead off other).trans rfl
    generalize (s.part.clockTo due).settled h c = q at *
    have kept : Part.KeptByRate h (q.admitAfter h a) (q.takeSamples h true) := by
      cases sample : c.settled.rateSample with
      | none => rw [unrated sample]; exact Part.keptByRate_refl
      | some rb => rw [rated rb.1 rb.2 sample]; exact Part.admitRate_kept _ _
    have learns := kept.learns
    have fresh : q.admitAfter h a = q.takeSamples h true → ((q.takeSamples h true).record h).stored.r =
        (s.part.record h).stored.r ∧ ((s.part.machine.outlierLimit < distance a (s.part.record h).stored.a →
          actionFor s.part.machine .afterrunOutlier ≠ .degrade) →
          ((q.takeSamples h true).record h).OnRung (s.part.sampledRung h a) ∧
          ((q.takeSamples h true).diag h).window = (s.part.diag h).window ∧
          ((q.takeSamples h true).diag h).isLive .rateDeviation = (s.part.diag h).isLive .rateDeviation) := fun same => by
      obtain ⟨-, -, -, -, rate, -⟩ := Part.admitAfter_learns (h := h) (p := q) a
      have window := Part.admitAfter_window (h := h) (p := q) (a := a)
      unfold Part.farOff at window
      rw [record, diag, machine] at window
      rw [← same, rate, record, ← first]
      exact ⟨rfl, fun permits => ⟨(Part.admitAfter_record a).2, window permits⟩⟩
    unfold Part.farOff at learns
    rw [record, diag, machine] at learns
    obtain ⟨entry', context', others', k, trim, generation, near, far, early, third⟩ := learns
    refine ⟨_, rfl, entry'.trans entry, context'.trans context, fun g other => (others' g other).trans (others g other), k,
      trim, generation, near, far, early, third, fun _ moved => ?_, fun none_ => ?_, fun t0 t1 start close fast => ?_⟩
    · cases sample : c.settled.rateSample with
      | none => rw [unrated sample]; exact Part.admitAfter_advised (by rw [first, record]; exact moved)
      | some rb =>
        rw [rated rb.1 rb.2 sample, Part.admitRate_eq]
        exact (Part.recomputeAdvisory_advised).evaluateRate
    · exact fresh (unrated (Context.rateSample_none (c := c.settled) none_)).symm
    · have times := Context.rateSample_of_times (c := c.settled) snap start close fast
      refine ⟨fun short => ?_, fun long => ?_⟩
      · rw [if_neg (Nat.not_le.mpr short)] at times
        obtain ⟨same, stays⟩ := fresh (unrated times).symm
        refine ⟨same, fun near => ?_, stays⟩
        rw [unrated times, Part.admitAfter_diag_near (by unfold Part.farOff; rw [record, machine]; exact near), diag]
      · rw [if_pos long] at times
        obtain ⟨-, -, -, -, rate, -⟩ := Part.admitAfter_learns (h := h) (p := q) a
        have learned := Part.admitRate_learns (h := h) (p := q) (a := a)
          (rate := roundNat (c.f * 10000000) (sn.k * (t1 - t0)))
          (bit := decide (sn.dev * sn.r < distance (roundNat (c.f * 10000000) (sn.k * (t1 - t0))) sn.r * 100))
        unfold Part.farOff at learned
        rw [record, diag, machine, first, ok] at learned
        have sampled := rated _ _ times
        have renewed : (q.takeSamples h true).Advised := by
          rw [sampled, Part.admitRate_eq]; exact (Part.recomputeAdvisory_advised).evaluateRate
        refine ⟨?_, renewed, fun permits calm => ?_, fun permits deviates => ?_⟩
        · rw [sampled, Part.stored_admitRate, rate, record]; rfl
        · rw [sampled]; exact (learned permits).1 (decide_eq_false calm)
        · rw [sampled]; exact (learned permits).2 (decide_eq_true deviates)

end Sys2Proof.Machine
end

section
/-! The outcome of a discharged container at the Head Table: the shadow judgement, the warm-up, and the decisions at its
end. -/

namespace Sys2Proof.Machine

open Sys2Proof

variable {h : HeadNo} {p q : Part}

/-! ### The shadow judgement (R85) -/

theorem HeadRecord.judged_cause {x : HeadRecord} :
    (x.cause ∈ [some FaultKind.meterSilent, some .meterRunaway, some .rateDeviation]) ↔
      (x.cause.any fun k => decide (k ∈ meterKinds)) = true := by
  cases x.cause with
  | none => simp
  | some k => cases k <;> decide

/-- The judgement writes the record alone: a return to FLOW keeps the deviation window (R85, R123). -/
theorem Part.applyJudgement_head (j : Option Judgement) : (p.applyJudgement h j).head h = { p.head h with
    record := (p.record h).judged j p.promoCount (p.diag h).meterLive } := by
  have stays : p.head h = { p.head h with record := p.record h } := rfl
  have writes : ∀ f : HeadRecord → HeadRecord, (p.modRecord h f).head h = { p.head h with record := f (p.record h) } :=
    fun f => by rw [Part.modRecord, Part.head_modHead, if_pos rfl]; rfl
  unfold Part.applyJudgement HeadRecord.judged
  cases j with
  | none =>
    dsimp only
    rw [ite_self]; exact stays
  | some j =>
    dsimp only
    by_cases takes : (p.record h).method = .timed ∧
        (p.record h).cause ∈ [some FaultKind.meterSilent, some .meterRunaway, some .rateDeviation]
    · rw [if_pos takes, if_pos (takes.imp_right HeadRecord.judged_cause.mp)]
      cases j with
      | implausible => exact writes _
      | plausible =>
        dsimp only
        split
        · rw [Part.setMethod_head, Diag.moved, if_neg fun moves => by cases moves.2]
          rfl
        · exact writes _
    · rw [if_neg takes, if_neg (mt (And.imp_right HeadRecord.judged_cause.mpr) takes)]; exact stays

/-- The record without its rung: what no decision and no judgement changes (R81, R85). -/
def HeadRecord.offRung (x : HeadRecord) : HeadRecord := { x with method := .flow, cause := none, promo := 0 }

theorem HeadRecord.judged_offRung (j : Option Judgement) (n : Nat) (meter : Bool) (x : HeadRecord) :
    (x.judged j n meter).offRung = x.offRung := by
  unfold HeadRecord.judged
  split
  · split
    · rfl
    · rfl
    · dsimp only; split <;> rfl
  · rfl

theorem HeadRecord.decided_offRung (a : Action) (ok : Bool) (k : FaultKind) (x : HeadRecord) :
    (x.decided a ok k).offRung = x.offRung := by
  unfold HeadRecord.decided
  split
  · rfl
  · rfl
  · rfl
  · split <;> rfl
  · rfl
  · rfl

theorem HeadRecord.OnRung.judged {x y : HeadRecord} (same : x.OnRung y) (j : Option Judgement) (n : Nat) (meter : Bool) :
    (x.judged j n meter).OnRung (y.judged j n meter) := by
  obtain ⟨method, cause, promo⟩ := same
  unfold HeadRecord.judged
  rw [method, cause, promo]
  split
  · split
    · exact ⟨method, cause, promo⟩
    · exact ⟨rfl, rfl, rfl⟩
    · dsimp only; split <;> exact ⟨rfl, rfl, rfl⟩
  · exact ⟨method, cause, promo⟩

/-! ### The decisions at the end of the warm-up (R121) -/

/-- Where the decisions over the live kinds stand, from a record `x` with the kinds `live`: the head is on the rung `y` of
the pure reading, and of the flags RATE_DEVIATION alone has gone, with a move to TIMED. -/
structure Part.Turn (h : HeadNo) (x : HeadRecord) (live : FaultKind → Bool) (q : Part) (y : HeadRecord) : Prop where
  rung : (q.record h).OnRung y
  others : ∀ k, k ≠ .rateDeviation → (q.diag h).isLive k = live k
  rate : (q.diag h).isLive .rateDeviation = true → live .rateDeviation = true
  moved : y.method = .timed ∧ x.method ≠ .timed → (q.diag h).isLive .rateDeviation = false
  gone : (q.diag h).isLive .rateDeviation = false → live .rateDeviation = true →
    y.method = .out ∨ y.method = .timed ∧ x.method ≠ .timed
  flow : y.method = .flow → x.method = .flow

/-- The step of `decidedAll` for one kind. -/
def HeadRecord.turn (m : MachineConfig) (ok : Bool) (live : FaultKind → Bool) (x y : HeadRecord) (k : FaultKind) :
    HeadRecord :=
  if live k && !(k == .rateDeviation && y.method == .timed && x.method != .timed) then y.decided (actionFor m k) ok k
  else y

theorem HeadRecord.decidedAll_eq (m : MachineConfig) (ok : Bool) (live : FaultKind → Bool) (x : HeadRecord) :
    x.decidedAll m ok live = allKinds.foldl (x.turn m ok live) x := rfl

theorem HeadRecord.decided_out {x : HeadRecord} (out : x.method = .out) (a : Action) (ok : Bool) (k : FaultKind) :
    x.decided a ok k = x := by
  unfold HeadRecord.decided; rw [out]; cases a <;> rfl

theorem HeadRecord.decided_flow {x : HeadRecord} {a : Action} {ok : Bool} {k : FaultKind}
    (flow : (x.decided a ok k).method = .flow) : x.method = .flow := by
  unfold HeadRecord.decided at flow
  split at flow
  · cases flow
  · cases flow
  · next at_ => exact at_
  · split at flow
    · cases flow
    · exact flow
  · exact flow
  · exact flow

theorem HeadRecord.decided_to_timed {x : HeadRecord} {a : Action} {ok : Bool} {k : FaultKind}
    (timed : (x.decided a ok k).method = .timed) : x.method = .flow ∨ x.method = .timed := by
  cases method : x.method with
  | flow => exact .inl rfl
  | timed => exact .inr rfl
  | out => rw [HeadRecord.decided_out method, method] at timed; cases timed

/-- A decided kind takes both readings one step further. -/
theorem Part.Turn.decides {x y : HeadRecord} {live : FaultKind → Bool} (turn : Part.Turn h x live q y) (k : FaultKind) :
    Part.Turn h x live (q.decideKind h k) (y.decided (actionFor q.machine k) (q.timedOk h) k) := by
  have head := Part.decideKind_head (p := q) (h := h) k
  have record : (q.decideKind h k).record h = q.decidedRecord h k := congrArg Head.record head
  have diag : (q.decideKind h k).diag h = (q.diag h).moved (q.record h) (q.decidedRecord h k) := congrArg Head.diag head
  have rung : (q.decidedRecord h k).OnRung (y.decided (actionFor q.machine k) (q.timedOk h) k) := turn.rung.decided _ _ _
  have keepsFlow := HeadRecord.decided_flow (x := y) (a := actionFor q.machine k) (ok := q.timedOk h) (k := k)
  have toTimed := HeadRecord.decided_to_timed (x := y) (a := actionFor q.machine k) (ok := q.timedOk h) (k := k)
  have staysOut : y.method = .out → (y.decided (actionFor q.machine k) (q.timedOk h) k).method = .out := fun out => by
    rw [HeadRecord.decided_out out]; exact out
  generalize y.decided (actionFor q.machine k) (q.timedOk h) k = z at *
  have rate : ((q.decideKind h k).diag h).isLive .rateDeviation = ((q.diag h).isLive .rateDeviation &&
      !(y.method != .timed && z.method == .timed)) := by
    rw [diag, Diag.isLive_moved, turn.rung.1, rung.1, decide_eq_true rfl, Bool.true_and]
  refine ⟨by rw [record]; exact rung, fun j other => ?_, fun live_ => ?_, fun ⟨timed, away⟩ => ?_, fun none_ was => ?_,
    fun flow => turn.flow (keepsFlow flow)⟩
  · rw [diag, Diag.isLive_moved, decide_eq_false other, Bool.false_and, Bool.not_false, Bool.and_true]
    exact turn.others j other
  · rw [rate, Bool.and_eq_true] at live_
    exact turn.rate live_.1
  · rw [rate]
    by_cases at_ : y.method = .timed
    · rw [turn.moved ⟨at_, away⟩]; rfl
    · simp [at_, timed]
  · rw [rate, Bool.and_eq_false_iff] at none_
    have later : z.method ≠ .flow → y.method = .timed ∧ x.method ≠ .timed ∨ y.method = .flow →
        z.method = .out ∨ z.method = .timed ∧ x.method ≠ .timed := fun away from_ => by
      have base : x.method ≠ .timed := from_.elim And.right fun flow => by rw [turn.flow flow]; decide
      cases method : z.method with
      | flow => exact absurd method away
      | timed => exact .inr ⟨rfl, base⟩
      | out => exact .inl rfl
    rcases none_ with gone | moves
    · rcases turn.gone gone was with out | timed
      · exact .inl (staysOut out)
      · exact later (fun flow => by rw [keepsFlow flow] at timed; cases timed.1) (.inl timed)
    · simp only [Bool.not_eq_false', Bool.and_eq_true, bne_iff_ne, beq_iff_eq] at moves
      exact later (by rw [moves.2]; decide) (.inr ((toTimed moves.2).resolve_right moves.1))

/-- A kind that is skipped changes neither reading. -/
theorem Part.Turn.step {x y : HeadRecord} {live : FaultKind → Bool} (turn : Part.Turn h x live q y) (k : FaultKind) :
    Part.Turn h x live (if (q.diag h).isLive k then q.decideKind h k else q)
      (x.turn q.machine (q.timedOk h) live y k) := by
  unfold HeadRecord.turn
  by_cases rate : k = .rateDeviation
  · subst rate
    cases now : (q.diag h).isLive .rateDeviation with
    | true =>
      have stays : ¬ (y.method = .timed ∧ x.method ≠ .timed) := fun moved => by
        rw [turn.moved moved] at now; cases now
      have cond : (live .rateDeviation && !(FaultKind.rateDeviation == .rateDeviation && y.method == .timed &&
          x.method != .timed)) = true := by
        rw [turn.rate now]
        simpa [imp_iff_not_or] using stays
      rw [if_pos rfl, if_pos cond]
      exact turn.decides _
    | false =>
      rw [if_neg (by decide)]
      split
      · next cond =>
        simp only [Bool.and_eq_true, Bool.not_eq_true', Bool.and_eq_false_iff, beq_self_eq_true] at cond
        obtain ⟨was, stays⟩ := cond
        have out : y.method = .out := (turn.gone now was).resolve_right fun ⟨timed, away⟩ => by
          simp [timed, away] at stays
        rw [HeadRecord.decided_out out]
        exact turn
      · exact turn
  · have cond : (live k && !(k == .rateDeviation && y.method == .timed && x.method != .timed)) = (q.diag h).isLive k := by
      rw [beq_eq_false_iff_ne.mpr rate, turn.others k rate]; simp
    rw [cond]
    split
    · exact turn.decides k
    · exact turn

/-- What a decision leaves alone beside the other heads: the record but for its rung, and the mark. -/
structure Part.Decided (h : HeadNo) (p q : Part) : Prop where
  off : q.offTable h = p.offTable h
  record : (q.record h).offRung = (p.record h).offRung
  mark : (q.diag h).mark = (p.diag h).mark

theorem Part.decided_refl : Part.Decided h p p := ⟨rfl, rfl, rfl⟩

theorem Part.Decided.trans {r : Part} (one : Part.Decided h p q) (two : Part.Decided h q r) : Part.Decided h p r :=
  ⟨two.off.trans one.off, two.record.trans one.record, two.mark.trans one.mark⟩

theorem Part.decideKind_decided (k : FaultKind) : Part.Decided h p (p.decideKind h k) := by
  have head := Part.decideKind_head (p := p) (h := h) k
  have record : (p.decideKind h k).record h = p.decidedRecord h k := congrArg Head.record head
  have diag : (p.decideKind h k).diag h = (p.diag h).moved (p.record h) (p.decidedRecord h k) := congrArg Head.diag head
  refine ⟨Part.decideKind_offTable h p k, ?_, by rw [diag, Diag.mark_moved]⟩
  rw [record]; exact HeadRecord.decided_offRung _ _ _ _

theorem Part.Decided.machine (same : Part.Decided h p q) : q.machine = p.machine := by
  have view := congrArg Part.machine (Part.offHeads_of_offHead (Part.offHead_of_offTable same.off)); exact view

theorem Part.Decided.timedOk (same : Part.Decided h p q) : q.timedOk h = p.timedOk h := by
  refine Part.timedOk_congr ?_ ?_
  · have view := congrArg Part.activeRecipe (Part.offHeads_of_offHead (Part.offHead_of_offTable same.off)); exact view
  · have view := congrArg (fun x : HeadRecord => x.stored.timedAllowed) same.record; exact view

/-- The decisions over the live kinds follow the pure reading, kind by kind. -/
theorem Part.decideLive_turns {x : HeadRecord} {live : FaultKind → Bool} {m : MachineConfig} {ok : Bool}
    (l : List FaultKind) : ∀ {q : Part} {y : HeadRecord}, Part.Turn h x live q y → q.machine = m → q.timedOk h = ok →
      Part.Turn h x live (l.foldl (fun q k => if (q.diag h).isLive k then q.decideKind h k else q) q)
        (l.foldl (x.turn m ok live) y) ∧
      Part.Decided h q (l.foldl (fun q k => if (q.diag h).isLive k then q.decideKind h k else q) q) := by
  induction l with
  | nil => exact fun turn _ _ => ⟨turn, Part.decided_refl⟩
  | cons k l ih =>
    intro q y turn machine allowed
    have one : Part.Decided h q (if (q.diag h).isLive k then q.decideKind h k else q) := by
      split
      · exact Part.decideKind_decided k
      · exact Part.decided_refl
    have turned := turn.step k
    rw [machine, allowed] at turned
    obtain ⟨last, rest⟩ := ih turned (one.machine.trans machine) (one.timedOk.trans allowed)
    exact ⟨last, one.trans rest⟩

theorem Part.decideLive_turn : Part.Turn h (p.record h) (p.diag h).isLive (p.decideLive h)
      ((p.record h).decidedAll p.machine (p.timedOk h) (p.diag h).isLive) ∧ Part.Decided h p (p.decideLive h) := by
  rw [HeadRecord.decidedAll_eq]
  refine Part.decideLive_turns allKinds ⟨⟨rfl, rfl, rfl⟩, fun _ _ => rfl, id, fun moved => absurd moved.1 moved.2,
    fun gone was => ?_, id⟩ rfl rfl
  rw [was] at gone; cases gone

end Sys2Proof.Machine
end

section
/-! The Head Table's count of an outcome, and what the work of a discharge leaves of the table. -/

namespace Sys2Proof.Machine

open Sys2Proof

variable {h : HeadNo} {p q : Part}

/-! ### The warm-up (R88, R121) -/

theorem HeadRecord.OnRung.turn {x x' y y' : HeadRecord} (base : x.OnRung x') (same : y.OnRung y') (m : MachineConfig)
    (ok : Bool) (live : FaultKind → Bool) (k : FaultKind) : (x.turn m ok live y k).OnRung (x'.turn m ok live y' k) := by
  unfold HeadRecord.turn
  rw [base.1, same.1]
  split
  · exact same.decided _ _ _
  · exact same

/-- The decisions read of the record its rung alone. -/
theorem HeadRecord.OnRung.decidedAll {x x' : HeadRecord} (base : x.OnRung x') (m : MachineConfig) (ok : Bool)
    (live : FaultKind → Bool) : (x.decidedAll m ok live).OnRung (x'.decidedAll m ok live) := by
  have folds : ∀ (l : List FaultKind) (y y' : HeadRecord), y.OnRung y' →
      (l.foldl (x.turn m ok live) y).OnRung (l.foldl (x'.turn m ok live) y') := fun l => by
    induction l with
    | nil => exact fun _ _ same => same
    | cons k l ih => exact fun y y' same => ih _ _ (base.turn same m ok live k)
  rw [HeadRecord.decidedAll_eq, HeadRecord.decidedAll_eq]
  exact folds _ _ _ base

/-- The rung and the flags of a head behind its warm-up count. -/
structure Part.Warmed (h : HeadNo) (p q : Part) : Prop where
  rung : (q.record h).OnRung (if (p.record h).warm = 1 then
    (p.record h).decidedAll p.machine (p.timedOk h) (p.diag h).isLive else p.record h)
  record : (q.record h).offRung = { (p.record h).offRung with warm := (p.record h).warm - 1 }
  live : ∀ k, k ≠ .rateDeviation → (q.diag h).isLive k = (p.diag h).isLive k
  mark : (q.diag h).mark = (p.diag h).mark

theorem Part.countWarmup_warmed : Part.Warmed h p (p.countWarmup h) := by
  have written := Part.record_modRecord_self (h := h) (p := p) fun x => { x with warm := (p.record h).warm - 1 }
  have diag : (p.modRecord h fun x => { x with warm := (p.record h).warm - 1 }).diag h = p.diag h :=
    Part.diag_modRecord h h _ p
  unfold Part.countWarmup
  dsimp only
  by_cases cold : (p.record h).warm = 0
  · rw [if_pos cold]
    refine ⟨?_, ?_, fun _ _ => rfl, rfl⟩
    · rw [if_neg (by rw [cold]; decide)]; exact ⟨rfl, rfl, rfl⟩
    · rw [cold, Nat.zero_sub, ← cold]; rfl
  · rw [if_neg cold]
    by_cases last : (p.record h).warm = 1
    · rw [if_pos last]
      obtain ⟨turn, decided⟩ := Part.decideLive_turn (h := h)
        (p := p.modRecord h fun x => { x with warm := (p.record h).warm - 1 })
      have ok : (p.modRecord h fun x => { x with warm := (p.record h).warm - 1 }).timedOk h = p.timedOk h :=
        Part.timedOk_congr rfl (by rw [written])
      refine ⟨?_, ?_, fun k other => ?_, ?_⟩
      · have base : ((p.modRecord h fun x => { x with warm := (p.record h).warm - 1 }).record h).OnRung (p.record h) := by
          rw [written]; exact ⟨rfl, rfl, rfl⟩
        have pure_ := base.decidedAll p.machine (p.timedOk h) (p.diag h).isLive
        have rung := turn.rung
        rw [ok, diag] at rung
        rw [if_pos last]
        exact ⟨rung.1.trans pure_.1, rung.2.1.trans pure_.2.1, rung.2.2.trans pure_.2.2⟩
      · rw [decided.record, written]; rfl
      · rw [turn.others k other, diag]
      · rw [decided.mark, diag]
    · rw [if_neg last]
      refine ⟨?_, ?_, fun k _ => by rw [diag], by rw [diag]⟩
      · rw [if_neg last, written]; exact ⟨rfl, rfl, rfl⟩
      · rw [written]; rfl

/-! ### The outcome (R89) -/

/-- The record of a head with the totals of an outcome (R89). -/
def HeadRecord.counted (c : Context) (x : HeadRecord) : HeadRecord := { x with
  doses := if c.used = .none then x.doses else totalUp x.doses
  rejects := if verdictOf c.status c.flags = .reject then totalUp x.rejects else x.rejects }

/-- What an outcome leaves of the table of its head. -/
structure Part.Outcome (h : HeadNo) (c : Context) (p q : Part) : Prop where
  rung : (q.record h).OnRung (if c.used ≠ .none ∧ (p.record h).warm = 1 then
    ((p.record h).judged c.judgement p.promoCount (p.diag h).meterLive).decidedAll p.machine (p.timedOk h) (p.diag h).isLive
    else (p.record h).judged c.judgement p.promoCount (p.diag h).meterLive)
  record : (q.record h).offRung = { ((p.record h).counted c).offRung with
    warm := if c.used = .none then (p.record h).warm else (p.record h).warm - 1 }
  live : ∀ k, k ≠ .rateDeviation → (q.diag h).isLive k = (p.diag h).isLive k
  mark : (q.diag h).mark = (p.diag h).mark

theorem Part.tableOutcome_outcome (c : Context) : Part.Outcome h c p (p.tableOutcome h c) := by
  have start : p.tableOutcome h c = if c.used = .none then
      (p.modRecord h (HeadRecord.counted c)).applyJudgement h c.judgement
      else ((p.modRecord h (HeadRecord.counted c)).applyJudgement h c.judgement).countWarmup h := rfl
  have written := Part.record_modRecord_self (h := h) (p := p) (HeadRecord.counted c)
  have diag : (p.modRecord h (HeadRecord.counted c)).diag h = p.diag h := Part.diag_modRecord h h _ p
  have head := Part.applyJudgement_head (p := p.modRecord h (HeadRecord.counted c)) (h := h) c.judgement
  have off := Part.applyJudgement_offTable h (p.modRecord h (HeadRecord.counted c)) c.judgement
  have promos : (p.modRecord h (HeadRecord.counted c)).promoCount = p.promoCount := rfl
  have sameRung : ((p.record h).counted c).OnRung (p.record h) := ⟨rfl, rfl, rfl⟩
  have judged := congrArg Head.record head
  have diag' := congrArg Head.diag head
  dsimp only at judged diag'
  rw [written, diag, promos] at judged
  have record' : ((p.modRecord h (HeadRecord.counted c)).applyJudgement h c.judgement).record h =
    ((p.record h).counted c).judged c.judgement p.promoCount (p.diag h).meterLive := judged
  have flags : ((p.modRecord h (HeadRecord.counted c)).applyJudgement h c.judgement).diag h = p.diag h :=
    Eq.trans diag' diag
  have rung : (((p.record h).counted c).judged c.judgement p.promoCount (p.diag h).meterLive).OnRung
      ((p.record h).judged c.judgement p.promoCount (p.diag h).meterLive) := sameRung.judged _ _ _
  have rest := HeadRecord.judged_offRung c.judgement p.promoCount (p.diag h).meterLive ((p.record h).counted c)
  have warm : (((p.record h).counted c).judged c.judgement p.promoCount (p.diag h).meterLive).warm = (p.record h).warm := by
    have view := congrArg HeadRecord.warm rest; exact view
  have machine : ((p.modRecord h (HeadRecord.counted c)).applyJudgement h c.judgement).machine = p.machine := by
    have view := congrArg Part.machine (Part.offHeads_of_offHead (Part.offHead_of_offTable off)); exact view
  have ok : ((p.modRecord h (HeadRecord.counted c)).applyJudgement h c.judgement).timedOk h = p.timedOk h := by
    refine Part.timedOk_congr ?_ ?_
    · have view := congrArg Part.activeRecipe (Part.offHeads_of_offHead (Part.offHead_of_offTable off)); exact view
    · rw [record']
      have view := congrArg (fun x : HeadRecord => x.stored.timedAllowed) rest; exact view
  rw [start]
  generalize (p.modRecord h (HeadRecord.counted c)).applyJudgement h c.judgement = q at *
  by_cases none_ : c.used = .none
  · rw [if_pos none_]
    refine ⟨?_, ?_, fun k _ => by rw [flags], by rw [flags]⟩
    · rw [if_neg fun both => both.1 none_, record']; exact rung
    · rw [record', rest, if_pos none_]; rfl
  · have warmed := Part.countWarmup_warmed (h := h) (p := q)
    rw [if_neg none_]
    refine ⟨?_, ?_, fun k other => by rw [warmed.live k other, flags], by rw [warmed.mark, flags]⟩
    · have taken := warmed.rung
      rw [record', warm, machine, ok, flags] at taken
      by_cases last : (p.record h).warm = 1
      · have pure_ := rung.decidedAll p.machine (p.timedOk h) (p.diag h).isLive
        rw [if_pos last] at taken
        rw [if_pos ⟨none_, last⟩]
        exact ⟨taken.1.trans pure_.1, taken.2.1.trans pure_.2.1, taken.2.2.trans pure_.2.2⟩
      · rw [if_neg last] at taken
        rw [if_neg fun both => last both.2]
        exact ⟨taken.1.trans rung.1, taken.2.1.trans rung.2.1, taken.2.2.trans rung.2.2⟩
    · rw [warmed.record, record', rest, warm, if_neg none_]

end Sys2Proof.Machine
end

section
/-! The work of a discharge before the outcome: the head is shut, the track completes its record, and the reports of the
container fall. -/

namespace Sys2Proof.Machine

open Sys2Proof

variable {h g : HeadNo} {p q : Part}

/-! ### The shut head (R35) -/

/-- The container of a head was pressurised and has not been vented (R35). -/
def Entry.unvented (e : Entry) : Bool := e.pressurised && !e.vented

/-- The context of a container whose head is shut (R35, R61). -/
def Context.shut (c : Context) : Context :=
  let c := if c.filling then c.abortFill else c
  if c.afterState = .counting then { c with afterState := .discarded } else c

/-- The context of a container at its end, with RELIEF_SHORT where it is due (R35). -/
def Context.ended (short : Bool) (c : Context) : Context := if short then c.shut.flag .reliefShort else c.shut

theorem Part.shutHead_head {c : Context} (known : p.context h = some c) : (p.shutHead h).head h = { p.head h with
    entry := { p.entry h with gas := false, fast := false, fine := false, relief := false, timer := .stopped }
    context := some c.shut } := by
  have context : (p.head h).context = some c := known
  rw [Part.shutHead, Part.head_modHead, if_pos rfl, context]
  rfl

theorem Part.shutHead_offHead : (p.shutHead h).offHead h = p.offHead h := Part.modHead_offHead h _ p

theorem Part.reliefCheck_eq : p.reliefCheck h =
    if (p.entry h).unvented then (p.addContextFlag h .reliefShort).detect h .reliefShort else p := rfl

/-- The head behind the first two steps of a discharge. -/
structure Part.Shut (h : HeadNo) (c : Context) (p q : Part) : Prop where
  off : q.offHead h = p.offHead h
  entry : q.entry h = { p.entry h with gas := false, fast := false, fine := false, relief := false, timer := .stopped }
  context : q.context h = some (c.ended (p.entry h).unvented)
  record : q.record h = if (p.entry h).unvented then p.rungAfter h .reliefShort else p.record h
  diag : q.diag h = if (p.entry h).unvented && !(p.diag h).isLive .reliefShort then
    ((p.diag h).raise .reliefShort).moved (p.record h) (p.rungAfter h .reliefShort) else p.diag h

theorem Part.shut_shut {c : Context} (known : p.context h = some c) :
    Part.Shut h c p ((p.shutHead h).reliefCheck h) := by
  have off := Part.shut_offHead (h := h) (p := p)
  have head := Part.shutHead_head known
  have entry : (p.shutHead h).entry h =
      { p.entry h with gas := false, fast := false, fine := false, relief := false, timer := .stopped } := by
    have view := congrArg Head.entry head; exact view
  have context : (p.shutHead h).context h = some c.shut := by have view := congrArg Head.context head; exact view
  have record : (p.shutHead h).record h = p.record h := by have view := congrArg Head.record head; exact view
  have diag : (p.shutHead h).diag h = p.diag h := by have view := congrArg Head.diag head; exact view
  have short : ((p.shutHead h).entry h).unvented = (p.entry h).unvented := by rw [entry]; rfl
  have rung : ((p.shutHead h).addContextFlag h .reliefShort).rungAfter h .reliefShort = p.rungAfter h .reliefShort :=
    Part.rungAfter_congr ((Part.addContextFlag_offHead h _ _).trans Part.shutHead_offHead)
      (by rw [Part.record_addContextFlag, record]) (by rw [Part.diag_addContextFlag, diag])
  rw [Part.reliefCheck_eq, short] at off ⊢
  cases unvented : (p.entry h).unvented with
  | false =>
    rw [unvented] at off
    refine ⟨off, entry, ?_, ?_, ?_⟩
    · rw [unvented]; exact context
    · rw [unvented]; exact record
    · rw [unvented]; exact diag
  | true =>
    rw [unvented] at off
    refine ⟨off, ?_, ?_, ?_, ?_⟩
    · rw [if_pos rfl, Part.entry_detect, Part.entry_addContextFlag, entry]
    · rw [if_pos rfl, Part.context_detect, Part.context_addContextFlag context, Context.ended, unvented, if_pos rfl]; rfl
    · rw [if_pos rfl, Part.record_detect, rung, unvented, if_pos rfl]
    · rw [if_pos rfl, Part.diag_detect, rung, Part.record_addContextFlag, Part.diag_addContextFlag, record, diag, unvented]
      cases (p.diag h).isLive .reliefShort <;> rfl

/-! ### The track (R96 to R98) -/

/-- The track's work at a discharge, as the head and the links see it. -/
structure Part.Tracked (h : HeadNo) (d : Discharged) (r : TrackRecord) (p q : Part) : Prop where
  links : q.links = (p.enqueue .inspection ⟨false, 0xB1, resultPayload r d⟩).links
  control : q.control = { p.control with discharged := (p.control.discharged + 1) % 4294967296 }
  record : ∃ n, q.record h = { p.record h with uninspected := n }
  diag : q.diag h = p.diag h
  away : isOldest p.track h = false → (q.record h).uninspected = totalUp (p.record h).uninspected

theorem Part.enqueue_head (port : Port) (f : OutFrame) (g : HeadNo) : (p.enqueue port f).head g = p.head g := by
  unfold Part.enqueue; dsimp only; split
  · cases port <;> rfl
  · rfl

theorem Part.countUninspected_table (g : HeadNo) : ∃ n, (p.countUninspected g).record h = { p.record h with uninspected := n } := by
  unfold Part.countUninspected
  rw [Part.record_modRecord]
  split
  · next same => subst same; exact ⟨_, rfl⟩
  · exact ⟨(p.record h).uninspected, rfl⟩

theorem Part.ageByCount_table : (∃ n, p.ageByCount.record h = { p.record h with uninspected := n }) ∧
    p.ageByCount.diag h = p.diag h ∧ p.ageByCount.links = p.links ∧ p.ageByCount.control = p.control := by
  have same : (∃ n, p.record h = { p.record h with uninspected := n }) ∧ p.diag h = p.diag h ∧ p.links = p.links ∧
      p.control = p.control := ⟨⟨_, rfl⟩, rfl, rfl, rfl⟩
  unfold Part.ageByCount; split
  · unfold Part.ageOldest; split
    · exact same
    · next r _ =>
      refine ⟨Part.countUninspected_table _, ?_, rfl, rfl⟩
      unfold Part.countUninspected
      rw [Part.diag_modRecord]; rfl
  · exact same

theorem Part.trackDischarge_tracked {c : Context} {r : TrackRecord}
    (stands : p.track.find? (TrackRecord.standsOn h) = some r) :
    Part.Tracked h (dischargedOf c) r p (p.trackDischarge h c) := by
  unfold Part.trackDischarge
  rw [stands]
  dsimp only
  generalize handed : p.enqueue .inspection ⟨false, 0xB1, resultPayload r (dischargedOf c)⟩ = q
  have head : ∀ g, q.head g = p.head g := fun g => by rw [← handed, Part.enqueue_head]
  have record : q.record h = p.record h := congrArg Head.record (head h)
  have diag : q.diag h = p.diag h := congrArg Head.diag (head h)
  have control : q.control = p.control := by rw [← handed, Part.enqueue_control]
  split
  · next oldest =>
    obtain ⟨⟨n, counted⟩, flags, links, commands⟩ :=
      Part.ageByCount_table (h := h) (p := { q with track := writeResult h (dischargedOf c) q.track })
    refine ⟨?_, ?_, ⟨n, ?_⟩, ?_, fun away => by rw [oldest] at away; cases away⟩
    · rw [handed]; exact links
    · exact congrArg (fun k : Control => { k with discharged := (k.discharged + 1) % 4294967296 }) (commands.trans control)
    · refine counted.trans ?_
      rw [← record]; rfl
    · exact flags.trans diag
  · next young =>
    have written := Part.record_modRecord_self (h := h)
      (p := { q with track := q.track.eraseP (TrackRecord.standsOn h) }) fun x =>
        { x with uninspected := totalUp x.uninspected }
    have flags := Part.diag_modRecord h h (fun x => { x with uninspected := totalUp x.uninspected })
      { q with track := q.track.eraseP (TrackRecord.standsOn h) }
    refine ⟨by rw [handed]; rfl, ?_, ⟨totalUp (p.record h).uninspected, ?_⟩, ?_, fun _ => ?_⟩
    · rw [← control]; rfl
    · refine written.trans ?_
      rw [← record]; rfl
    · exact flags.trans diag
    · rw [← record]
      exact congrArg HeadRecord.uninspected written

end Sys2Proof.Machine
end

section
/-! The work of a discharge behind the outcome: the reports of the container, the removal of its context, and REST. -/

namespace Sys2Proof.Machine

open Sys2Proof

variable {h g : HeadNo} {p q : Part}

/-! ### The reports of a container (R35, R119) -/

/-- The live kinds behind the reports of a container with these flags (R119). -/
def reportedLive (flags : BitVec 13) (live : FaultKind → Bool) (k : FaultKind) : Bool :=
  match k with
  | .sealLost => live k && hasFlag flags .sealLost
  | .windowOverrun => live k && hasFlag flags .windowOverrun
  | .reliefShort => live k && hasFlag flags .reliefShort
  | _ => live k

/-- The falling of a kind whose flag is not in the context. -/
theorem Part.clearUnless_diag (flag : Bool) (k : FaultKind) : ((if flag then p else p.clearKind h k).record h = p.record h) ∧
    (∀ j, ((if flag then p else p.clearKind h k).diag h).isLive j =
      ((p.diag h).isLive j && (decide (j ≠ k) || flag))) ∧
    ((if flag then p else p.clearKind h k).diag h).mark = (p.diag h).mark := by
  cases flag with
  | true => exact ⟨rfl, fun j => by simp, rfl⟩
  | false =>
    have fallen : (p.clearKind h k).diag h = (p.diag h).fall k := by
      rw [Part.clearKind, Part.diag_modDiag, if_pos rfl]
    refine ⟨Part.record_modDiag h h _ p, fun j => ?_, ?_⟩
    · rw [if_neg (by decide), fallen, Diag.isLive_fall, Bool.or_false]
    · rw [if_neg (by decide), fallen]; rfl

theorem Part.dischargeReports_table (flags : BitVec 13) :
    (p.dischargeReports h flags).record h = p.record h ∧
    (∀ k, ((p.dischargeReports h flags).diag h).isLive k = reportedLive flags (p.diag h).isLive k) ∧
    ((p.dischargeReports h flags).diag h).mark = (p.diag h).mark := by
  unfold Part.dischargeReports
  obtain ⟨r1, l1, m1⟩ := Part.clearUnless_diag (p := p) (h := h) (hasFlag flags .sealLost) .sealLost
  dsimp only
  generalize (if hasFlag flags .sealLost then p else p.clearKind h .sealLost) = p1 at *
  obtain ⟨r2, l2, m2⟩ := Part.clearUnless_diag (p := p1) (h := h) (hasFlag flags .windowOverrun) .windowOverrun
  generalize (if hasFlag flags .windowOverrun then p1 else p1.clearKind h .windowOverrun) = p2 at *
  obtain ⟨r3, l3, m3⟩ := Part.clearUnless_diag (p := p2) (h := h) (hasFlag flags .reliefShort) .reliefShort
  refine ⟨r3.trans (r2.trans r1), fun k => ?_, m3.trans (m2.trans m1)⟩
  rw [l3, l2, l1]
  cases k <;> simp [reportedLive]

/-! ### The removal of the context (R48, R57, R156) -/

theorem Part.dischargeRunaway_table : (p.dischargeRunaway h).record h = p.record h ∧
    (∀ k, k ≠ .meterRunaway → ((p.dischargeRunaway h).diag h).isLive k = (p.diag h).isLive k) ∧
    ((p.dischargeRunaway h).diag h).mark = (p.diag h).mark := by
  have noted : ∀ (q : Part) (f : Head → Head), (∀ x, (f x).record = x.record ∧ (f x).diag = x.diag) →
      (q.modHead h f).record h = q.record h ∧ (q.modHead h f).diag h = q.diag h := fun q f same => by
    rw [Part.record, Part.diag, Part.head_modHead, if_pos rfl]; exact same _
  have judged : (p.judgeRunaway h).record h = p.record h ∧
      (∀ k, k ≠ .meterRunaway → ((p.judgeRunaway h).diag h).isLive k = (p.diag h).isLive k) ∧
      ((p.judgeRunaway h).diag h).mark = (p.diag h).mark := by
    have head : (p.judgeRunaway h).head h = { p.head h with
        diag := if (p.head h).runaway.count ≤ p.machine.runawayLimit then (p.diag h).fall .meterRunaway else p.diag h
        runaway := { (p.head h).runaway with count := 0, reported := false } } := by
      rw [Part.judgeRunaway_eq, Part.head_modHead, if_pos rfl]; rfl
    have record : (p.judgeRunaway h).record h = p.record h := by have view := congrArg Head.record head; exact view
    have diag := congrArg Head.diag head
    dsimp only at diag
    refine ⟨record, fun k other => ?_, ?_⟩
    · rw [Part.diag, diag]; split
      · simp [other]
      · rfl
    · rw [Part.diag, diag]; split <;> rfl
  unfold Part.dischargeRunaway
  dsimp only
  split
  · obtain ⟨record, diag⟩ := noted p (fun x => { x with runaway := { x.runaway with filled := false } })
      fun _ => ⟨rfl, rfl⟩
    rw [record, diag]; exact ⟨rfl, fun _ _ => rfl, rfl⟩
  · obtain ⟨record, diag⟩ := noted (p.judgeRunaway h) (fun x => { x with runaway := { x.runaway with filled := false } })
      fun _ => ⟨rfl, rfl⟩
    rw [record, diag]; exact judged

/-- A part whose container is gone from a head: what the removal of the context leaves (R48, R156). -/
structure Part.Removed (h : HeadNo) (p q : Part) : Prop where
  head : ∀ g, g ≠ h → q.head g = p.head g
  entry : q.entry h = p.entry h
  context : q.context h = none
  record : q.record h = p.record h
  live : ∀ k, k ≠ .meterRunaway → (q.diag h).isLive k = (p.diag h).isLive k
  mark : (q.diag h).mark = (p.diag h).mark
  links : q.links = p.links
  track : q.track = p.track
  now : q.now = p.now
  machine : q.machine = p.machine
  advised : p.Advised → q.Advised
  discharged : q.control.discharged = p.control.discharged
  prod : q.control.prod = if p.control.prod = .stopping ∧ ∀ g, g ≠ h → p.context g = none then .standby
    else p.control.prod

theorem Part.dischargeRunaway_advised (advised : p.Advised) : (p.dischargeRunaway h).Advised := by
  have noted : ∀ (q : Part) (f : Head → Head), (∀ x, (f x).record = x.record) → q.Advised → (q.modHead h f).Advised :=
    fun q f same adv => adv.of_same rfl rfl rfl rfl fun g => by
      rw [Part.record, Part.head_modHead]; split
      · next at_ => rw [at_, same]; rfl
      · rfl
  unfold Part.dischargeRunaway
  dsimp only
  split
  · exact noted _ _ (fun _ => rfl) advised
  · rw [Part.judgeRunaway_eq]
    exact noted _ _ (fun _ => rfl) (noted _ _ (fun _ => rfl) advised)

theorem Part.removeContext_removed : Part.Removed h p (p.removeContext h) := by
  obtain ⟨record, live, mark⟩ := Part.dischargeRunaway_table (p := p) (h := h)
  have off := Part.dischargeRunaway_offTable h p
  have offHead := Part.offHead_of_offTable off
  have advised := Part.dischargeRunaway_advised (p := p) (h := h)
  have entry := Part.entry_of_offTable off h
  have contexts := Part.context_of_offTable off
  have control : (p.dischargeRunaway h).control = p.control := Part.control_of_offHeads (Part.offHeads_of_offHead offHead)
  have start : p.removeContext h = (fun q : Part =>
      if q.control.prod = .stopping ∧ q.contextCount = 0 then q.setProd .standby else q)
        ((p.dischargeRunaway h).modHead h fun x => { x with context := none }) := rfl
  have now := Part.now_of_offHead offHead
  have machine : (p.dischargeRunaway h).machine = p.machine := by
    have view := congrArg Part.machine (Part.offHeads_of_offHead offHead); exact view
  have links : (p.dischargeRunaway h).links = p.links := by
    have view := congrArg Part.links (Part.offHeads_of_offHead offHead); exact view
  have track : (p.dischargeRunaway h).track = p.track := Part.track_of_offHead offHead
  rw [start]
  generalize p.dischargeRunaway h = q at *
  have gone : ∀ g, (q.modHead h fun x => { x with context := none }).head g =
      if g = h then { q.head h with context := none } else q.head g :=
    fun g => Part.head_modHead h g _ _
  have own := (gone h).trans (if_pos rfl)
  have bare : (q.modHead h fun x => { x with context := none }).contextCount = 0 ↔
      ∀ g, g ≠ h → p.context g = none := by
    rw [Part.contextCount_eq_zero]
    refine ⟨fun none_ g other => ?_, fun none_ g => ?_⟩
    · have view := none_ g
      rw [Part.context, gone, if_neg other] at view
      exact (contexts g).symm.trans view
    · rw [Part.context, gone]
      split
      · rfl
      · next other => exact (contexts g).trans (none_ g other)
  have kept : ∀ c : Control, c.discharged = p.control.discharged → c.activeSlot = p.control.activeSlot →
      c.prod = (if p.control.prod = .stopping ∧ ∀ g, g ≠ h → p.context g = none then .standby else p.control.prod) →
      Part.Removed h p { q.modHead h fun x => { x with context := none } with control := c } :=
    fun c discharged slot prod => by
      have diag : ∀ c : Control, ({ q.modHead h fun x => { x with context := none } with
          control := c } : Part).diag h = q.diag h := fun _ => by
        have view := congrArg Head.diag own; exact view
      refine ⟨fun g other => ?_, ?_, ?_, ?_, fun k other => by rw [diag]; exact live k other, by rw [diag]; exact mark, links,
        track, now, machine, fun adv => ?_, discharged, prod⟩
      · exact ((gone g).trans (if_neg other)).trans (Part.head_of_offHead offHead other)
      · have view := congrArg Head.entry own; exact Eq.trans view entry
      · have view := congrArg Head.context own; exact view
      · have view := congrArg Head.record own; exact Eq.trans view record
      · refine (advised adv).of_same rfl rfl rfl ?_ fun g => ?_
        · have slots : c.activeSlot = q.control.activeSlot := by rw [control]; exact slot
          have recipe : ∀ (r : Part) (c : Control), c.activeSlot = r.control.activeSlot →
              ({ r with control := c } : Part).activeRecipe = r.activeRecipe := fun r c same => by
            unfold Part.activeRecipe; rw [show ({ r with control := c } : Part).control = c from rfl, same]
          exact recipe (q.modHead h fun x => { x with context := none }) c slots
        · refine congrArg HeadRecord.rating ?_
          by_cases same : g = h
          · subst same
            have view := congrArg Head.record own; exact view
          · exact congrArg Head.record ((gone g).trans (if_neg same))
  have commands : (q.modHead h fun x => { x with context := none }).control = p.control := control
  dsimp only
  split
  · next last =>
    rw [commands, bare] at last
    have stopping : (q.modHead h fun x => { x with context := none }).control.prod = .stopping := by
      rw [commands]; exact last.1
    rw [Part.setProd_of_stopping stopping]
    exact kept _ (by rw [commands]) (by rw [commands]) (if_pos last).symm
  · next more =>
    rw [commands, bare] at more
    have removed := kept p.control rfl rfl (if_neg more).symm
    rw [← commands] at removed
    exact removed

/-! ### REST (R35, R39) -/

/-- The entry of a head that enters REST, where a coil test may begin (R39). -/
def Entry.rested (tests : Bool) (now : Nat) (e : Entry) : Entry :=
  if tests then { e with state := .testing, timer := .running (now + 20), reports := noReports }
  else { e with state := .rest }

theorem Part.enterRest_head : (p.enterRest h).head h = { p.head h with
    entry := (p.entry h).rested (p.mayTest h) p.now } := by
  have entered : ∀ (q : Part) (f : Entry → Entry), (q.modEntry h f).head h = { q.head h with entry := f (q.entry h) } :=
    fun q f => by rw [Part.modEntry, Part.head_modHead, if_pos rfl]; rfl
  have same : (p.modEntry h fun e => { e with state := .rest }).mayTest h = p.mayTest h := by
    unfold Part.mayTest; rw [Part.record_modEntry, Part.diag_modEntry]; rfl
  unfold Part.enterRest Entry.rested
  dsimp only
  rw [same]
  split
  · rw [Part.beginTest, entered, entered, Part.entry_modEntry, if_pos rfl]; rfl
  · exact entered _ _

theorem Part.enterRest_advised (advised : p.Advised) : (p.enterRest h).Advised := by
  have entered : ∀ (q : Part) (f : Entry → Entry), q.Advised → (q.modEntry h f).Advised := fun q f adv =>
    adv.of_same rfl rfl rfl rfl fun g => by rw [Part.record_modEntry]
  unfold Part.enterRest
  dsimp only
  split
  · exact entered _ _ (entered _ _ advised)
  · exact entered _ _ advised

theorem Part.mayTest_iff : p.mayTest h = true ↔ (p.record h).stored.inService = true ∧
    p.control.prod ∉ [Prod.config, .drain, .safe] ∧ (p.machine.mode = .everyRev ∨ (p.diag h).mark = true) := by
  have bars : p.control.prod.barsTests = true ↔ p.control.prod ∈ [Prod.config, .drain, .safe] := by
    cases p.control.prod <;> decide
  simp only [Part.mayTest, Bool.and_eq_true, Bool.or_eq_true, Bool.not_eq_true', beq_iff_eq, and_assoc, ← bars,
    Bool.not_eq_true]

end Sys2Proof.Machine
end

section
/-! A whole discharge, and the statement about its crossing. -/

namespace Sys2Proof.Machine

open Sys2Proof

variable {h g : HeadNo} {p q : Part}

/-! ### The result of a container (R34, R61, R92) -/

/-- The discharge fields of a container whose head is shut, written out from the context as it was (R35, R92). -/
def Context.result (short : Bool) (c : Context) : Discharged where
  revision := c.revision
  v := c.v
  used := c.used
  status := if c.filling then .aborted else c.status
  e := c.snap.map (·.e)
  dosed := c.dosed
  flags := if short then addFlag c.flags .reliefShort else c.flags
  verdict := verdictOf (if c.filling then .aborted else c.status) (if short then addFlag c.flags .reliefShort else c.flags)

/-- Shutting the head aborts a fill and ends the after-run count, and changes nothing else of the context (R35). -/
theorem Context.ended_eq (short : Bool) (c : Context) : c.ended short =
    { c with
      filling := (c.ended short).filling, openTimer := (c.ended short).openTimer
      silenceTimer := (c.ended short).silenceTimer, afterState := (c.ended short).afterState
      status := if c.filling then .aborted else c.status
      flags := if short then addFlag c.flags .reliefShort else c.flags } := by
  unfold Context.ended Context.shut
  cases short
  all_goals
    simp only [Bool.false_eq_true, if_false, if_true]
    split <;> split <;> rfl

theorem dischargedOf_ended (short : Bool) (c : Context) : dischargedOf (c.ended short) = c.result short := by
  rw [Context.ended_eq]; rfl

theorem Part.rungAfter_offRung (k : FaultKind) : (p.rungAfter h k).offRung = (p.record h).offRung := by
  unfold Part.rungAfter; dsimp only; split
  · rfl
  · exact HeadRecord.decided_offRung _ _ _ _

/-! ### The completion of a container (R35) -/

theorem HeadRecord.OnRung.trans {x y z : HeadRecord} (one : x.OnRung y) (two : y.OnRung z) : x.OnRung z :=
  ⟨one.1.trans two.1, one.2.1.trans two.2.1, one.2.2.trans two.2.2⟩

/-- Whether a meter kind is among the live ones. -/
def meterAmong (live : FaultKind → Bool) : Bool := live .meterSilent || live .meterRunaway || live .rateDeviation

theorem Diag.meterLive_eq (d : Diag) : d.meterLive = meterAmong d.isLive := by
  simp [Diag.meterLive, meterKinds, meterAmong, Bool.or_assoc]

/-- The rung a container leaves its head on, from a record, by the judgement and by the kinds live behind its reports (R85,
R121). -/
def Part.outcomeRung (p : Part) (h : HeadNo) (c : Context) (live : FaultKind → Bool) (x : HeadRecord) : HeadRecord :=
  if c.used ≠ .none ∧ x.warm = 1 then
    (x.judged c.judgement p.promoCount (meterAmong live)).decidedAll p.machine (p.timedOk h) live
  else x.judged c.judgement p.promoCount (meterAmong live)

/-- What the completion of the container of a head with context `c` and record `r` leaves, before the head enters REST;
`s` is the part with the head shut (R35, R48, R96 to R98). -/
structure Part.Closed (h : HeadNo) (c : Context) (r : TrackRecord) (p s y : Part) : Prop where
  entry : y.entry h = { p.entry h with gas := false, fast := false, fine := false, relief := false, timer := .stopped }
  context : y.context h = none
  others : ∀ g, g ≠ h → y.entry g = p.entry g ∧ y.context g = p.context g
  links : y.links = (p.enqueue .inspection ⟨false, 0xB1, resultPayload r (c.result (p.entry h).unvented)⟩).links
  discharged : y.control.discharged = (p.control.discharged + 1) % 4294967296
  prod : y.control.prod = if p.control.prod = .stopping ∧ ∀ g, g ≠ h → p.context g = none then .standby
    else p.control.prod
  track : y.track = dischargeTrack p.machine.inspection h (c.result (p.entry h).unvented) p.track
  now : y.now = p.now
  machine : y.machine = p.machine
  away : isOldest p.track h = false → (y.record h).uninspected = totalUp (p.record h).uninspected
  totals : ∃ n, (y.record h).offRung = { ((p.record h).counted (c.ended (p.entry h).unvented)).offRung with
    uninspected := n, warm := if c.used = .none then (p.record h).warm else (p.record h).warm - 1 }
  rung : (y.record h).OnRung (p.outcomeRung h c
    (reportedLive (c.ended (p.entry h).unvented).flags (s.diag h).isLive) (s.record h))
  live : ∀ k, k ≠ .rateDeviation → k ≠ .meterRunaway → (y.diag h).isLive k =
    reportedLive (c.ended (p.entry h).unvented).flags (s.diag h).isLive k
  mark : (y.diag h).mark = (s.diag h).mark
  advised : y.Advised

theorem Part.enqueue_links_of_offHeads (offs : q.offHeads = p.offHeads) (port : Port) (f : OutFrame) :
    (q.enqueue port f).links = (p.enqueue port f).links := by
  have view := congrArg (fun r : Part => (r.enqueue port f).links) offs
  have same : ∀ r : Part, (r.offHeads.enqueue port f).links = (r.enqueue port f).links := fun r => by
    have port' : r.offHeads.port port = r.port port := by cases port <;> rfl
    unfold Part.enqueue
    rw [port']
    dsimp only
    split
    · cases port <;> rfl
    · rfl
  exact (same q).symm.trans (view.trans (same p))

theorem Part.completeContainer_closed {c : Context} {r : TrackRecord} (known : p.context h = some c)
    (stands : p.track.find? (TrackRecord.standsOn h) = some r) :
    ∃ s, Part.Shut h c p s ∧ Part.Closed h c r p s (p.completeContainer h) := by
  have shut := Part.shut_shut known
  have steps : p.completeContainer h = (fun s : Part => Part.removeContext h (Part.recomputeAdvisory (Part.tableOutcome h
      (c.ended (p.entry h).unvented) (Part.dischargeReports h (c.ended (p.entry h).unvented).flags
        (s.trackDischarge h (c.ended (p.entry h).unvented)))))) ((p.shutHead h).reliefCheck h) := by
    unfold Part.completeContainer
    simp only [shut.context]
  rw [steps]
  generalize (p.shutHead h).reliefCheck h = s at *
  refine ⟨s, shut, ?_⟩
  dsimp only
  have result := dischargedOf_ended (p.entry h).unvented c
  have ends := Context.ended_eq (p.entry h).unvented c
  have used : (c.ended (p.entry h).unvented).used = c.used := by rw [ends]
  have judgement : (c.ended (p.entry h).unvented).judgement = c.judgement := by rw [ends]
  have offs := Part.offHeads_of_offHead shut.off
  have offTrack := Part.offTrack_of_offHeads offs
  have stands' : s.track.find? (TrackRecord.standsOn h) = some r := by rw [Part.track_of_offHead shut.off]; exact stands
  have base : (s.record h).offRung = (p.record h).offRung := by
    rw [shut.record]; split
    · exact Part.rungAfter_offRung _
    · rfl
  generalize ends_at : c.ended (p.entry h).unvented = ce at *
  have tracked := Part.trackDischarge_tracked (c := ce) stands'
  have bodies := Part.trackDischarge_bodies h s ce
  have trackOff := (Part.trackDischarge_offTrack h s ce).trans offTrack
  have track := Part.trackDischarge_track h s (c := ce) stands'
  generalize s.trackDischarge h ce = u at *
  obtain ⟨reported, reportedLives, reportedMark⟩ := Part.dischargeReports_table (p := u) (h := h) ce.flags
  have reportsOff := Part.dischargeReports_offTable h u ce.flags
  generalize u.dischargeReports h ce.flags = v at *
  have outcome := Part.tableOutcome_outcome (p := v) (h := h) ce
  have tableOff := (Part.tableOutcome_offTable h v ce).trans reportsOff
  generalize v.tableOutcome h ce = w at *
  have removed := Part.removeContext_removed (p := w.recomputeAdvisory) (h := h)
  generalize w.recomputeAdvisory.removeContext h = y at *
  have rest := Part.offHeads_of_offHead (Part.offHead_of_offTable tableOff)
  have restTrack := (Part.offTrack_of_offHeads rest).trans trackOff
  have heads : ∀ g, w.entry g = s.entry g ∧ w.context g = s.context g := fun g =>
    ⟨(Part.entry_of_offTable tableOff g).trans (Part.entry_of_bodies bodies g),
      (Part.context_of_offTable tableOff g).trans (Part.context_of_bodies bodies g)⟩
  have control : w.control = u.control := Part.control_of_offHeads rest
  have machine : v.machine = p.machine := (Part.machine_of_offTrack
    (Part.offTrack_of_offHeads (Part.offHeads_of_offHead (Part.offHead_of_offTable reportsOff)))).trans
      (Part.machine_of_offTrack trackOff)
  have others : ∀ g, g ≠ h → y.entry g = p.entry g ∧ y.context g = p.context g := fun g other => by
    have same := removed.head g other
    have entry : y.entry g = w.entry g := congrArg Head.entry same
    have context : y.context g = w.context g := congrArg Head.context same
    have seen := Part.head_of_offHead shut.off other
    exact ⟨entry.trans ((heads g).1.trans (congrArg Head.entry seen)),
      context.trans ((heads g).2.trans (congrArg Head.context seen))⟩
  obtain ⟨n, counted⟩ := tracked.record
  have record : y.record h = w.record h := removed.record
  have recipe : v.activeRecipe = p.activeRecipe := by
    have view := congrArg Part.activeRecipe
      ((Part.offTrack_of_offHeads (Part.offHeads_of_offHead (Part.offHead_of_offTable reportsOff))).trans trackOff)
    exact view
  have counts : v.record h = { s.record h with uninspected := n } := reported.trans counted
  have lives : (v.diag h).isLive = reportedLive ce.flags (s.diag h).isLive :=
    funext fun k => (reportedLives k).trans (by rw [tracked.diag])
  refine ⟨?_, removed.context, others, ?_, ?_, ?_, ?_, ?_, ?_, fun young => ?_, ⟨n, ?_⟩, ?_, fun k other away => ?_, ?_,
    removed.advised Part.recomputeAdvisory_advised⟩
  · exact removed.entry.trans ((heads h).1.trans shut.entry)
  · have handed : (s.enqueue .inspection ⟨false, 0xB1, resultPayload r (dischargedOf ce)⟩).links =
        (p.enqueue .inspection ⟨false, 0xB1, resultPayload r (dischargedOf ce)⟩).links :=
      Part.enqueue_links_of_offHeads offs _ _
    have late : w.links = u.links := by have view := congrArg Part.links rest; exact view
    rw [← result, ← handed, ← tracked.links, ← late]
    exact removed.links
  · have count : y.control.discharged = w.control.discharged := removed.discharged
    rw [count, control, tracked.control, Part.control_of_offHeads offs]
  · have commands : w.recomputeAdvisory.control.prod = p.control.prod := by
      have view : w.recomputeAdvisory.control = w.control := rfl
      rw [view, control, tracked.control, Part.control_of_offHeads offs]
    have bare : (∀ g, g ≠ h → w.recomputeAdvisory.context g = none) ↔ ∀ g, g ≠ h → p.context g = none := by
      refine forall_congr' fun g => forall_congr' fun other => ?_
      have seen : w.recomputeAdvisory.context g = p.context g :=
        (heads g).2.trans (congrArg Head.context (Part.head_of_offHead shut.off other))
      rw [seen]
    rw [removed.prod, commands]
    simp only [bare]
  · have late : w.track = u.track := Part.track_of_offHead (Part.offHead_of_offTable tableOff)
    have same : y.track = w.track := removed.track
    rw [same, late, track, result, Part.machine_of_offHead shut.off, Part.track_of_offHead shut.off]
  · have view := congrArg Part.now restTrack
    exact removed.now.trans view
  · have same : y.machine = w.machine := removed.machine
    exact same.trans (Part.machine_of_offTrack restTrack)
  · have young' : isOldest s.track h = false := by rw [Part.track_of_offHead shut.off]; exact young
    have kept := congrArg HeadRecord.uninspected outcome.record
    have same := congrArg HeadRecord.uninspected base
    have kept' : (w.record h).uninspected = (v.record h).uninspected := kept
    have same' : (s.record h).uninspected = (p.record h).uninspected := same
    rw [record, kept', reported, tracked.away young', same']
  · rw [record, outcome.record, counts, used, ends_at]
    exact congrArg (fun x : HeadRecord => { (x.counted ce).offRung with
      uninspected := n, warm := if c.used = DoseMethod.none then x.warm else x.warm - 1 }) base
  · have taken := outcome.rung
    have sameRung : (v.record h).OnRung (s.record h) := by rw [counts]; exact ⟨rfl, rfl, rfl⟩
    have warm : (v.record h).warm = (s.record h).warm := by rw [counts]
    have ok : v.timedOk h = p.timedOk h := Part.timedOk_congr recipe (by
      rw [counts]
      have view := congrArg (fun x : HeadRecord => x.stored.timedAllowed) base; exact view)
    have promos : v.promoCount = p.promoCount := by rw [Part.promoCount, recipe]; rfl
    have judged := sameRung.judged c.judgement p.promoCount (meterAmong (reportedLive ce.flags (s.diag h).isLive))
    rw [Diag.meterLive_eq, lives, used, judgement, machine, ok, promos, warm] at taken
    rw [record, ends_at]
    unfold Part.outcomeRung
    split
    · next last => rw [if_pos last] at taken; exact taken.trans (judged.decidedAll _ _ _)
    · next more => rw [if_neg more] at taken; exact taken.trans judged
  · rw [removed.live k away, ends_at]
    exact (outcome.live k other).trans (congrFun lives k)
  · rw [removed.mark]
    exact outcome.mark.trans (reportedMark.trans (congrArg Diag.mark tracked.diag))

end Sys2Proof.Machine
end

section
/-! The statement about the discharge crossing: the parts of its conclusion, one by one. -/

namespace Sys2Proof.Machine

open Sys2Proof

variable {h g : HeadNo} {p s y : Part} {c : Context} {r : TrackRecord}

/-! ### RELIEF_SHORT at the end of a container (R35, R114, R120) -/

/-- A RELIEF_SHORT that rises at the discharge of a head out of its warm-up: the one whose action is taken at once. -/
def Part.shortRises (p : Part) (h : HeadNo) : Bool :=
  (p.entry h).unvented && !(p.diag h).isLive .reliefShort && decide ((p.record h).warm = 0)

theorem Part.rungAfter_of_shortRises (rises : p.shortRises h = true) : p.rungAfter h .reliefShort =
    (p.record h).decided (actionFor p.machine .reliefShort) (p.timedOk h) .reliefShort := by
  simp only [Part.shortRises, Bool.and_eq_true, Bool.not_eq_true', decide_eq_true_eq] at rises
  obtain ⟨⟨-, fresh⟩, warm⟩ := rises
  have taken : ¬ ((p.diag h).isLive .reliefShort = true ∨ 0 < (p.record h).warm) := by simp [fresh, warm]
  unfold Part.rungAfter
  exact if_neg taken

theorem Part.rungAfter_of_no_shortRises (short : (p.entry h).unvented = true) (rises : p.shortRises h = false) :
    p.rungAfter h .reliefShort = p.record h := by
  have kept : (p.diag h).isLive .reliefShort = true ∨ 0 < (p.record h).warm := by
    simpa [Part.shortRises, short, or_iff_not_imp_left, Nat.pos_iff_ne_zero] using rises
  unfold Part.rungAfter
  exact if_pos kept

/-- Only a rise that is decided, with an action that moves, changes the record of a head that is shut. -/
theorem Part.Shut.record_stays (shut : Part.Shut h c p s)
    (stays : p.shortRises h = false ∨ actionFor p.machine .reliefShort = .report) : s.record h = p.record h := by
  rw [shut.record]
  split
  · next short =>
    cases rises : p.shortRises h with
    | false => exact Part.rungAfter_of_no_shortRises short rises
    | true =>
      have report := stays.resolve_left (by rw [rises]; decide)
      rw [Part.rungAfter_of_shortRises rises, report]; rfl
  · rfl

theorem HeadRecord.decided_action_out (ok : Bool) (k : FaultKind) (x : HeadRecord) :
    (x.decided .out ok k).method = .out ∧
      (x.decided .out ok k).cause = if x.method = .out then x.cause else some k := by
  unfold HeadRecord.decided
  cases method : x.method with
  | flow => exact ⟨rfl, rfl⟩
  | timed => exact ⟨rfl, rfl⟩
  | out => exact ⟨method, rfl⟩

/-- A rise with the action OUT takes the head that is shut out of the dose (R120). -/
theorem Part.Shut.record_out (shut : Part.Shut h c p s) (rises : p.shortRises h = true)
    (out : actionFor p.machine .reliefShort = .out) : (s.record h).method = .out ∧
      (s.record h).cause = if (p.record h).method = .out then (p.record h).cause else some .reliefShort := by
  have short : (p.entry h).unvented = true := by
    simp only [Part.shortRises, Bool.and_eq_true] at rises; exact rises.1.1
  rw [shut.record, if_pos short, Part.rungAfter_of_shortRises rises, out]
  exact HeadRecord.decided_action_out _ _ _

theorem Part.Shut.warm (shut : Part.Shut h c p s) : (s.record h).warm = (p.record h).warm := by
  rw [shut.record]; split
  · have view := congrArg HeadRecord.warm (Part.rungAfter_offRung (p := p) (h := h) .reliefShort); exact view
  · rfl

theorem Part.Shut.mark (shut : Part.Shut h c p s) : (s.diag h).mark = (p.diag h).mark := by
  rw [shut.diag]; split
  · rw [Diag.mark_moved]; rfl
  · rfl

theorem Part.Shut.relief_live (shut : Part.Shut h c p s) (short : (p.entry h).unvented = true) :
    (s.diag h).isLive .reliefShort = true := by
  rw [shut.diag]
  cases live : (p.diag h).isLive .reliefShort with
  | true => rw [if_neg (by simp)]; exact live
  | false => rw [if_pos (by simp [short]), Diag.isLive_moved, Diag.isLive_raise]; simp

/-- The live kinds behind the reports of a container with these flags, RELIEF_SHORT live with the container `short`
(R35, R119). -/
def dischargedLive (short : Bool) (flags : BitVec 13) (live : FaultKind → Bool) (k : FaultKind) : Bool :=
  match k with
  | .sealLost => live k && hasFlag flags .sealLost
  | .windowOverrun => live k && hasFlag flags .windowOverrun
  | .reliefShort => (live k || short) && hasFlag flags .reliefShort
  | _ => live k

theorem Part.Shut.reportedLive_eq (shut : Part.Shut h c p s) (stays : s.record h = p.record h) (flags : BitVec 13) :
    reportedLive flags (s.diag h).isLive = dischargedLive (p.entry h).unvented flags (p.diag h).isLive := by
  have lives : ∀ k, (s.diag h).isLive k =
      ((p.diag h).isLive k || (decide (k = .reliefShort) && (p.entry h).unvented)) := fun k => by
    have record := shut.record
    rw [stays] at record
    rw [shut.diag]
    split
    · next rises =>
      rw [Bool.and_eq_true] at rises
      rw [if_pos rises.1] at record
      rw [← record, Diag.moved_self, Diag.isLive_raise, rises.1, Bool.and_true]
    · next still =>
      by_cases same : k = .reliefShort
      · subst same
        cases live : (p.diag h).isLive .reliefShort
        · simpa [live] using still
        · rfl
      · simp [same]
  have live : (s.diag h).isLive = fun k => (p.diag h).isLive k || (decide (k = .reliefShort) && (p.entry h).unvented) :=
    funext lives
  rw [live]
  funext k
  cases k <;> simp [reportedLive, dischargedLive]

/-! ### The parts of the conclusion -/

theorem HeadRecord.judged_out {x : HeadRecord} (out : x.method = .out) (j : Option Judgement) (n : Nat) (meter : Bool) :
    x.judged j n meter = x := by
  unfold HeadRecord.judged
  exact if_neg fun both => by rw [out] at both; cases both.1

theorem Part.outcomeRung_out {x : HeadRecord} {live : FaultKind → Bool} (out : x.method = .out) (warm : x.warm ≠ 1) :
    p.outcomeRung h c live x = x := by
  unfold Part.outcomeRung
  rw [if_neg fun both => warm both.2]
  exact HeadRecord.judged_out out _ _ _

theorem hasFlag_addFlag_self (flags : BitVec 13) : hasFlag (addFlag flags .reliefShort) .reliefShort = true := by
  unfold hasFlag addFlag
  rw [getLsbD_withBit]; simp [ContainerFlag.bit]

theorem verdictOf_eq (status : DoseStatus) (flags : BitVec 13) : verdictOf status flags =
    if status = .complete ∧ (hasFlag flags .sealLost || hasFlag flags .reliefShort || hasFlag flags .heldLong ||
      hasFlag flags .valveFault) = false then .pass else .reject := by
  simp only [verdictOf, Bool.and_eq_true, decide_eq_true_eq, Bool.not_eq_true', Bool.or_eq_false_iff, and_assoc]

/-- The record of the oldest container takes the result, and no record leaves while D + 12 are not exceeded (R96, R98). -/
theorem dischargeTrack_of_oldest {d : Nat} {t : List TrackRecord} {res : Discharged} (oldest : isOldest t h = true)
    (one : (t.filter (TrackRecord.standsOn h)).length ≤ 1) (few : dischargedCount t < d + 12) :
    dischargeTrack d h res t = writeResult h res t := by
  unfold dischargeTrack agedTrack
  rw [if_pos oldest, if_neg]
  rw [dischargedCount_writeResult oldest one res]
  exact Nat.not_lt.mpr few

theorem Part.Closed.service (done : Part.Closed h c r p s y) :
    (y.record h).stored.inService = (p.record h).stored.inService := by
  obtain ⟨_, totals⟩ := done.totals
  have view := congrArg (fun x : HeadRecord => x.stored.inService) totals; exact view

theorem Part.Closed.mayTest (shut : Part.Shut h c p s) (done : Part.Closed h c r p s y) : y.mayTest h = p.mayTest h := by
  have bars : y.control.prod.barsTests = p.control.prod.barsTests := by
    rw [done.prod]; split
    · next stopping => rw [stopping.1]; rfl
    · rfl
  unfold Part.mayTest
  rw [done.service, bars, done.machine, done.mark, shut.mark]

theorem Part.rested_eq (e : Entry) : e.rested (p.mayTest h) p.now =
    if (p.record h).stored.inService ∧ p.control.prod ∉ [Prod.config, .drain, .safe] ∧
        (p.machine.mode = .everyRev ∨ (p.diag h).mark = true) then
      { e with state := .testing, timer := .running (p.now + 20), reports := noReports }
    else { e with state := .rest } := by
  unfold Entry.rested
  split
  · next tests => rw [if_pos (Part.mayTest_iff.mp tests)]
  · next tests => rw [if_neg (mt Part.mayTest_iff.mpr tests)]

theorem Part.dischargeCrossing_of_holds (holds : (p.entry h).state.holds = true) :
    p.crossing h .dis = (p.completeContainer h).enterRest h := by
  change p.dischargeCrossing h = p.dischargeHead h
  unfold Part.dischargeCrossing
  split
  · next rest => rw [rest] at holds; cases holds
  · next testing => rw [testing] at holds; cases holds
  · next vent => rw [vent] at holds; cases holds
  · next skip => rw [skip] at holds; cases holds
  · rfl

theorem Part.dischargeCrossing_of_idle (idle : (p.entry h).state ∈ [HeadState.rest, .testing, .vent]) :
    p.crossing h .dis = p := by
  change p.dischargeCrossing h = p
  unfold Part.dischargeCrossing
  simp only [List.mem_cons, List.not_mem_nil, or_false] at idle
  obtain rest | testing | vent := idle
  · rw [rest]
  · rw [testing]
  · rw [vent]

/-- A head in SKIP enters REST at its discharge crossing, out of DRAIN (R35, R41). -/
theorem Part.dischargeCrossing_of_skip (skip : (p.entry h).state = .skip) (away : p.control.prod ≠ .drain) :
    (p.crossing h .dis).entry h = (p.entry h).rested (p.mayTest h) p.now ∧
      ∀ g, g ≠ h → (p.crossing h .dis).head g = p.head g := by
  have turn : p.crossing h .dis = (p.dischargeRunaway h).enterRest h := by
    change p.dischargeCrossing h = _
    unfold Part.dischargeCrossing
    rw [skip]; exact if_neg away
  obtain ⟨record, -, mark⟩ := Part.dischargeRunaway_table (p := p) (h := h)
  have off := Part.offHead_of_offTable (Part.dischargeRunaway_offTable h p)
  have entry := Part.entry_dischargeRunaway h h p
  have now := Part.now_of_offHead off
  have tests : (p.dischargeRunaway h).mayTest h = p.mayTest h := by
    unfold Part.mayTest
    rw [record, mark, Part.machine_of_offHead off, Part.control_of_offHeads (Part.offHeads_of_offHead off)]
  rw [turn]
  generalize p.dischargeRunaway h = q at *
  have head := congrArg Head.entry (Part.enterRest_head (p := q) (h := h))
  dsimp only at head
  refine ⟨?_, fun g other => ?_⟩
  · rw [tests, entry, now] at head; exact head
  · exact (Part.head_of_offHead (Part.enterRest_offHead) other).trans (Part.head_of_offHead off other)

/-- Settles O41: the crossing shuts the head, closes its container at the track and the table, and enters REST; the parts
of `Part.Closed` give the conclusion field by field. -/
theorem dischargeCrossingGivesTheVerdict : Obligations.DischargeCrossingGivesTheVerdict := by
  unfold Obligations.DischargeCrossingGivesTheVerdict
  intro p h c r e t closed rested short flags status bad d oldest x live rises judged rung
  have rests : ∀ e : Entry, e.rested (p.mayTest h) p.now = rested e := fun e => Part.rested_eq e
  refine ⟨fun idle => Part.dischargeCrossing_of_idle idle, fun skip away => ?_, fun tracks holds known stands => ?_⟩
  · obtain ⟨entry, others⟩ := Part.dischargeCrossing_of_skip skip away
    exact ⟨entry.trans (rests _), others⟩
  · obtain ⟨s, shut, done⟩ := Part.completeContainer_closed known stands
    have tests := done.mayTest shut
    have turn : t = (p.completeContainer h).enterRest h := Part.dischargeCrossing_of_holds holds
    clear_value t
    subst turn
    generalize p.completeContainer h = y at *
    have head := Part.enterRest_head (p := y) (h := h)
    have off := Part.enterRest_offHead (p := y) (h := h)
    have entry : (y.enterRest h).entry h = (y.entry h).rested (y.mayTest h) y.now := by
      have view := congrArg Head.entry head; exact view
    have context : (y.enterRest h).context h = y.context h := by have view := congrArg Head.context head; exact view
    have record : (y.enterRest h).record h = y.record h := by have view := congrArg Head.record head; exact view
    have diag : (y.enterRest h).diag h = y.diag h := by have view := congrArg Head.diag head; exact view
    have control := Part.control_of_offHeads (Part.offHeads_of_offHead off)
    have links : (y.enterRest h).links = y.links := by
      have view := congrArg Part.links (Part.offHeads_of_offHead off); exact view
    have track := Part.track_of_offHead off
    have advised : (y.enterRest h).Advised := Part.enterRest_advised done.advised
    have others : ∀ g, g ≠ h → (y.enterRest h).entry g = p.entry g ∧ (y.enterRest h).context g = p.context g :=
      fun g other => by
        have same := Part.head_of_offHead off other
        exact ⟨(congrArg Head.entry same).trans (done.others g other).1,
          (congrArg Head.context same).trans (done.others g other).2⟩
    have result : c.result short = d :=
      congrArg (fun v => { c.result short with verdict := v }) (verdictOf_eq status flags)
    have ended := Context.ended_eq short c
    have used : (c.ended short).used = c.used := by rw [ended]
    have endFlags : (c.ended short).flags = flags := by rw [ended]
    have verdict : verdictOf (c.ended short).status (c.ended short).flags = d.verdict := by
      rw [← result, ← dischargedOf_ended]; rfl
    have one := TrackOf.one (Part.agrees_iff.mp (Part.trackAgrees_iff.mp tracks)).2.1 h
    obtain ⟨n, totals⟩ := done.totals
    have doses := congrArg HeadRecord.doses totals
    have rejects := congrArg HeadRecord.rejects totals
    have warm := congrArg HeadRecord.warm totals
    generalize y.enterRest h = z at *
    rw [record, diag, links, control, track]
    refine ⟨?_, context.trans done.context, others, ?_, done.discharged, done.prod, fun old few => ?_, fun young => ⟨?_, ?_⟩,
      ?_, ?_, fun unvented => ?_, warm, fun stays => ?_, fun rises_ out => ?_, advised⟩
    · rw [entry, tests, done.now, done.entry]; exact rests _
    · rw [← result]; exact done.links
    · rw [← result]
      exact done.track.trans (dischargeTrack_of_oldest old one few)
    · exact done.track.trans (if_neg (by rw [show isOldest p.track h = false from young]; decide))
    · exact done.away young
    · refine doses.trans ?_
      exact congrArg (fun m => if m = DoseMethod.none then (p.record h).doses else totalUp (p.record h).doses) used
    · refine rejects.trans ?_
      exact congrArg (fun v => if v = Verdict.reject then totalUp (p.record h).rejects else (p.record h).rejects) verdict
    · refine (done.live .reliefShort (by decide) (by decide)).trans ?_
      have flagged : flags = addFlag c.flags .reliefShort := if_pos unvented
      exact Bool.and_eq_true_iff.mpr ⟨shut.relief_live unvented, by
        rw [show (c.ended (p.entry h).unvented).flags = _ from endFlags, flagged]; exact hasFlag_addFlag_self _⟩
    · have kept := shut.record_stays stays
      have taken := done.rung
      rw [shut.reportedLive_eq kept, kept, show (c.ended (p.entry h).unvented).flags = _ from endFlags] at taken
      exact taken
    · obtain ⟨method, cause⟩ := shut.record_out rises_ out
      have cold : (p.record h).warm = 0 := by
        have at_ : p.shortRises h = true := rises_
        simp only [Part.shortRises, Bool.and_eq_true, decide_eq_true_eq] at at_
        exact at_.2
      have taken := done.rung
      rw [Part.outcomeRung_out method (by rw [shut.warm, cold]; decide)] at taken
      exact ⟨taken.1.trans method, taken.2.1.trans cause⟩

end Sys2Proof.Machine
end

section
/-! The dose of an admitted container: its quantities, their limits, and the contexts of an admission. -/

namespace Sys2Proof.Machine

open Sys2Proof

/-! ### The quantities of a dose (R49 to R52) -/

theorem roundNat_volume (n : Nat) : roundNat n 10000 = (n + 5000) / 10000 := by
  unfold roundNat; omega

theorem effectiveVolume_pos (v : Nat) (t : Int) (a : Nat) : 1 ≤ effectiveVolume v t a := by
  unfold effectiveVolume; omega

theorem effectiveVolume_le {v a : Nat} {t : Int} (volume : v ≤ 30000) (trim : t ≤ 200) :
    effectiveVolume v t a ≤ 30200 := by
  unfold effectiveVolume; omega

theorem closeCount_le {e k : Nat} (volume : e ≤ 30200) (factor : k ≤ 50000) : closeCount e k ≤ 151000 := by
  have product : e * k ≤ 30200 * 50000 := Nat.mul_le_mul volume factor
  rw [closeCount, roundNat_volume]
  omega

theorem fineCount_le (v : Nat) (t : Int) (b k c : Nat) : fineCount v t b k c ≤ c := by
  unfold fineCount; split
  · exact Nat.zero_le c
  · exact Nat.min_le_left _ _

theorem limitNat_mem {lo hi : Nat} (order : lo ≤ hi) (x : Nat) : lo ≤ limitNat lo hi x ∧ limitNat lo hi x ≤ hi := by
  unfold limitNat; omega

/-! ### The contexts of an admission (R23, R44, R45) -/

theorem Prod.doses_iff {s : Prod} : s.doses = true ↔ s ∈ [Prod.production, .hold, .stopping] := by
  cases s <;> decide

theorem Prod.not_doses {s : Prod} (idle : s ∈ [Prod.standby, .safe]) : s.doses = false := by
  revert idle; cases s <;> decide

theorem doseContext_eq (n : Nat) (m : DoseMethod) (x : HeadRecord) (sr : StoredRecipe) :
    doseContext n m x sr =
      let sn := snapshotOf x.stored x.gen sr.fields
      let c := closeCount sn.e sn.k
      { newContext n m (some sn) (some sr.revision) (some sr.fields.v) c
          (fineCount sr.fields.v sn.t sn.b sn.k c) with
        flags := if 0 < x.warm then addFlag 0 .warmup else 0 } := by
  unfold doseContext
  dsimp only
  split <;> rfl

section admission

variable {p : Part} {h : HeadNo} {sr : StoredRecipe} (n : Nat)

theorem Part.admissionContext_flow (dosing : p.control.prod.doses = true) (recipe : p.activeRecipe = some sr)
    (serves : (p.record h).stored.inService = true) (method : (p.record h).method = .flow) :
    p.admissionContext h n = doseContext n .flow (p.record h) sr := by
  simp [Part.admissionContext, dosing, recipe, serves, method]

theorem Part.admissionContext_timed (dosing : p.control.prod.doses = true) (recipe : p.activeRecipe = some sr)
    (serves : (p.record h).stored.inService = true) (method : (p.record h).method = .timed) :
    p.admissionContext h n = doseContext n .timed (p.record h) sr := by
  simp [Part.admissionContext, dosing, recipe, serves, method]

theorem Part.admissionContext_unavailable (dosing : p.control.prod.doses = true) (recipe : p.activeRecipe = some sr)
    (out : (p.record h).stored.inService = false ∨ (p.record h).method = .out) :
    p.admissionContext h n = unavailableContext n (some sr) := by
  rcases out with away | out
  · simp [Part.admissionContext, dosing, recipe, away]
  · simp [Part.admissionContext, dosing, recipe, out]

theorem Part.admissionContext_idle (idle : p.control.prod.doses = false) :
    p.admissionContext h n = notProducingContext n := by
  simp [Part.admissionContext, idle]

end admission

/-- Settles O38: the context of each method with its quantities, and the limits that the ranges of the stored fields
give them. -/
theorem admissionComputesTheDose : Obligations.AdmissionComputesTheDose := by
  intro p h n sr x
  dsimp only
  rintro rfl
  rw [← Prod.doses_iff]
  have dose := fun m => doseContext_eq n m (p.record h) sr
  simp only [closeCount, fineCount, roundNat_volume] at dose
  refine ⟨fun dosing recipe => ⟨fun serves method => ?_, fun serves method => ?_, fun out => ?_,
    fun stored fields => ?_⟩, fun idle => ?_⟩
  · exact (Part.admissionContext_flow n dosing recipe serves method).trans (dose .flow)
  · exact (Part.admissionContext_timed n dosing recipe serves method).trans (dose .timed)
  · exact Part.admissionContext_unavailable n dosing recipe out
  · simp only [storedHeadOk, recipeRangesOk, inRange, Bool.and_eq_true, decide_eq_true_eq] at stored fields
    have trim : (p.record h).stored.t ≤ 200 := stored.2
    have factor : (p.record h).stored.k ≤ 50000 := by omega
    have volume : sr.fields.v ≤ 30000 := by omega
    have most := effectiveVolume_le (a := (p.record h).stored.a) volume trim
    have close := closeCount_le most factor
    have fine := fineCount_le sr.fields.v (p.record h).stored.t sr.fields.b (p.record h).stored.k
      (closeCount (effectiveVolume sr.fields.v (p.record h).stored.t (p.record h).stored.a) (p.record h).stored.k)
    rw [fineCount, closeCount, roundNat_volume, roundNat_volume] at fine
    rw [closeCount, roundNat_volume] at close
    exact ⟨⟨effectiveVolume_pos _ _ _, most⟩, ⟨Nat.le_max_left _ _, close⟩, fine, limitNat_mem (by decide) _⟩
  · exact Part.admissionContext_idle n (Prod.not_doses idle)

end Sys2Proof.Machine
end

section
/-! The places of a pulse beside the fill count: the drain total, the after-run, the shadow count and the runaway count
(R53). -/

namespace Sys2Proof.Machine

open Sys2Proof

variable {h : HeadNo} {p : Part}

/-! ### Arrivals that are lost -/

theorem Part.busArrival_inReset {handle : Part → Part} (reset : p.phase = .inReset) : p.busArrival h handle = p := by
  simp [Part.busArrival, reset]

theorem Part.pulse_of_config (config : p.control.prod = .config) : p.pulse h = p := by
  simp [Part.pulse, config]

theorem Part.pulse_of_drain (drain : p.control.prod = .drain) :
    p.pulse h = (p.demandPulse h).modRecord h fun x => { x with drainPulses := totalUp x.drainPulses } := by
  simp [Part.pulse, drain]

/-! ### The counts -/

/-- A change of a head behind the demand's pulse. -/
theorem Part.demandPulse_modHead (f : Head → Head) :
    (p.demandPulse h).modHead h f = p.modHead h fun x => f { x with demandCount := x.demandCount + 1 } :=
  Part.modHead_modHead h _ f p

theorem Part.demandPulse_head :
    (p.demandPulse h).head h = { p.head h with demandCount := (p.head h).demandCount + 1 } := by
  rw [Part.demandPulse, Part.head_modHead, if_pos rfl]

/-- A pulse into the shadow count; the first one in time reports the meter of a TIMED context alive while it fills (R58,
R60). -/
theorem Part.shadowPulse_eq {c : Context} (known : p.context h = some c) :
    let first := decide (c.method = .timed) && c.filling && decide (c.shadow = 0) && p.aliveInTime c
    p.shadowPulse h c = p.modHead h fun x => { x with
      context := some { c with shadow := countUp c.shadow, alive := c.alive || first }
      diag := if first then x.diag.fall .meterSilent else x.diag } := by
  unfold Part.shadowPulse
  dsimp only
  rw [Part.modContext_eq known]
  split
  · next alive =>
    rw [Part.reportAlive, Part.clearKind, Part.modDiag, Part.modContext, Part.modHead_modHead, Part.modHead_modHead]
    refine Part.modHead_congr ?_
    simp [alive]
  · next late =>
    have quiet : (decide (c.method = .timed) && c.filling && decide (c.shadow = 0) && p.aliveInTime c) = false := by
      simpa [and_assoc] using late
    refine Part.modHead_congr ?_
    simp [quiet]

/-- The runaway count with one more pulse (R57). -/
def Runaway.pulsed (limit : Nat) (x : Runaway) : Runaway :=
  { x with count := countUp x.count, reported := x.reported || decide (limit < countUp x.count) }

/-- A pulse of a revolution whose excess is not new is counted alone. -/
theorem Part.runawayPulse_counts
    (old : decide (p.machine.runawayLimit < countUp (p.head h).runaway.count) = false ∨
      (p.head h).runaway.reported = true) :
    p.runawayPulse h = p.modHead h fun x => { x with runaway := (p.head h).runaway.pulsed p.machine.runawayLimit } := by
  have quiet : (decide (p.machine.runawayLimit < countUp (p.head h).runaway.count) &&
      !(p.head h).runaway.reported) = false := by
    rcases old with within | known
    · rw [within, Bool.false_and]
    · rw [known, Bool.not_true, Bool.and_false]
  unfold Part.runawayPulse
  dsimp only
  rw [if_neg (by rw [quiet]; decide), quiet]
  refine Part.modHead_congr ?_
  rcases old with within | known
  · simp [Runaway.pulsed, within]
  · simp [Runaway.pulsed, known]

/-- The first pulse above the limit in a revolution is counted and detected (R57). -/
theorem Part.runawayPulse_detects
    (exceeds : decide (p.machine.runawayLimit < countUp (p.head h).runaway.count) = true)
    (fresh : (p.head h).runaway.reported = false) :
    p.runawayPulse h = (p.modHead h fun x =>
      { x with runaway := (p.head h).runaway.pulsed p.machine.runawayLimit }).detect h .meterRunaway := by
  unfold Part.runawayPulse
  dsimp only
  simp only [exceeds, fresh, Bool.not_false, Bool.and_self, if_true]
  refine congrArg (Part.detect h .meterRunaway) (Part.modHead_congr ?_)
  simp [Runaway.pulsed, exceeds]

/-- What the head shows behind such a pulse: the kind is live, the count stands, and its entry and context are kept. -/
theorem Part.runawayPulse_detected
    (exceeds : decide (p.machine.runawayLimit < countUp (p.head h).runaway.count) = true)
    (fresh : (p.head h).runaway.reported = false) :
    p.Detected h .meterRunaway (p.runawayPulse h) ∧
      ((p.runawayPulse h).head h).runaway = (p.head h).runaway.pulsed p.machine.runawayLimit ∧
      (p.runawayPulse h).context h = p.context h ∧ (p.runawayPulse h).entry h = p.entry h := by
  rw [Part.runawayPulse_detects exceeds fresh]
  have head : (p.modHead h fun x => { x with runaway := (p.head h).runaway.pulsed p.machine.runawayLimit }).head h =
      { p.head h with runaway := (p.head h).runaway.pulsed p.machine.runawayLimit } := by
    rw [Part.head_modHead, if_pos rfl]
  have off := Part.modHead_offHead h (fun x => { x with runaway := (p.head h).runaway.pulsed p.machine.runawayLimit }) p
  generalize p.modHead h (fun x => { x with runaway := (p.head h).runaway.pulsed p.machine.runawayLimit }) = q at *
  have found := Part.detect_head (p := q) (h := h) .meterRunaway
  refine ⟨(Part.detect_detected (by decide)).of_head off ?_ ?_, ?_, ?_, ?_⟩
  · exact (congrArg Head.diag head :)
  · exact (congrArg Head.record head :)
  · exact (congrArg Head.runaway found).trans (congrArg Head.runaway head :)
  · exact (Part.context_detect h h q _).trans (congrArg Head.context head :)
  · exact (Part.entry_detect h h q _).trans (congrArg Head.entry head :)

/-! ### The lines of the table of R53 -/

theorem Part.dosePulse_of_after {c : Context} (known : p.context h = some c) (flow : c.used = .flow)
    (filled : c.filling = false) (counting : c.afterState = .counting) :
    p.dosePulse h = p.modHead h fun x => { x with context := some { c with after := countUp c.after } } := by
  have place : p.dosePulse h = p.afterPulse h := by simp [Part.dosePulse, known, flow, filled, counting]
  rw [place, Part.afterPulse, Part.modContext_eq known]

theorem Part.dosePulse_of_timed {c : Context} (known : p.context h = some c) (timed : c.used = .timed)
    (runs : c.filling = true ∨ c.afterState = .counting) : p.dosePulse h = p.shadowPulse h c := by
  simp [Part.dosePulse, known, timed, runs]

theorem Part.dosePulse_of_none
    (none_ : p.context h = none ∨
      ∃ d, p.context h = some d ∧ (d.used = .none ∨ d.filling = false ∧ d.afterState ≠ .counting)) :
    p.dosePulse h = p.runawayPulse h := by
  rcases none_ with bare | ⟨d, known, undosed | ⟨filled, ended⟩⟩
  · simp [Part.dosePulse, bare]
  · simp [Part.dosePulse, known, undosed]
  · simp [Part.dosePulse, known, filled, ended]

/-- Settles O32: the part's pulse is the first line of the table of R53 that applies, behind the demand's. -/
theorem pulsesAreCountedInOnePlace : Obligations.PulsesAreCountedInOnePlace := by
  intro s h c
  dsimp only
  rw [exec_flowmeterPulse]
  refine ⟨fun reset => ?_, fun on lost => ?_, fun on fitted drain => ?_, fun on fitted prod free => ?_⟩
  · rw [Part.busArrival_inReset reset]
  · rcases lost with out | config
    · rw [Part.busArrival_unfitted on out]
    · have config' : (s.part.moduleAnswers (moduleOf h)).control.prod = .config := by
        rw [Part.moduleAnswers_control]; exact config
      by_cases fitted : s.part.fitted h = true
      · rw [Part.busArrival_taken on fitted, Part.pulse_of_config config']
      · rw [Part.busArrival_unfitted on (Bool.eq_false_iff.mpr fitted)]
  · have drain' : (s.part.moduleAnswers (moduleOf h)).control.prod = .drain := by
      rw [Part.moduleAnswers_control]; exact drain
    rw [Part.busArrival_taken on fitted, Part.pulse_of_drain drain', Part.modRecord, Part.demandPulse_modHead]
    rfl
  rw [Part.busArrival_taken on fitted, Part.pulse_of_dose (by simpa using prod) (by simpa using free)]
  have head := Part.demandPulse_head (h := h) (p := s.part.moduleAnswers (moduleOf h))
  have others : ∀ g, g ≠ h → ((s.part.moduleAnswers (moduleOf h)).demandPulse h).head g = s.part.head g :=
    fun g other => by rw [Part.demandPulse, Part.head_modHead, if_neg other, Part.head_moduleAnswers]
  have now : ((s.part.moduleAnswers (moduleOf h)).demandPulse h).now = s.part.now := Part.moduleAnswers_now _
  have machine : ((s.part.moduleAnswers (moduleOf h)).demandPulse h).machine = s.part.machine :=
    Part.moduleAnswers_machine _
  have recipe : ((s.part.moduleAnswers (moduleOf h)).demandPulse h).activeRecipe = s.part.activeRecipe := by
    obtain ⟨ms, same⟩ := Part.moduleAnswers_eq (p := s.part) (moduleOf h)
    rw [same]; rfl
  rw [Part.head_moduleAnswers] at head
  generalize start : (s.part.moduleAnswers (moduleOf h)).demandPulse h = q at *
  have context : q.context h = s.part.context h := (congrArg Head.context head :)
  have runaway : (q.head h).runaway = (s.part.head h).runaway := (congrArg Head.runaway head :)
  rw [← context]
  refine ⟨fun known flow filled counting => ?_, fun known timed runs => ?_, fun none_ => ⟨fun old => ?_,
    fun exceeds fresh => ?_⟩⟩
  · rw [Part.dosePulse_of_after known flow filled counting, ← start, Part.demandPulse_modHead]
    rfl
  · have alive : q.aliveInTime c = c.fillStart.any fun t => decide (s.part.now - t ≤ s.part.machine.meterSilence) := by
      rw [Part.aliveInTime, now, machine]
    rw [Part.dosePulse_of_timed known timed runs, Part.shadowPulse_eq known, alive, ← start, Part.demandPulse_modHead]
    rfl
  · rw [Part.dosePulse_of_none none_, Part.runawayPulse_counts (by rw [machine, runaway]; exact old), machine, runaway,
      ← start, Part.demandPulse_modHead]
    rfl
  · rw [Part.dosePulse_of_none none_]
    obtain ⟨found, count, same, entry⟩ := Part.runawayPulse_detected (h := h) (p := q)
      (by rw [machine, runaway]; exact exceeds) (by rw [runaway]; exact fresh)
    have diag : q.diag h = s.part.diag h := (congrArg Head.diag head :)
    have record : q.record h = s.part.record h := (congrArg Head.record head :)
    rw [machine, runaway] at count
    refine ⟨_, rfl, count, found.live, fun rises => found.held (by rw [diag]; exact rises), same, ?_,
      fun g other => ?_, ?_⟩
    · exact entry.trans (congrArg Head.entry head :)
    · rw [Part.head_of_offHead found.off other, others g other]
    · rw [found.record]
      exact Part.rungAfter_eq machine recipe record (by rw [diag])

end Sys2Proof.Machine
end

section
/-! The speed advisory as the speed of the slowest head (R66). -/

namespace Sys2Proof.Machine

open Sys2Proof

variable {h : HeadNo} {p : Part}

theorem Part.qualifies_iff : p.qualifies h = true ↔ p.fitted h = true ∧ (p.record h).stored.inService = true ∧
    ((p.record h).method = .flow ∨ (p.record h).method = .timed) := by
  have rungs : ((p.record h).method != .out) = true ↔ (p.record h).method = .flow ∨ (p.record h).method = .timed := by
    cases (p.record h).method <;> decide
  unfold Part.qualifies
  rw [Bool.and_eq_true, Bool.and_eq_true, rungs, and_assoc]

theorem Part.computeAdvisory_of_none
    (none_ : p.activeRecipe = none ∨ p.configBad = true ∨ ∀ g, ¬ p.qualifies g = true) : p.computeAdvisory = 0 := by
  unfold Part.computeAdvisory
  rcases none_ with bare | bad | idle
  · rw [bare]
  · cases p.activeRecipe with
    | none => rfl
    | some sr => exact if_pos bad
  · have nobody : allHeads.filter p.qualifies = [] := List.filter_eq_nil_iff.mpr fun g _ => idle g
    rw [nobody]
    cases p.activeRecipe with
    | none => rfl
    | some sr => exact ite_self 0

/-- The speed of a head's dose in its window, under a recipe (R66). -/
def Part.speedAt (p : Part) (sr : StoredRecipe) (g : HeadNo) : Nat :=
  headSpeed (p.machine.aFillend - p.machine.aFill) (p.record g).stored.r sr.fields.v (p.record g).stored.t

theorem Part.computeAdvisory_of_slowest {sr : StoredRecipe} (recipe : p.activeRecipe = some sr)
    (good : p.configBad = false) (able : p.qualifies h = true)
    (slowest : ∀ g, p.qualifies g = true → p.speedAt sr h ≤ p.speedAt sr g) :
    p.computeAdvisory =
      min 200000 (p.speedAt sr h * (100 - sr.fields.speed) / 100 * p.machine.nPos * 3600 / p.machine.nInc) := by
  have least : ((allHeads.filter p.qualifies).map (p.speedAt sr)).min? = some (p.speedAt sr h) := by
    rw [List.min?_eq_some_iff]
    refine ⟨List.mem_map.mpr ⟨h, List.mem_filter.mpr ⟨List.mem_finRange h, able⟩, rfl⟩, fun s mem => ?_⟩
    obtain ⟨g, at_, rfl⟩ := List.mem_map.mp mem
    exact slowest g (List.mem_filter.mp at_).2
  unfold Part.computeAdvisory
  rw [recipe]
  dsimp only
  rw [if_neg (by rw [good]; decide)]
  split
  · next speeds =>
    rw [show (allHeads.filter p.qualifies).map (p.speedAt sr) = [] from speeds] at least
    cases least
  · next s0 rest speeds =>
    rw [show (allHeads.filter p.qualifies).map (p.speedAt sr) = s0 :: rest from speeds, List.min?_cons',
      Option.some.injEq] at least
    rw [least]

end Sys2Proof.Machine
end

section
/-! The recipe requests: SELECT RECIPE, WRITE RECIPE and ADJUST RECIPE, and what a new active recipe changes. -/

namespace Sys2Proof.Machine

open Sys2Proof

variable {h : HeadNo} {p : Part}

theorem Part.activeRecipe_of_slot {i : SlotNo} (slot : p.control.activeSlot = some i) : p.activeRecipe = p.recipes[i] := by
  rw [Part.activeRecipe, slot]

theorem Part.activeRecipe_select (i : SlotNo) :
    ({ p with control := { p.control with activeSlot := some i } } : Part).activeRecipe = p.recipes[i] := rfl

theorem Part.activeRecipe_setRecipe {i : SlotNo} (slot : p.control.activeSlot = some i) (r : StoredRecipe) :
    (p.setRecipe i r).activeRecipe = some r := by
  rw [Part.activeRecipe_of_slot (p := p.setRecipe i r) slot]
  exact Vector.getElem_set_self _

/-! ### A new active recipe (R84, R167, R168) -/

/-- The record of a fitted head under a recipe that may not allow TIMED (R84). -/
def HeadRecord.dropped (timedAllowed : Bool) (x : HeadRecord) : HeadRecord :=
  if x.method = .timed ∧ timedAllowed = false then { x with method := .out, promo := 0 } else x

/-- The step of `dropTimed` at one head. -/
def Part.dropTimedAt (h : HeadNo) (p : Part) : Part :=
  if (p.record h).method = .timed ∧ p.activeRecipe.any (fun sr => sr.fields.timedAllowed) = false then
    p.setMethod h .out (p.record h).cause
  else p

theorem Part.dropTimedAt_offHead : (p.dropTimedAt h).offHead h = p.offHead h := by
  unfold Part.dropTimedAt; split
  · exact Part.offHead_of_offTable (Part.setMethod_offTable h p _ _)
  · rfl

theorem Part.dropTimedAt_record {sr : StoredRecipe} (active : p.activeRecipe = some sr) :
    (p.dropTimedAt h).record h = (p.record h).dropped sr.fields.timedAllowed := by
  unfold Part.dropTimedAt HeadRecord.dropped
  rw [active, Option.any_some]
  split
  · exact congrArg Head.record (Part.setMethod_head _ _)
  · rfl

theorem Part.dropTimed_record {sr : StoredRecipe} (active : p.activeRecipe = some sr) (g : HeadNo) :
    p.dropTimed.record g = if p.fitted g = true then (p.record g).dropped sr.fields.timedAllowed else p.record g := by
  obtain ⟨q, head, offs, folded⟩ := forFitted_head (f := Part.dropTimedAt) (fun _ _ => Part.dropTimedAt_offHead) p g
  have active' : q.activeRecipe = some sr := by have view := congrArg Part.activeRecipe offs; exact Eq.trans view active
  have record : q.record g = p.record g := congrArg Head.record head
  have folds : p.dropTimed = forFitted Part.dropTimedAt p := rfl
  rw [folds, ← record, ← Part.dropTimedAt_record active']
  refine (congrArg Head.record folded).trans ?_
  split
  · rfl
  · exact (congrArg Head.record head).symm

/-- The setpoint of a new active recipe (R141). -/
theorem Part.recomputePressure_setpoint {sr : StoredRecipe} (active : p.activeRecipe = some sr) :
    p.recomputePressure.supply.setpoint =
      setpointOf (requestInputs (some sr) p.supply).1 (requestInputs (some sr) p.supply).2 sr.fields.margin := by
  simp only [Part.recomputePressure, active]

theorem Part.recipeChanged_offHeads : p.recipeChanged.offHeads = p.recomputePressure.offHeads :=
  (Part.recomputeAdvisory_offHeads _).trans (Part.dropTimed_offHeads _)

/-- What a part shows of a recipe that has become active since `p` (R84, R138, R141, R167). -/
structure Part.Renewed (p : Part) (sr : StoredRecipe) (q : Part) : Prop where
  setpoint : q.supply.setpoint =
    setpointOf (requestInputs (some sr) p.supply).1 (requestInputs (some sr) p.supply).2 sr.fields.margin
  qualifier : q.supply.qualifier = if p.supply.freshness = .fresh then .final else .provisional
  advised : q.Advised
  stored : ∀ h, (q.record h).stored = (p.record h).stored
  cause : ∀ h, (q.record h).cause = (p.record h).cause
  method : ∀ h, (q.record h).method =
    if p.fitted h ∧ (p.record h).method = .timed ∧ sr.fields.timedAllowed = false then .out else (p.record h).method

theorem Part.recipeChanged_renewed {sr : StoredRecipe} (active : p.activeRecipe = some sr) :
    p.Renewed sr p.recipeChanged := by
  have supply : p.recipeChanged.supply = p.recomputePressure.supply := by
    have view := congrArg Part.supply (Part.recipeChanged_offHeads (p := p)); exact view
  have record : ∀ g, p.recipeChanged.record g =
      if p.fitted g = true then (p.record g).dropped sr.fields.timedAllowed else p.record g :=
    fun g => Part.dropTimed_record (p := p.recomputePressure) active g
  refine ⟨?_, ?_, Part.recomputeAdvisory_advised, fun g => ?_, fun g => ?_, fun g => ?_⟩
  · rw [supply]; exact Part.recomputePressure_setpoint active
  · rw [supply]; simp [Part.recomputePressure, active]
  all_goals
    rw [record g]
    unfold HeadRecord.dropped
    by_cases fitted : p.fitted g = true
    · simp only [fitted, if_true, true_and]
      split <;> rfl
    · simp [fitted]

/-! ### The owner's answers -/

/-- A request of the line link that its owner answers with OK. -/
theorem Part.request_answered {c : Instr} {kind : Nat} {owner : Part → Part × Answer} {q : Part} (takes : p.takes)
    (answer : owner (p.crcPassed .line) = accept q) : p.request c .line kind owner = q.reply .line kind answerOk :=
  Part.request_accepted (change := fun _ => q) takes answer

theorem exec_selectRecipe (n : Nat) (s : State) : exec (.selectRecipe n) s =
    .next { s with part := s.part.request (.selectRecipe n) .line 0x10 (takeSelectRecipe n) } := rfl
theorem exec_writeRecipe (n : Nat) (f : RecipeFields) (s : State) : exec (.writeRecipe n f) s =
    .next { s with part := s.part.request (.writeRecipe n f) .line 0x11 (takeWriteRecipe n f) } := rfl
theorem exec_adjustRecipe (a : AdjustFields) (s : State) : exec (.adjustRecipe a) s =
    .next { s with part := s.part.request (.adjustRecipe a) .line 0x12 (takeAdjustRecipe a) } := rfl

theorem slotOf_val (i : SlotNo) : slotOf i.val = some i := by
  rw [slotOf, dif_pos i.isLt]

theorem slotOf_of_le {n : Nat} (beyond : 8 ≤ n) : slotOf n = none := by
  rw [slotOf, dif_neg (Nat.not_lt.mpr beyond)]

section select

theorem takeSelectRecipe_wrongState (n : Nat) (other : p.control.prod ≠ .standby) :
    takeSelectRecipe n p = refusal .wrongState p := if_pos other

theorem takeSelectRecipe_range {n : Nat} (standby : p.control.prod = .standby) (beyond : 8 ≤ n) :
    takeSelectRecipe n p = refusal .range p := by
  simp [takeSelectRecipe, standby, slotOf_of_le beyond]

variable {i : SlotNo}

theorem takeSelectRecipe_empty (standby : p.control.prod = .standby) (empty : p.recipes[i] = none) :
    takeSelectRecipe i.val p = refusal .wrongState p := by
  simp only [takeSelectRecipe, standby, slotOf_val, empty, ne_eq, not_true_eq_false, if_false, Option.isNone_none,
    if_true]

theorem takeSelectRecipe_defined {sr : StoredRecipe} (standby : p.control.prod = .standby)
    (defined_ : p.recipes[i] = some sr) : takeSelectRecipe i.val p =
      accept { p with control := { p.control with activeSlot := some i } }.recipeChanged := by
  simp only [takeSelectRecipe, standby, slotOf_val, defined_, ne_eq, not_true_eq_false, if_false, Option.isNone_some,
    Bool.false_eq_true]

end select

section write

variable {f : RecipeFields}

theorem takeWriteRecipe_range {n : Nat} (invalid : 8 ≤ n ∨ recipeOfFields f = none) :
    takeWriteRecipe n f p = refusal .range p := by
  unfold takeWriteRecipe
  rcases invalid with beyond | fields
  · rw [slotOf_of_le beyond]
  · rw [fields]
    cases slotOf n <;> rfl

variable {i : SlotNo} {r : Recipe} (valid : recipeOfFields f = some r)
include valid

theorem takeWriteRecipe_wrongState (active : p.control.activeSlot = some i) (other : p.control.prod ≠ .standby) :
    takeWriteRecipe i.val f p = refusal .wrongState p := by
  simp [takeWriteRecipe, slotOf_val, valid, active, other]

theorem takeWriteRecipe_idle (idle : p.control.activeSlot ≠ some i) :
    takeWriteRecipe i.val f p = accept (p.setRecipe i ⟨0, r⟩) := by
  simp [takeWriteRecipe, slotOf_val, valid, idle]

theorem takeWriteRecipe_active (active : p.control.activeSlot = some i) (standby : p.control.prod = .standby) :
    takeWriteRecipe i.val f p = accept (p.setRecipe i ⟨0, r⟩).recipeChanged := by
  simp [takeWriteRecipe, slotOf_val, valid, active, standby]

end write

section adjust

variable {a : AdjustFields}

theorem adjustEmpty_iff : adjustEmpty a = true ↔
    ∀ o ∈ [a.v, a.b, a.gain, a.deadband, a.gross, a.margin, a.hold, a.speed], o = none := by
  simp [adjustEmpty, and_assoc]

theorem takeAdjustRecipe_none (bare : p.activeRecipe = none) : takeAdjustRecipe a p = refusal .wrongState p := by
  unfold takeAdjustRecipe
  rw [bare]
  cases p.control.activeSlot <;> rfl

variable {i : SlotNo} {sr : StoredRecipe} (slot : p.control.activeSlot = some i) (recipe : p.activeRecipe = some sr)
include slot recipe

theorem takeAdjustRecipe_range
    (invalid : adjustOk a = false ∨ (adjustRecipe a sr.fields).gross ≤ (adjustRecipe a sr.fields).deadband) :
    takeAdjustRecipe a p = refusal .range p := by
  simp only [takeAdjustRecipe, slot, recipe, if_pos invalid]

variable (valid : adjustOk a = true) (order : (adjustRecipe a sr.fields).deadband < (adjustRecipe a sr.fields).gross)
include valid order

theorem takeAdjustRecipe_empty (empty : adjustEmpty a = true) : takeAdjustRecipe a p = accept p := by
  have fits : ¬ (adjustOk a = false ∨ (adjustRecipe a sr.fields).gross ≤ (adjustRecipe a sr.fields).deadband) := by
    simp [valid, order]
  simp only [takeAdjustRecipe, slot, recipe, if_neg fits, empty, if_true]

theorem takeAdjustRecipe_changes (changes : adjustEmpty a = false) : takeAdjustRecipe a p =
    let q := (p.setRecipe i ⟨(sr.revision + 1) % 256, adjustRecipe a sr.fields⟩).recomputePressure
    accept (if a.v.isSome || a.speed.isSome then q.recomputeAdvisory else q) := by
  have fits : ¬ (adjustOk a = false ∨ (adjustRecipe a sr.fields).gross ≤ (adjustRecipe a sr.fields).deadband) := by
    simp [valid, order]
  simp only [takeAdjustRecipe, slot, recipe, if_neg fits, changes, Bool.false_eq_true, if_false]

end adjust

/-- Settles O48: each request by its owner's checks in order, a new active recipe by what it renews. -/
theorem recipesAreSelectedWrittenAndAdjusted : Obligations.RecipesAreSelectedWrittenAndAdjusted := by
  refine ⟨fun p h sr => ?_, fun s n f a i sr r => ?_⟩
  · dsimp only
    simp only [← Part.qualifies_iff]
    exact ⟨Part.computeAdvisory_of_none, Part.computeAdvisory_of_slowest⟩
  dsimp only
  intro takes
  simp only [exec_selectRecipe, exec_writeRecipe, exec_adjustRecipe]
  refine ⟨fun other => ?_, fun standby beyond => ?_, fun standby empty => ?_, fun standby defined_ => ?_,
    fun invalid => ?_, fun valid active other => ?_, fun valid idle => ?_, fun valid active standby => ?_, fun bare => ?_,
    fun slot stored => ?_⟩
  · rw [Part.request_refused takes (takeSelectRecipe_wrongState n (p := s.part.crcPassed .line) other)]
  · rw [Part.request_refused takes (takeSelectRecipe_range (p := s.part.crcPassed .line) standby beyond)]
  · rw [Part.request_refused takes (takeSelectRecipe_empty (p := s.part.crcPassed .line) standby empty)]
  · rw [Part.request_answered takes (takeSelectRecipe_defined (p := s.part.crcPassed .line) standby defined_)]
    have renewed := Part.recipeChanged_renewed
      ((Part.activeRecipe_select (p := s.part.crcPassed .line) i).trans defined_)
    exact ⟨_, rfl, (congrArg Part.control Part.recipeChanged_offHeads :),
      (congrArg Part.recipes Part.recipeChanged_offHeads :), renewed.setpoint, renewed.qualifier, renewed.advised,
      fun h => ⟨renewed.stored h, renewed.cause h, renewed.method h⟩⟩
  · rw [Part.request_refused takes (takeWriteRecipe_range invalid)]
  · rw [Part.request_refused takes (takeWriteRecipe_wrongState (p := s.part.crcPassed .line) valid active other)]
  · rw [Part.request_accepted (change := Part.setRecipe i ⟨0, r⟩) takes
      (takeWriteRecipe_idle (p := s.part.crcPassed .line) valid idle)]
    rfl
  · rw [Part.request_answered takes (takeWriteRecipe_active (p := s.part.crcPassed .line) valid active standby)]
    have renewed := Part.recipeChanged_renewed
      (Part.activeRecipe_setRecipe (p := s.part.crcPassed .line) active ⟨0, r⟩)
    exact ⟨_, rfl, (congrArg Part.recipes Part.recipeChanged_offHeads :), renewed.setpoint, renewed.qualifier,
      renewed.advised, fun h => ⟨renewed.stored h, renewed.cause h, renewed.method h⟩⟩
  · rw [Part.request_refused takes (takeAdjustRecipe_none (p := s.part.crcPassed .line) bare)]
  · have recipe : (s.part.crcPassed .line).activeRecipe = some sr := (Part.activeRecipe_of_slot slot).trans stored
    refine ⟨fun invalid => ?_, fun valid order => ⟨fun empty => ?_, fun changes => ?_⟩⟩
    · rw [Part.request_refused takes (takeAdjustRecipe_range slot recipe invalid)]
    · rw [Part.request_accepted (change := id) takes
        (takeAdjustRecipe_empty slot recipe valid order (adjustEmpty_iff.mpr empty))]
    · have some_ : adjustEmpty a = false := Bool.eq_false_iff.mpr fun empty => by
        obtain ⟨o, mem, given⟩ := changes
        exact given (adjustEmpty_iff.mp empty o mem)
      rw [Part.request_answered takes (takeAdjustRecipe_changes slot recipe valid order some_)]
      have active := Part.activeRecipe_setRecipe (p := s.part.crcPassed .line) slot
        ⟨(sr.revision + 1) % 256, adjustRecipe a sr.fields⟩
      have setpoint := Part.recomputePressure_setpoint active
      cases speeds : a.v.isSome || a.speed.isSome with
      | true =>
        refine ⟨_, rfl, rfl, rfl, setpoint, fun ⟨noV, noSpeed⟩ => ?_, fun _ => rfl⟩
        rw [noV, noSpeed] at speeds; cases speeds
      | false =>
        refine ⟨_, rfl, rfl, rfl, setpoint, fun _ => rfl, fun written => ?_⟩
        simp only [Bool.or_eq_false_iff, Option.isSome_eq_false_iff, Option.isNone_iff_eq_none] at speeds
        exact absurd written (by simp [speeds])

end Sys2Proof.Machine
end

section
/-! The fields of a WRITE HEAD before its change of service (R72 to R76): what each leaves of the head. -/

namespace Sys2Proof.Machine

open Sys2Proof

variable {h : HeadNo} {p q : Part}

/-! ### Writes of the record -/

/-- The work on the record of one head: beside the rung the record becomes what `w` makes of it, and the head's entry and
context, the other heads and all that is no head are left alone. -/
structure Part.Writes (h : HeadNo) (w : HeadRecord → HeadRecord) (p q : Part) : Prop where
  off : q.offHead h = p.offHead h
  entry : q.entry h = p.entry h
  context : q.context h = p.context h
  record : (q.record h).offRung = w (p.record h).offRung

theorem Part.Writes.trans {w v : HeadRecord → HeadRecord} {r : Part} (one : Part.Writes h w p q)
    (two : Part.Writes h v q r) : Part.Writes h (v ∘ w) p r :=
  ⟨two.off.trans one.off, two.entry.trans one.entry, two.context.trans one.context,
    two.record.trans (congrArg v one.record)⟩

theorem Part.modRecord_writes (w : HeadRecord → HeadRecord)
    (rung : ∀ x, (w x).offRung = w x.offRung := by exact fun _ => rfl) : Part.Writes h w p (p.modRecord h w) :=
  ⟨Part.modHead_offHead h _ p, Part.entry_modRecord h h w p, Part.context_modRecord h h w p,
    (congrArg HeadRecord.offRung (Part.record_modRecord_self w)).trans (rung _)⟩

/-- The table's work writes nothing but the rung, as far as the record beside A and R tells. -/
theorem Part.writes_of_offTable (off : q.offTable h = p.offTable h)
    (record : (q.record h).offRung = (p.record h).offRung) : Part.Writes h id p q :=
  ⟨Part.offHead_of_offTable off, Part.entry_of_offTable off h, Part.context_of_offTable off h, record⟩

theorem Part.setMethod_writes (m : Method) (c : Option FaultKind) : Part.Writes h id p (p.setMethod h m c) :=
  Part.writes_of_offTable (Part.setMethod_offTable h p m c)
    (congrArg (fun x : Head => x.record.offRung) (Part.setMethod_head (h := h) (p := p) m c) :)

theorem Part.detect_writes (k : FaultKind) : Part.Writes h id p (p.detect h k) :=
  Part.writes_of_offTable (Part.detect_offTable h p k)
    ((congrArg HeadRecord.offRung (Part.record_detect k)).trans (Part.rungAfter_offRung k))

theorem Part.clearKind_writes (k : FaultKind) : Part.Writes h id p (p.clearKind h k) :=
  Part.writes_of_offTable (Part.clearKind_offTable h p k)
    (congrArg HeadRecord.offRung (Part.record_modDiag h h (Diag.fall k) p))

theorem Part.recomputeAdvisory_writes : Part.Writes h id p p.recomputeAdvisory := ⟨rfl, rfl, rfl, rfl⟩

theorem Part.Writes.activeRecipe {w : HeadRecord → HeadRecord} (writes : Part.Writes h w p q) :
    q.activeRecipe = p.activeRecipe :=
  (congrArg Part.activeRecipe (Part.offHeads_of_offHead writes.off) :)

theorem Part.Writes.machine {w : HeadRecord → HeadRecord} (writes : Part.Writes h w p q) : q.machine = p.machine :=
  (congrArg Part.machine (Part.offHeads_of_offHead writes.off) :)

theorem Part.Writes.control {w : HeadRecord → HeadRecord} (writes : Part.Writes h w p q) : q.control = p.control :=
  (congrArg Part.control (Part.offHeads_of_offHead writes.off) :)

theorem Part.Writes.slot {w : HeadRecord → HeadRecord} (writes : Part.Writes h w p q) : q.slot = p.slot :=
  (congrArg Part.slot (Part.offHeads_of_offHead writes.off) :)

theorem Part.Writes.timedOk {w : HeadRecord → HeadRecord} (writes : Part.Writes h w p q) :
    q.timedOk h = ((w (p.record h).offRung).stored.timedAllowed &&
      p.activeRecipe.any fun sr => sr.fields.timedAllowed) := by
  rw [Part.timedOk, writes.activeRecipe, ← writes.record]; rfl

/-! ### K, A and R (R73) -/

theorem Part.writeHeadCal_writes (f : HeadFields) :
    Part.Writes h (HeadRecord.writeCal f) p (p.writeHeadCal h f) := by
  unfold Part.writeHeadCal; dsimp only; split
  · exact (Part.modRecord_writes (HeadRecord.writeCal f)).trans Part.recomputeAdvisory_writes
  · exact Part.modRecord_writes (HeadRecord.writeCal f)

/-- K, A and R leave the rung and the flags of the head. -/
theorem Part.writeHeadCal_head (f : HeadFields) :
    (p.writeHeadCal h f).head h = { p.head h with record := (p.record h).writeCal f } := by
  have written : (p.modRecord h (HeadRecord.writeCal f)).head h = { p.head h with record := (p.record h).writeCal f } := by
    rw [Part.modRecord, Part.head_modHead, if_pos rfl]; rfl
  unfold Part.writeHeadCal; dsimp only; split
  · exact written
  · exact written

theorem Part.writeHeadCal_advised {f : HeadFields} (rate : f.r.isSome = true) : (p.writeHeadCal h f).Advised := by
  unfold Part.writeHeadCal; dsimp only
  rw [if_pos rate]
  exact Part.recomputeAdvisory_advised

/-! ### T (R74) -/

/-- The record with a trim written (R74). -/
def HeadRecord.setTrim (t : Option Int) (x : HeadRecord) : HeadRecord := { x with
  stored := { x.stored with t := t.getD x.stored.t }
  trimFrom := if t.isSome then none else x.trimFrom }

theorem Part.changeTrim_writes (t : Int) : Part.Writes h (HeadRecord.setTrim (some t)) p (p.changeTrim h t) := by
  have written : Part.Writes h (HeadRecord.setTrim (some t)) p
      (p.modRecord h (HeadRecord.setTrim (some t))).recomputeAdvisory :=
    (Part.modRecord_writes _).trans Part.recomputeAdvisory_writes
  unfold Part.changeTrim; dsimp only; split
  · exact written.trans (Part.detect_writes _)
  · exact written.trans (Part.clearKind_writes _)

theorem Part.changeTrim_isLive (t : Int) :
    ((p.changeTrim h t).diag h).isLive .trimLimit = decide (t = 200 ∨ t = -200) := by
  unfold Part.changeTrim; dsimp only; split
  · next limit => rw [Part.detect_isLive (by decide), decide_eq_true limit]
  · next within => simp [Part.clearKind, within]

theorem Part.changeTrim_advised (t : Int) : (p.changeTrim h t).Advised := by
  unfold Part.changeTrim; dsimp only; split
  · exact Part.recomputeAdvisory_advised.detect _
  · exact Part.recomputeAdvisory_advised.modDiag _

theorem Part.writeHeadTrim_writes (t : Option Int) : Part.Writes h (HeadRecord.setTrim t) p (p.writeHeadTrim h t) := by
  cases t with
  | none => exact ⟨rfl, rfl, rfl, rfl⟩
  | some t => exact Part.changeTrim_writes t

/-! ### TIMED allowed for head (R76) -/

/-- The record with the field TIMED allowed written. -/
def HeadRecord.setTimed (b : Option Bool) (x : HeadRecord) : HeadRecord := { x with
  stored := { x.stored with timedAllowed := b.getD x.stored.timedAllowed } }

theorem Part.writeHeadTimed_writes (b : Option Bool) : Part.Writes h (HeadRecord.setTimed b) p (p.writeHeadTimed h b) := by
  cases b with
  | none => exact ⟨rfl, rfl, rfl, rfl⟩
  | some b =>
    have written : Part.Writes h (HeadRecord.setTimed (some b)) p (p.modRecord h (HeadRecord.setTimedAllowed b)) :=
      Part.modRecord_writes (HeadRecord.setTimedAllowed b)
    unfold Part.writeHeadTimed; dsimp only; split
    · exact written.trans (Part.setMethod_writes _ _)
    · exact written

/-- A TIMED head that may no longer be TIMED is OUT with its cause; the flags stay. -/
theorem Part.writeHeadTimed_rung (b : Option Bool) :
    ((p.writeHeadTimed h b).record h).method =
      (if b = some false ∧ (p.record h).method = .timed then .out else (p.record h).method) ∧
    ((p.writeHeadTimed h b).record h).cause = (p.record h).cause ∧
    ((p.writeHeadTimed h b).diag h).isLive = (p.diag h).isLive := by
  cases b with
  | none => exact ⟨(if_neg fun both => nomatch both.1).symm, rfl, rfl⟩
  | some b =>
    have record := Part.record_modRecord_self (h := h) (p := p) (HeadRecord.setTimedAllowed b)
    have diag := Part.diag_modRecord h h (HeadRecord.setTimedAllowed b) p
    have method : ((p.record h).setTimedAllowed b).method = (p.record h).method := rfl
    unfold Part.writeHeadTimed
    dsimp only
    rw [record, method]
    by_cases drops : b = false ∧ (p.record h).method = .timed
    · have head := Part.setMethod_head (p := p.modRecord h (HeadRecord.setTimedAllowed b)) (h := h) .out
        ((p.record h).setTimedAllowed b).cause
      rw [diag, Diag.moved, if_neg fun moves => nomatch moves.2] at head
      rw [if_pos drops, if_pos ⟨congrArg some drops.1, drops.2⟩]
      exact ⟨(congrArg (fun x : Head => x.record.method) head :), (congrArg (fun x : Head => x.record.cause) head :),
        (congrArg (fun x : Head => x.diag.isLive) head :)⟩
    · rw [if_neg drops, if_neg fun both => drops ⟨Option.some.inj both.1, both.2⟩, record, diag]
      exact ⟨rfl, rfl, rfl⟩

theorem Part.writeHeadTimed_advised (b : Option Bool) (advised : p.Advised) : (p.writeHeadTimed h b).Advised := by
  unfold Part.writeHeadTimed; split
  · exact advised
  · dsimp only; split
    · exact Part.setMethod_advised _ _
    · refine advised.of_same rfl rfl rfl rfl fun g => ?_
      rw [Part.record_modRecord]
      split
      · next same => rw [same]; rfl
      · rfl

/-! ### The fields before the service (R72) -/

theorem yesNoOf_no {o : Option Nat} : o.bind yesNoOf = some false ↔ o = some 0 := by
  rcases o with _ | _ | _ | n <;> simp [yesNoOf]

/-- The work of a WRITE HEAD before the in-service field: K, A and R, then T, then TIMED allowed (log entry 29). -/
def Part.writeHeadFields (h : HeadNo) (f : HeadFields) (p : Part) : Part :=
  ((p.writeHeadCal h f).writeHeadTrim h f.t).writeHeadTimed h (f.timedAllowed.bind yesNoOf)

theorem Part.writeHead_eq (f : HeadFields) :
    p.writeHead h f = (p.writeHeadFields h f).writeHeadService h (f.inService.bind yesNoOf) := rfl

/-- The record with the fields of a WRITE HEAD but the in-service field. -/
def HeadRecord.written (f : HeadFields) (x : HeadRecord) : HeadRecord :=
  ((x.writeCal f).setTrim f.t).setTimed (f.timedAllowed.bind yesNoOf)

theorem Part.writeHeadFields_writes (f : HeadFields) :
    Part.Writes h (HeadRecord.written f) p (p.writeHeadFields h f) :=
  ((Part.writeHeadCal_writes f).trans (Part.writeHeadTrim_writes f.t)).trans (Part.writeHeadTimed_writes _)

theorem Part.writeHeadFields_isLive {f : HeadFields} {t : Int} (trim : f.t = some t) :
    ((p.writeHeadFields h f).diag h).isLive .trimLimit = decide (t = 200 ∨ t = -200) := by
  obtain ⟨-, -, live⟩ := Part.writeHeadTimed_rung (h := h) (p := (p.writeHeadCal h f).writeHeadTrim h f.t)
    (f.timedAllowed.bind yesNoOf)
  rw [Part.writeHeadFields, live, trim]
  exact Part.changeTrim_isLive t

/-- Without a trim the fields move the rung of a TIMED head alone, and no flag. -/
theorem Part.writeHeadFields_rung {f : HeadFields} (keeps : f.t = none) :
    ((p.writeHeadFields h f).record h).method =
      (if f.timedAllowed = some 0 ∧ (p.record h).method = .timed then .out else (p.record h).method) ∧
    ((p.writeHeadFields h f).record h).cause = (p.record h).cause ∧
    ((p.writeHeadFields h f).diag h).isLive = (p.diag h).isLive := by
  have head := Part.writeHeadCal_head (h := h) (p := p) f
  have record : (p.writeHeadCal h f).record h = (p.record h).writeCal f := congrArg Head.record head
  have diag : (p.writeHeadCal h f).diag h = p.diag h := (congrArg Head.diag head :)
  have rung := Part.writeHeadTimed_rung (h := h) (p := p.writeHeadCal h f) (f.timedAllowed.bind yesNoOf)
  simp only [yesNoOf_no] at rung
  rw [record, diag] at rung
  rw [Part.writeHeadFields, keeps]
  exact rung

theorem Part.writeHeadFields_advised {f : HeadFields} (rated : f.r.isSome = true ∨ f.t.isSome = true) :
    (p.writeHeadFields h f).Advised := by
  refine Part.writeHeadTimed_advised _ ?_
  cases trim : f.t with
  | none =>
    rw [trim] at rated
    exact Part.writeHeadCal_advised (rated.resolve_right (by decide))
  | some t => exact Part.changeTrim_advised t

end Sys2Proof.Machine
end

section
/-! A change of service, and the statement about WRITE HEAD. -/

namespace Sys2Proof.Machine

open Sys2Proof

variable {h : HeadNo} {p : Part}

/-! ### A head leaves service (R75) -/

/-- The record of a head with its service and warm-up written (R75). -/
def HeadRecord.served (serves : Bool) (warm : Nat) (x : HeadRecord) : HeadRecord :=
  { x.setInService serves with warm := warm }


/-- The end of a CAL DOSE on a head: nothing when it has none, otherwise its valves close and the slot is FINISHED
(R183). -/
theorem Part.abortCalOn_cases (cause : AbortCause) :
    p.calOn h = none ∧ p.abortCalOn h cause = p ∨
      ∃ r, p.abortCalOn h cause = { p.modEntry h Entry.closeFill with slot := .finished r } := by
  unfold Part.abortCalOn
  cases cal : p.calOn h with
  | none => exact .inl ⟨rfl, rfl⟩
  | some c =>
    have pending : p.slot = .pendingCal c ∧ c.head = h := by
      unfold Part.calOn at cal
      split at cal
      · next k slot =>
        split at cal
        · next on => cases cal; exact ⟨slot, on⟩
        · cases cal
      · cases cal
    obtain ⟨slot, rfl⟩ := pending
    exact .inr ⟨_, Part.abortCal_of_pending slot cause⟩

theorem Part.calOn_abortCalOn (cause : AbortCause) : (p.abortCalOn h cause).calOn h = none := by
  rcases Part.abortCalOn_cases (h := h) (p := p) cause with ⟨free, same⟩ | ⟨r, ended⟩
  · rw [same, free]
  · rw [ended]; rfl

/-- Of the heads, the end of a CAL DOSE touches the entry of its own. -/
theorem Part.abortCalOn_head (cause : AbortCause) :
    (∃ e, (p.abortCalOn h cause).head h = { p.head h with entry := e }) ∧
      ∀ g, g ≠ h → (p.abortCalOn h cause).head g = p.head g := by
  rcases Part.abortCalOn_cases (h := h) (p := p) cause with ⟨-, same⟩ | ⟨r, ended⟩
  · rw [same]; exact ⟨⟨_, rfl⟩, fun _ _ => rfl⟩
  · have heads : ∀ g, (p.abortCalOn h cause).head g = (p.modEntry h Entry.closeFill).head g :=
      fun g => by rw [ended]; rfl
    refine ⟨⟨(p.entry h).closeFill, ?_⟩, fun g other => ?_⟩
    · rw [heads, Part.modEntry, Part.head_modHead, if_pos rfl]; rfl
    · rw [heads, Part.modEntry, Part.head_modHead, if_neg other]

theorem Part.Advised.modEntry (advised : p.Advised) (f : Entry → Entry) : (p.modEntry h f).Advised :=
  advised.of_same rfl rfl rfl rfl fun g => by rw [Part.record_modEntry]

theorem Part.Advised.finish (advised : p.Advised) (r : OpResult) : (p.finish r).Advised := by
  unfold Part.finish; split
  · exact advised.of_same rfl rfl rfl rfl fun _ => rfl
  · exact advised

theorem Part.Advised.endTestCoils (advised : p.Advised) (r : OpResult) : (p.endTestCoils r).Advised :=
  Part.Advised.finish (p := { p with coilTest := .idle }) (advised.of_same rfl rfl rfl rfl fun _ => rfl) r

theorem Part.Advised.removeMark (advised : p.Advised) : (p.removeMark h).Advised := by
  unfold Part.removeMark Part.checkTestCoils; split
  · have unmarked := advised.modDiag (h := h) fun d => { d with mark := false }
    split
    · exact unmarked.endTestCoils _
    · exact unmarked
  · exact advised

theorem Part.Advised.abortCalOn (advised : p.Advised) (cause : AbortCause) : (p.abortCalOn h cause).Advised := by
  rcases Part.abortCalOn_cases (h := h) (p := p) cause with ⟨-, same⟩ | ⟨r, ended⟩
  · rw [same]; exact advised
  · rw [ended]
    exact (advised.modEntry (h := h) Entry.closeFill).of_same rfl rfl rfl rfl fun _ => rfl

/-- What a part shows of a head that has left service since `p`. -/
structure Part.Left (h : HeadNo) (p q : Part) : Prop where
  others : ∀ g, g ≠ h → q.head g = p.head g
  context : q.context h = p.context h
  record : q.record h = { (p.record h).served false 0 with method := .out, cause := none, promo := 0 }
  diag : q.diag h = { p.diag h with mark := false }
  calOn : q.calOn h = none
  advised : q.Advised

theorem Part.leaveService_left : Part.Left h p (p.leaveService h) := by
  have start := Part.setMethod_head (h := h)
    (p := p.modRecord h (HeadRecord.served false 0)) .out none
  rw [Part.record_modRecord_self, Part.diag_modRecord, Diag.moved, if_neg fun moves => nomatch moves.2] at start
  have start' : ((p.modRecord h (HeadRecord.served false 0)).setMethod h .out none).head h =
      { p.head h with
        record := { (p.record h).served false 0 with method := .out, cause := none, promo := 0 } } := by
    rw [start, Part.modRecord, Part.head_modHead, if_pos rfl]; rfl
  have others : ∀ g, g ≠ h →
      ((p.modRecord h (HeadRecord.served false 0)).setMethod h .out none).head g = p.head g :=
    fun g other => Part.head_of_offHead ((Part.setMethod_writes _ _).off.trans (Part.modHead_offHead h _ p)) other
  have advised := Part.setMethod_advised (h := h)
    (p := p.modRecord h (HeadRecord.served false 0)) .out none
  have whole : p.leaveService h = ((let q := (p.modRecord h (HeadRecord.served false 0)).setMethod h .out none
      if q.control.prod = .drain then q.modEntry h Entry.closeClean else q).removeMark h).abortCalOn h .headWithdrawn := rfl
  rw [whole]
  dsimp only
  generalize (p.modRecord h (HeadRecord.served false 0)).setMethod h .out none = q at *
  clear start
  have shut : ∃ e, (if q.control.prod = .drain then q.modEntry h Entry.closeClean else q).head h =
      { q.head h with entry := e } := by
    split
    · exact ⟨_, by rw [Part.modEntry, Part.head_modHead, if_pos rfl]⟩
    · exact ⟨_, rfl⟩
  have shutOthers : ∀ g, g ≠ h →
      (if q.control.prod = .drain then q.modEntry h Entry.closeClean else q).head g = q.head g := fun g other => by
    split
    · rw [Part.modEntry, Part.head_modHead, if_neg other]
    · rfl
  have shutAdvised : (if q.control.prod = .drain then q.modEntry h Entry.closeClean else q).Advised := by
    split
    · exact advised.modEntry _
    · exact advised
  generalize (if q.control.prod = .drain then q.modEntry h Entry.closeClean else q) = r at *
  obtain ⟨⟨e, ended⟩, endedOthers⟩ := Part.abortCalOn_head (h := h) (p := r.removeMark h) .headWithdrawn
  obtain ⟨e', closed⟩ := shut
  rw [Part.removeMark_head, if_pos rfl, closed, start'] at ended
  refine ⟨fun g other => ?_, (congrArg Head.context ended :), (congrArg Head.record ended :),
    (congrArg Head.diag ended :), Part.calOn_abortCalOn _, Part.Advised.abortCalOn shutAdvised.removeMark _⟩
  rw [endedOthers g other, Part.removeMark_head, if_neg other, shutOthers g other, others g other]

/-! ### A head enters service (R75, R121) -/

theorem Part.Advised.decideLive (advised : p.Advised) : (p.decideLive h).Advised := by
  unfold Part.decideLive
  generalize allKinds = l
  induction l generalizing p with
  | nil => exact advised
  | cons k l ih =>
    refine ih ?_
    dsimp only; split
    · exact advised.decideKind k
    · exact advised

/-- What a part shows of a head that has entered service since `p`. -/
structure Part.Entered (h : HeadNo) (p q : Part) : Prop where
  writes : Part.Writes h (HeadRecord.served true p.serviceWarmup) p q
  warming : 0 < p.serviceWarmup → (q.record h).method = .flow ∧ (q.record h).cause = none
  decided : p.serviceWarmup = 0 → (q.record h).OnRung
    (HeadRecord.decidedAll p.machine (p.timedOk h) (p.diag h).isLive
      { p.record h with method := .flow, cause := none, promo := 0 })
  live : ∀ k, k ≠ .rateDeviation → (q.diag h).isLive k = (p.diag h).isLive k
  advised : q.Advised

theorem Part.enterService_entered : Part.Entered h p (p.enterService h) := by
  have head := Part.setMethod_head (h := h) (p := p.modRecord h (HeadRecord.served true p.serviceWarmup)) .flow none
  rw [Part.record_modRecord_self, Part.diag_modRecord, Diag.moved, if_neg fun moves => nomatch moves.2] at head
  have record : ((p.modRecord h (HeadRecord.served true p.serviceWarmup)).setMethod h .flow none).record h =
      { (p.record h).served true p.serviceWarmup with method := .flow, cause := none, promo := 0 } :=
    congrArg Head.record head
  have diag : ((p.modRecord h (HeadRecord.served true p.serviceWarmup)).setMethod h .flow none).diag h = p.diag h :=
    (congrArg Head.diag head :)
  have writes : Part.Writes h (HeadRecord.served true p.serviceWarmup) p
      ((p.modRecord h (HeadRecord.served true p.serviceWarmup)).setMethod h .flow none) :=
    (Part.modRecord_writes _).trans (Part.setMethod_writes _ _)
  have advised := Part.setMethod_advised (h := h) (p := p.modRecord h (HeadRecord.served true p.serviceWarmup)) .flow none
  have whole : p.enterService h = if p.serviceWarmup = 0 then
      ((p.modRecord h (HeadRecord.served true p.serviceWarmup)).setMethod h .flow none).decideLive h
      else (p.modRecord h (HeadRecord.served true p.serviceWarmup)).setMethod h .flow none := rfl
  rw [whole]
  generalize (p.modRecord h (HeadRecord.served true p.serviceWarmup)).setMethod h .flow none = q at *
  by_cases cold : p.serviceWarmup = 0
  · rw [if_pos cold]
    obtain ⟨turn, decided⟩ := Part.decideLive_turn (h := h) (p := q)
    refine ⟨writes.trans (Part.writes_of_offTable decided.off decided.record), fun warm => absurd cold warm.ne',
      fun _ => ?_, fun k other => ?_, advised.decideLive⟩
    · have ok : q.timedOk h = p.timedOk h := Part.timedOk_congr writes.activeRecipe (by rw [record]; rfl)
      have rung : (q.record h).OnRung { p.record h with method := .flow, cause := none, promo := 0 } := by
        rw [record]; exact ⟨rfl, rfl, rfl⟩
      have taken := turn.rung
      rw [writes.machine, ok, diag] at taken
      exact taken.trans (rung.decidedAll p.machine (p.timedOk h) (p.diag h).isLive)
    · rw [turn.others k other, diag]
  · rw [if_neg cold]
    refine ⟨writes, fun _ => ?_, fun none_ => absurd none_ cold, fun k _ => by rw [diag], advised⟩
    rw [record]; exact ⟨rfl, rfl⟩

/-! ### The in-service field (R75) -/

section service

variable {v : Option Bool}

theorem Part.writeHeadService_stays
    (same : v.getD (p.record h).stored.inService = (p.record h).stored.inService) : p.writeHeadService h v = p := by
  unfold Part.writeHeadService
  split
  · next serves => rw [serves] at same; cases same
  · next away => rw [away] at same; cases same
  · rfl

theorem Part.writeHeadService_leaves (serves : (p.record h).stored.inService = true) (leaves : v.getD true = false) :
    p.writeHeadService h v = p.leaveService h := by
  have value : v = some false := by
    cases v with
    | none => cases leaves
    | some b => exact congrArg some leaves
  unfold Part.writeHeadService
  rw [serves, value]

theorem Part.writeHeadService_enters (away : (p.record h).stored.inService = false) (enters : v.getD false = true) :
    p.writeHeadService h v = p.enterService h := by
  have value : v = some true := by
    cases v with
    | none => cases enters
    | some b => exact congrArg some enters
  unfold Part.writeHeadService
  rw [away, value]

end service

/-! ### The request -/

theorem exec_writeHead (n : Nat) (f : HeadFields) (s : State) : exec (.writeHead n f) s =
    .next { s with part := s.part.request (.writeHead n f) .line 0x18 (takeWriteHead n f) } := rfl

theorem Part.fittedHead_val (fitted : p.fitted h = true) : p.fittedHead h.val = some h := by
  rw [Part.fittedHead, dif_pos h.isLt, if_pos fitted]

theorem Part.fittedHead_of_unfitted {n : Nat} (nobody : ∀ g : HeadNo, g.val = n → p.fitted g = false) :
    p.fittedHead n = none := by
  unfold Part.fittedHead; split
  · rw [nobody _ rfl]; rfl
  · rfl

section owner

variable {f : HeadFields}

theorem takeWriteHead_unknown {n : Nat} (nobody : ∀ g : HeadNo, g.val = n → p.fitted g = false) :
    takeWriteHead n f p = refusal .unknownHead p := by
  rw [takeWriteHead, Part.fittedHead_of_unfitted nobody]

theorem takeWriteHead_range (fitted : p.fitted h = true) (invalid : headFieldsOk f = false) :
    takeWriteHead h.val f p = refusal .range p := by
  simp [takeWriteHead, Part.fittedHead_val fitted, invalid]

theorem takeWriteHead_writes (fitted : p.fitted h = true) (valid : headFieldsOk f = true) :
    takeWriteHead h.val f p = accept (p.writeHead h f) := by
  simp [takeWriteHead, Part.fittedHead_val fitted, valid]

end owner

/-- The fields of a record that a WRITE HEAD has left but for its rung (R72, R73, R74). -/
theorem HeadRecord.written_fields {f : HeadFields} {x y : HeadRecord} {serves : Bool} {warm : Nat}
    (rest : y.offRung = (x.offRung.written f).served serves warm) :
    y.stored = ⟨serves, (f.timedAllowed.bind yesNoOf).getD x.stored.timedAllowed, f.k.getD x.stored.k,
      f.a.getD x.stored.a, f.r.getD x.stored.r, f.t.getD x.stored.t⟩ ∧
    y.gen = (if f.k.isSome || f.a.isSome || f.r.isSome then (x.gen + 1) % 256 else x.gen) ∧
    y.outlierRun = (if f.a.isSome then 0 else x.outlierRun) ∧
    y.trimFrom = (if f.t.isSome then none else x.trimFrom) ∧ y.warm = warm :=
  ⟨(congrArg HeadRecord.stored rest :), (congrArg HeadRecord.gen rest :), (congrArg HeadRecord.outlierRun rest :),
    (congrArg HeadRecord.trimFrom rest :), (congrArg HeadRecord.warm rest :)⟩

theorem Part.serviceWarmup_eq : p.serviceWarmup =
    if p.control.prod ∈ [Prod.production, .hold, .stopping] then (p.activeRecipe.map (·.fields.warmup)).getD 0
    else 0 := by
  simp only [Part.serviceWarmup, Prod.doses_iff]

/-- Settles O49: the fields of the request first, then the change of service on the head they leave. -/
theorem writeHeadChangesTheRecord : Obligations.WriteHeadChangesTheRecord := by
  intro s n h f trim
  dsimp only
  intro takes
  rw [exec_writeHead, exec_writeHead]
  refine ⟨fun nobody => ?_, fun fitted invalid => ?_, fun fitted valid => ?_⟩
  · rw [Part.request_refused takes (takeWriteHead_unknown (p := s.part.crcPassed .line) nobody)]
  · rw [Part.request_refused takes (takeWriteHead_range (p := s.part.crcPassed .line) fitted invalid)]
  rw [Part.request_answered takes (takeWriteHead_writes (p := s.part.crcPassed .line) fitted valid), Part.writeHead_eq]
  have writes := Part.writeHeadFields_writes (p := s.part.crcPassed .line) (h := h) f
  have trimmed := Part.writeHeadFields_isLive (p := s.part.crcPassed .line) (h := h) (f := f) (t := trim)
  have untrimmed := Part.writeHeadFields_rung (p := s.part.crcPassed .line) (h := h) (f := f)
  have rated := Part.writeHeadFields_advised (p := s.part.crcPassed .line) (h := h) (f := f)
  generalize (s.part.crcPassed .line).writeHeadFields h f = r at *
  have others : ∀ g, g ≠ h → r.head g = s.part.head g := fun g other => Part.head_of_offHead writes.off other
  have service : (r.record h).stored.inService = (s.part.record h).stored.inService :=
    (congrArg (fun x : HeadRecord => x.stored.inService) writes.record :)
  generalize f.inService.bind yesNoOf = v
  by_cases same : v.getD (s.part.record h).stored.inService = (s.part.record h).stored.inService
  · rw [Part.writeHeadService_stays (by rw [service]; exact same)]
    obtain ⟨stored, gen, run, from_, warm⟩ := HeadRecord.written_fields
      (serves := v.getD (s.part.record h).stored.inService) (writes.record.trans (by rw [same]; rfl))
    refine ⟨r, rfl, others, writes.context, stored, gen, run, from_, trimmed, fun _ keeps => ?_, fun serves leaves => ?_,
      fun away enters => ?_, fun cases_ => rated ?_⟩
    · obtain ⟨method, cause, -⟩ := untrimmed keeps
      exact ⟨warm, method, cause, writes.entry, writes.slot⟩
    · rw [leaves, serves] at same; cases same
    · rw [enters, away] at same; cases same
    · exact cases_.imp_right fun rest => rest.resolve_right fun moved => moved same
  cases serves : (s.part.record h).stored.inService with
  | true =>
    rw [serves] at same service
    rw [Part.writeHeadService_leaves service (Bool.eq_false_iff.mpr same)]
    have left := Part.leaveService_left (h := h) (p := r)
    obtain ⟨stored, gen, run, from_, warm⟩ := HeadRecord.written_fields
      ((congrArg HeadRecord.offRung left.record).trans (congrArg (HeadRecord.served false 0) writes.record))
    refine ⟨_, rfl, fun g other => (left.others g other).trans (others g other), left.context.trans writes.context, ?_,
      gen, run, from_, fun given => ?_, fun stays => absurd stays same, fun _ _ => ⟨?_, ?_, warm, ?_, left.calOn⟩,
      fun away => absurd away (by decide), fun _ => left.advised⟩
    · rw [Bool.eq_false_iff.mpr same]; exact stored
    · rw [left.diag]; exact trimmed given
    · rw [left.record]
    · rw [left.record]
    · rw [left.diag]
  | false =>
    rw [serves] at same service
    have entered := Part.enterService_entered (h := h) (p := r)
    have warmup := Part.serviceWarmup_eq (p := r)
    rw [writes.control, writes.activeRecipe] at warmup
    rw [Part.writeHeadService_enters service (Bool.eq_true_of_not_eq_false same)]
    obtain ⟨stored, gen, run, from_, warm⟩ := HeadRecord.written_fields
      (entered.writes.record.trans (congrArg (HeadRecord.served true r.serviceWarmup) writes.record))
    refine ⟨_, rfl, fun g other => (Part.head_of_offHead entered.writes.off other).trans (others g other),
      entered.writes.context.trans writes.context, ?_, gen, run, from_, fun given => ?_, fun stays => absurd stays same,
      fun away => absurd away (by decide), fun _ _ => ⟨warm.trans warmup, entered.writes.entry.trans writes.entry,
        fun warming => entered.warming (by rw [warmup]; exact warming), fun cold keeps => ?_⟩, fun _ => entered.advised⟩
    · rw [Bool.eq_true_of_not_eq_false same]; exact stored
    · rw [entered.live _ (by decide)]; exact trimmed given
    · have decided := entered.decided (warmup.trans cold)
      rw [writes.machine, writes.timedOk, (untrimmed keeps).2.2] at decided
      have start : HeadRecord.OnRung { r.record h with method := .flow, cause := none, promo := 0 }
        { s.part.record h with method := .flow, cause := none, promo := 0 } := ⟨rfl, rfl, rfl⟩
      exact decided.trans (start.decidedAll _ _ _)

end Sys2Proof.Machine
end

section
/-! The ranges of head records, diagnostic entries and recipes, field by field, and what each change of one of them has
to keep (R69, R113, R114, R123, R166). -/

namespace Sys2Proof.Machine

open Sys2Proof

/-! ### Head records (R69) -/

/-- The stored fields of a head in their ranges. -/
structure StoredHead.Fits (s : StoredHead) : Prop where
  k : 2000 ≤ s.k ∧ s.k ≤ 50000
  a : s.a ≤ 400
  r : 50 ≤ s.r ∧ s.r ≤ 5000
  t : -200 ≤ s.t ∧ s.t ≤ 200

theorem storedHeadOk_iff {s : StoredHead} : storedHeadOk s = true ↔ s.Fits := by
  simp only [storedHeadOk, inRange, Nat.zero_le, decide_true, Bool.true_and, Bool.and_eq_true, decide_eq_true_eq]
  exact ⟨fun ⟨⟨⟨⟨k, a⟩, r⟩, low⟩, high⟩ => ⟨k, a, r, low, high⟩,
    fun ⟨k, a, r, low, high⟩ => ⟨⟨⟨⟨k, a⟩, r⟩, low⟩, high⟩⟩

/-- A head record in its ranges. -/
structure HeadRecord.Fits (x : HeadRecord) : Prop where
  stored : x.stored.Fits
  gen : x.gen < 256
  trimFrom : ∀ n, x.trimFrom = some n → n < 65536
  promo : x.promo ≤ 15
  warm : x.warm ≤ 15
  outlierRun : x.outlierRun ≤ 3
  doses : x.doses ≤ totalMax
  rejects : x.rejects ≤ totalMax
  drainPulses : x.drainPulses ≤ totalMax
  uninspected : x.uninspected ≤ totalMax

theorem HeadRecord.inRange_iff {x : HeadRecord} : x.inRange = true ↔ x.Fits := by
  simp only [HeadRecord.inRange, Bool.and_eq_true, storedHeadOk_iff, decide_eq_true_eq, Option.all_eq_true]
  exact ⟨fun ⟨⟨⟨⟨⟨⟨⟨⟨⟨a, b⟩, c⟩, d⟩, e⟩, f⟩, g⟩, h⟩, i⟩, j⟩ => ⟨a, b, c, d, e, f, g, h, i, j⟩,
    fun ⟨a, b, c, d, e, f, g, h, i, j⟩ => ⟨⟨⟨⟨⟨⟨⟨⟨⟨a, b⟩, c⟩, d⟩, e⟩, f⟩, g⟩, h⟩, i⟩, j⟩⟩

theorem totalUp_le (n : Nat) : totalUp n ≤ totalMax := Nat.min_le_left _ _

theorem limitInt_mem {lo hi : Int} (order : lo ≤ hi) (x : Int) : lo ≤ limitInt lo hi x ∧ limitInt lo hi x ≤ hi := by
  unfold limitInt; omega

theorem learnAfter_le (a m : Nat) : learnAfter a m ≤ 400 := by
  have := limitInt_mem (lo := 0) (hi := 400) (by decide) ((a : Int) + roundInt ((m : Int) - a) 4)
  unfold learnAfter; omega

theorem learnRate_mem (r m : Nat) : 50 ≤ learnRate r m ∧ learnRate r m ≤ 5000 := by
  have := limitInt_mem (lo := 50) (hi := 5000) (by decide) ((r : Int) + roundInt ((m : Int) - r) 8)
  unfold learnRate; omega

/-- The run-time values after a reset or at a joining of the fitted set fit for any stored fields that do (R70, R71). -/
theorem freshRecord_fits (fitted : Bool) {s : StoredHead} (stored : s.Fits) {gen : Nat} (le : gen < 256) :
    HeadRecord.Fits { freshRecord fitted s with gen := gen } :=
  ⟨stored, le, nofun, Nat.zero_le _, Nat.zero_le _, Nat.zero_le _, Nat.zero_le _, Nat.zero_le _, Nat.zero_le _,
    Nat.zero_le _⟩

theorem defaultStored_fits : defaultStored.Fits := storedHeadOk_iff.mp (by decide)

/-- A written field that lies in its range, or the field it leaves. -/
theorem getD_mem {o : Option Nat} {lo hi x : Nat} (ok : optInRange lo hi o = true) (old : lo ≤ x ∧ x ≤ hi) :
    lo ≤ o.getD x ∧ o.getD x ≤ hi := by
  cases o with
  | none => exact old
  | some n => simpa [optInRange, inRange] using ok

/-- K, A and R of an accepted WRITE HEAD (R69, R73). -/
theorem HeadRecord.Fits.writeCal {x : HeadRecord} (fits : x.Fits) {f : HeadFields} (ok : headFieldsOk f = true) :
    (x.writeCal f).Fits := by
  simp only [headFieldsOk, Bool.and_eq_true] at ok
  obtain ⟨⟨⟨⟨⟨k, a⟩, r⟩, -⟩, -⟩, -⟩ := ok
  have gen := fits.gen
  exact { fits with
    stored := {
      k := getD_mem k fits.stored.k
      a := (getD_mem a ⟨Nat.zero_le _, fits.stored.a⟩).2
      r := getD_mem r fits.stored.r
      t := fits.stored.t }
    gen := by simp only [HeadRecord.writeCal]; split <;> omega
    outlierRun := by simp only [HeadRecord.writeCal]; split <;> [exact Nat.zero_le _; exact fits.outlierRun] }

/-! ### Diagnostic entries (R113, R114, R123) -/

/-- A diagnostic entry in its ranges, its deviation window at most `n` entries long. -/
structure Diag.Fits (n : Nat) (d : Diag) : Prop where
  live : ∀ k, d.isLive k = true → d.isHeld k = true
  openDetail : d.isHeld .coilOpen = true ∨ d.openDetail = 0
  shortDetail : d.isHeld .coilShort = true ∨ d.shortDetail = 0
  window : d.window.length ≤ n

theorem FaultKind.idx_surj (i : Nat) (inside : i < 10) : ∃ k : FaultKind, (k.idx : Nat) = i := by
  have all : ∀ j : Fin 10, ∃ k ∈ allKinds, k.idx = j := by decide
  obtain ⟨k, -, same⟩ := all ⟨i, inside⟩
  exact ⟨k, congrArg Fin.val same⟩

theorem Diag.live_held_iff {d : Diag} : d.live &&& ~~~ d.held = 0 ↔ ∀ k, d.isLive k = true → d.isHeld k = true := by
  constructor
  · intro empty k live
    have bit := congrArg (·.getLsbD k.idx) empty
    simp only [BitVec.getLsbD_and, BitVec.getLsbD_not, k.idx.isLt, decide_true, Bool.true_and] at bit
    rw [Diag.isLive] at live
    rw [live] at bit
    simpa [Diag.isHeld] using bit
  · intro within
    apply BitVec.eq_of_getLsbD_eq
    intro i inside
    obtain ⟨k, rfl⟩ := FaultKind.idx_surj i inside
    have bit : d.live.getLsbD k.idx = true → d.held.getLsbD k.idx = true := within k
    simp only [BitVec.getLsbD_and, BitVec.getLsbD_not, inside, decide_true, Bool.true_and]
    cases live : d.live.getLsbD k.idx with
    | false => exact BitVec.getLsbD_zero.symm
    | true => rw [bit live]; exact BitVec.getLsbD_zero.symm

theorem Diag.inRange_iff {n : Nat} {d : Diag} : d.inRange n = true ↔ d.Fits n := by
  simp only [Diag.inRange, Bool.and_eq_true, Bool.or_eq_true, beq_iff_eq, decide_eq_true_eq, Diag.live_held_iff]
  exact ⟨fun ⟨⟨⟨a, b⟩, c⟩, e⟩ => ⟨a, b, c, e⟩, fun ⟨a, b, c, e⟩ => ⟨⟨⟨a, b⟩, c⟩, e⟩⟩

theorem blankDiag_fits (n : Nat) : blankDiag.Fits n :=
  ⟨fun k => by simp [blankDiag, Diag.isLive], .inr rfl, .inr rfl, Nat.zero_le _⟩

section changes

variable {n : Nat} {d : Diag} (fits : d.Fits n)

include fits

theorem Diag.Fits.raise (k : FaultKind) : (d.raise k).Fits n where
  live j := by
    simp only [Diag.isLive_raise, Diag.isHeld_raise, Bool.or_eq_true]
    exact Or.imp_left (fits.live j)
  openDetail := fits.openDetail.imp_left fun held => by simp [held]
  shortDetail := fits.shortDetail.imp_left fun held => by simp [held]
  window := fits.window

theorem Diag.Fits.fall (k : FaultKind) : (d.fall k).Fits n :=
  { fits with live := fun j live => fits.live j (by rw [Diag.isLive_fall] at live; simp_all) }

theorem Diag.Fits.setWindow {w : List Bool} {m : Nat} (le : w.length ≤ m) : Diag.Fits m { d with window := w } :=
  { fits with window := le }

theorem Diag.Fits.emptyWindow : d.emptyWindow.Fits n := (fits.fall .rateDeviation).setWindow (Nat.zero_le n)

theorem Diag.Fits.clearHeld : d.clearHeld.Fits n := by
  have held : ∀ k, d.clearHeld.isHeld k = (d.isHeld k && d.isLive k) := fun k => BitVec.getLsbD_and
  refine ⟨fun k live => ?_, ?_, ?_, fits.window⟩
  · rw [held, Bool.and_eq_true]; exact ⟨fits.live k live, live⟩
  · cases live : d.isLive .coilOpen with
    | true => exact .inl (by rw [held, live, fits.live _ live]; rfl)
    | false => exact .inr (by simp [Diag.clearHeld, live])
  · cases live : d.isLive .coilShort with
    | true => exact .inl (by rw [held, live, fits.live _ live]; rfl)
    | false => exact .inr (by simp [Diag.clearHeld, live])

/-- A valve joins the detail of a coil kind that is held (R117). -/
theorem Diag.Fits.addDetail {c : CoilFault} (held : d.isHeld (coilKind c) = true) (v : Valve) :
    (d.addDetail c v).Fits n := by
  cases c with
  | openLoad => exact { fits with openDetail := .inl held }
  | short => exact { fits with shortDetail := .inl held }

end changes

theorem windowJoin_length {n m : Nat} (fits : m ≤ n) (some_ : 1 ≤ n) (bit : Bool) (w : List Bool) :
    (windowJoin m bit w).length ≤ n := by
  simp only [windowJoin, List.length_append, List.length_drop, List.length_singleton]; omega

theorem windowNewest_length (n : Nat) (w : List Bool) : (windowNewest n w).length ≤ n := by
  simp only [windowNewest, List.length_drop]; omega

/-! ### Recipes (R166) -/

theorem validRecipe_of_fields {f : RecipeFields} {r : Recipe} (read : recipeOfFields f = some r) {revision : Nat}
    (byte : revision < 256) : validRecipe ⟨revision, r⟩ = true := by
  unfold recipeOfFields at read
  split at read
  · cases read
  · split at read
    · next ok =>
      cases read
      rw [validRecipe, Bool.and_eq_true, decide_eq_true_eq]
      exact ⟨byte, ok⟩
    · cases read

theorem validRecipe_warmup {sr : StoredRecipe} (valid : validRecipe sr = true) : sr.fields.warmup ≤ 15 := by
  simp only [validRecipe, recipeRangesOk, inRange, Bool.and_eq_true, decide_eq_true_eq] at valid
  omega

/-- An adjustment with every field in its range leaves a valid recipe valid when the gross limit still exceeds the
deadband (R166, R169). -/
theorem validRecipe_adjust {sr : StoredRecipe} (valid : validRecipe sr = true) {f : AdjustFields}
    (ok : adjustOk f = true) (order : (adjustRecipe f sr.fields).deadband < (adjustRecipe f sr.fields).gross)
    {revision : Nat} (byte : revision < 256) : validRecipe ⟨revision, adjustRecipe f sr.fields⟩ = true := by
  simp only [adjustOk, Bool.and_eq_true] at ok
  obtain ⟨⟨⟨⟨⟨⟨⟨v, b⟩, gain⟩, deadband⟩, gross⟩, margin⟩, hold⟩, speed⟩ := ok
  simp only [validRecipe, recipeRangesOk, inRange, Bool.and_eq_true, decide_eq_true_eq] at valid ⊢
  have v := getD_mem v (x := sr.fields.v) (by omega)
  have b := getD_mem b (x := sr.fields.b) (by omega)
  have gain := getD_mem gain (x := sr.fields.gain) (by omega)
  have deadband := getD_mem deadband (x := sr.fields.deadband) (by omega)
  have gross := getD_mem gross (x := sr.fields.gross) (by omega)
  have margin := getD_mem margin (x := sr.fields.margin) (by omega)
  have hold := getD_mem hold (x := sr.fields.hold) (by omega)
  have speed := getD_mem speed (x := sr.fields.speed) (by omega)
  simp only [adjustRecipe] at order ⊢
  omega

end Sys2Proof.Machine
end

section
/-! What the two range invariants read of the part, and the relation between a part and what an operation makes of it:
in range where the part is. The small operations keep it. -/

namespace Sys2Proof.Machine

open Sys2Proof

/-! ### The invariants by what they read -/

/-- The container counter, the head positions and the recipe slots in their ranges, with deviation windows of at most
`n` entries: while the configuration changes, `n` is not yet or no longer its window length. -/
structure Part.Tabled (n : Nat) (p : Part) : Prop where
  size : 1 ≤ n
  window : p.machine.window ≤ n
  number : p.nextNumber < 65536
  record : ∀ h, (p.record h).Fits
  diag : ∀ h, (p.diag h).Fits n
  recipe : ∀ (i : SlotNo) sr, p.recipes[i] = some sr → validRecipe sr = true

theorem Part.recordsInRange_iff {p : Part} : p.RecordsInRange ↔
    (4 ≤ p.machine.window ∧ p.machine.window ≤ 32) ∧ p.Tabled p.machine.window := by
  simp only [Part.RecordsInRange, HeadRecord.inRange_iff, Diag.inRange_iff, Option.all_eq_true]
  constructor
  · rintro ⟨window, number, heads, recipe⟩
    exact ⟨window, by omega, le_refl _, number, fun h => (heads h).1, fun h => (heads h).2, recipe⟩
  · rintro ⟨window, -, -, number, record, diag, recipe⟩
    exact ⟨window, number, fun h => ⟨record h, diag h⟩, recipe⟩

/-- The Supply Monitor's values and timers, and the configuration memory. -/
structure Part.SupplyFits (p : Part) : Prop where
  setpoint : 1000 ≤ p.supply.setpoint ∧ p.supply.setpoint ≤ 6000
  demand : p.supply.demand ≤ 1000000
  record : ∀ r, p.supply.record = some r →
    -50 ≤ r.temperature ∧ r.temperature ≤ 400 ∧ r.carbonation ≤ 800 ∧ r.pressure ≤ 8000
  absent : p.supply.freshness = .absent ↔ p.supply.record = none
  fresh : p.supply.freshness = .fresh ↔ p.supplyTimer ≠ .stopped
  timing : p.supply.watch = .timing ↔ p.supply.watchTimer ≠ .stopped
  memory : Memory.wf p.memory = true

/-- A port as the invariant wants it (R190, R195). -/
structure PortState.Fits (port : Port) (s : PortState) : Prop where
  frames : s.queue.length ≤ 80
  replies : (s.queue.filter (·.reply)).length ≤ 1
  others : port ≠ .inspection → ∀ f ∈ s.queue, f.reply = true
  held : s.held.isSome = true → s.hasReply = true

def Part.PortsFit (p : Part) : Prop := ∀ port, (p.port port).Fits port

theorem Part.supplyAndLinksInRange_iff {p : Part} : p.SupplyAndLinksInRange ↔ p.SupplyFits ∧ p.PortsFit := by
  have record : ((p.supply.record.all fun r => decide (-50 ≤ r.temperature) && decide (r.temperature ≤ 400)
      && decide (r.carbonation ≤ 800) && decide (r.pressure ≤ 8000)) = true) ↔ ∀ r, p.supply.record = some r →
      -50 ≤ r.temperature ∧ r.temperature ≤ 400 ∧ r.carbonation ≤ 800 ∧ r.pressure ≤ 8000 := by
    simp only [Option.all_eq_true, Bool.and_eq_true, decide_eq_true_eq, and_assoc]
  simp only [Part.SupplyAndLinksInRange, record]
  constructor
  · rintro ⟨a, b, c, d, e, f, ports, m⟩
    exact ⟨⟨a, b, c, d, e, f, m⟩, fun port => by
      obtain ⟨frames, replies, others, held⟩ := ports port
      exact ⟨frames, replies, others, held⟩⟩
  · rintro ⟨⟨a, b, c, d, e, f, m⟩, ports⟩
    exact ⟨a, b, c, d, e, f, fun port => by
      obtain ⟨frames, replies, others, held⟩ := ports port
      exact ⟨frames, replies, others, held⟩, m⟩

/-! ### In range where the part is -/

/-- The Supply Monitor, the memory and the links stay in range, and a free port stays free: an operation hands over no
reply and no frame but on the inspection link. -/
structure Part.KeepsLinks (p q : Part) : Prop where
  supply : p.SupplyFits → q.SupplyFits
  ports : p.PortsFit → q.PortsFit
  free : ∀ port, p.portFree port → q.portFree port

theorem Part.keepsLinks_of_links {p q : Part} (supply : p.SupplyFits → q.SupplyFits) (links : q.links = p.links) :
    p.KeepsLinks q := by
  have port : ∀ port, q.port port = p.port port := fun port => by cases port <;> simp only [Part.port, links]
  exact ⟨supply, fun fits x => by rw [port]; exact fits x, fun x free => by rw [Part.portFree, port]; exact free⟩

theorem Part.KeepsLinks.trans {p q r : Part} (one : p.KeepsLinks q) (two : q.KeepsLinks r) : p.KeepsLinks r :=
  ⟨two.supply ∘ one.supply, two.ports ∘ one.ports, fun port => two.free port ∘ one.free port⟩

/-- The links stay in range, and so do the records under the same window length N. -/
structure Part.KeepsRanges (p q : Part) : Prop extends p.KeepsLinks q where
  window : q.machine.window = p.machine.window
  tables : ∀ n, p.Tabled n → q.Tabled n

theorem Part.KeepsRanges.refl (p : Part) : p.KeepsRanges p := ⟨⟨id, id, fun _ => id⟩, rfl, fun _ => id⟩

theorem Part.KeepsRanges.trans {p q r : Part} (one : p.KeepsRanges q) (two : q.KeepsRanges r) : p.KeepsRanges r :=
  ⟨one.toKeepsLinks.trans two.toKeepsLinks, two.window.trans one.window, fun n => two.tables n ∘ one.tables n⟩

/-- The fields that the two invariants read. -/
def Part.ranges (p : Part) :=
  (p.machine.window, p.nextNumber, p.heads, p.recipes, p.supply, p.supplyTimer, p.memory, p.links)

theorem Part.keepsRanges_of_ranges {p q : Part} (same : q.ranges = p.ranges) : p.KeepsRanges q := by
  simp only [Part.ranges, Prod.mk.injEq] at same
  obtain ⟨window, number, heads, recipes, supply, timer, memory, links⟩ := same
  have head : ∀ h, q.head h = p.head h := fun h => by rw [Part.head, Part.head, heads]
  refine ⟨Part.keepsLinks_of_links (fun ⟨a, b, c, d, e, f, m⟩ => ?_) links, window, fun n tabled => ?_⟩
  · constructor <;> simpa only [supply, timer, memory]
  · obtain ⟨size, le, next, record, diag, recipe⟩ := tabled
    constructor <;> simpa only [Part.record, Part.diag, head, window, number, recipes]

section operations

variable {p q : Part} (w : p.KeepsRanges q)

include w

/-- An operation that writes none of the fields. -/
theorem Part.KeepsRanges.same {r : Part} (e : r.ranges = q.ranges) : p.KeepsRanges r :=
  w.trans (Part.keepsRanges_of_ranges e)

theorem Part.KeepsRanges.ite {b : Prop} [Decidable b] {r : Part} (v : p.KeepsRanges r) :
    p.KeepsRanges (if b then q else r) := by split <;> assumption

/-! ### Changes of heads -/

/-- Heads are changed, each into one in range. -/
theorem Part.KeepsRanges.setHeads {hs : Vector Head 64} {c : Nat}
    (record : ∀ n, p.Tabled n → q.Tabled n → ∀ h : HeadNo, (hs[h]).record.Fits)
    (diag : ∀ n, p.Tabled n → q.Tabled n → ∀ h : HeadNo, (hs[h]).diag.Fits n) :
    p.KeepsRanges { q with heads := hs, advisory := c } :=
  ⟨w.toKeepsLinks.trans (Part.keepsLinks_of_links (fun ⟨a, b, c, d, e, f, m⟩ => ⟨a, b, c, d, e, f, m⟩) rfl), w.window,
    fun n before => have tabled := w.tables n before
      ⟨tabled.size, tabled.window, tabled.number, record n before tabled, diag n before tabled, tabled.recipe⟩⟩

/-- Every head is changed, each into one in range. -/
theorem Part.KeepsRanges.mapHeads {f : HeadNo → Head}
    (record : ∀ n, q.Tabled n → ∀ h, (q.record h).Fits → (f h).record.Fits)
    (diag : ∀ n, q.Tabled n → ∀ h, (q.diag h).Fits n → (f h).diag.Fits n) :
    p.KeepsRanges { q with heads := Vector.ofFn f } := by
  have heads : ∀ h : HeadNo, (Vector.ofFn f)[h] = f h := fun h => Vector.getElem_ofFn _
  exact w.setHeads (c := q.advisory) (fun n _ tabled h => by rw [heads]; exact record n tabled h (tabled.record h))
    fun n _ tabled h => by rw [heads]; exact diag n tabled h (tabled.diag h)

/-- One head is changed, into one in range. -/
theorem Part.KeepsRanges.modHead {h : HeadNo} {f : Head → Head}
    (record : ∀ n, p.Tabled n → q.Tabled n → (f (q.head h)).record.Fits)
    (diag : ∀ n, p.Tabled n → q.Tabled n → (f (q.head h)).diag.Fits n) :
    p.KeepsRanges (q.modHead h f) := by
  have heads : ∀ g : HeadNo, (q.heads.set h (f (q.head h)))[g] = if g = h then f (q.head h) else q.head g :=
    fun g => Part.head_modHead h g f q
  refine w.setHeads (c := q.advisory) (fun n before tabled g => ?_) fun n before tabled g => ?_ <;>
    rw [heads] <;> split
  · exact record n before tabled
  · exact tabled.record g
  · exact diag n before tabled
  · exact tabled.diag g

/-- One head is changed, but neither its record nor its diagnostic entry. -/
theorem Part.KeepsRanges.moveHead {h : HeadNo} {f : Head → Head} (record : (f (q.head h)).record = q.record h)
    (diag : (f (q.head h)).diag = q.diag h) : p.KeepsRanges (q.modHead h f) :=
  w.modHead (fun _ _ tabled => record ▸ tabled.record h) fun _ _ tabled => diag ▸ tabled.diag h

theorem Part.KeepsRanges.modEntry (h : HeadNo) (f : Entry → Entry) : p.KeepsRanges (q.modEntry h f) :=
  w.moveHead rfl rfl

theorem Part.KeepsRanges.modContext (h : HeadNo) (f : Context → Context) : p.KeepsRanges (q.modContext h f) :=
  w.moveHead rfl rfl

theorem Part.KeepsRanges.modRecord {h : HeadNo} {f : HeadRecord → HeadRecord}
    (record : ∀ n, q.Tabled n → (q.record h).Fits → (f (q.record h)).Fits) : p.KeepsRanges (q.modRecord h f) :=
  w.modHead (fun n _ tabled => record n tabled (tabled.record h)) fun _ _ tabled => tabled.diag h

theorem Part.KeepsRanges.modDiag {h : HeadNo} {f : Diag → Diag}
    (diag : ∀ n, q.Tabled n → (q.diag h).Fits n → (f (q.diag h)).Fits n) : p.KeepsRanges (q.modDiag h f) :=
  w.modHead (fun _ _ tabled => tabled.record h) fun n _ tabled => diag n tabled (tabled.diag h)

/-! ### Folds -/

omit w in
theorem Part.KeepsRanges.foldl {α : Type} {f : Part → α → Part} (keeps : ∀ r a, p.KeepsRanges r → p.KeepsRanges (f r a))
    (l : List α) {q : Part} (w : p.KeepsRanges q) : p.KeepsRanges (l.foldl f q) := by
  induction l generalizing q with
  | nil => exact w
  | cons a l ih => exact ih (keeps q a w)

theorem Part.KeepsRanges.forEach {f : HeadNo → Part → Part} (keeps : ∀ h r, p.KeepsRanges r → p.KeepsRanges (f h r))
    (l : List HeadNo) : p.KeepsRanges (forEach l f q) := Part.KeepsRanges.foldl (fun r h => keeps h r) l w

theorem Part.KeepsRanges.forFitted {f : HeadNo → Part → Part} (keeps : ∀ h r, p.KeepsRanges r → p.KeepsRanges (f h r)) :
    p.KeepsRanges (forFitted f q) := w.forEach keeps _

/-! ### The Supply Monitor, the memory and the recipes -/

theorem Part.KeepsRanges.supplied {r : Part} (fits : q.SupplyFits → r.SupplyFits)
    (e : r.ranges = { q with supply := r.supply, supplyTimer := r.supplyTimer, memory := r.memory }.ranges) :
    p.KeepsRanges r := by
  simp only [Part.ranges, Prod.mk.injEq] at e
  obtain ⟨window, number, heads, recipes, -, -, -, links⟩ := e
  have head : ∀ h, r.head h = q.head h := fun h => by rw [Part.head, Part.head, heads]
  refine w.trans ⟨Part.keepsLinks_of_links fits links, window, fun n ⟨size, le, next, record, diag, recipe⟩ => ?_⟩
  constructor <;> simpa only [Part.record, Part.diag, head, window, number, recipes]

theorem Part.KeepsRanges.setRecipe (i : SlotNo) {sr : StoredRecipe}
    (valid : ∀ n, q.Tabled n → validRecipe sr = true) : p.KeepsRanges (q.setRecipe i sr) := by
  refine w.trans ⟨Part.keepsLinks_of_links (fun ⟨a, b, c, d, e, f, m⟩ => ⟨a, b, c, d, e, f, m⟩) rfl, rfl,
    fun n tabled => ⟨tabled.size, tabled.window, tabled.number, tabled.record, tabled.diag, fun j r stored => ?_⟩⟩
  by_cases same : i = j
  · subst same
    have known : (q.setRecipe i sr).recipes[i] = some sr := by simp [Part.setRecipe]
    rw [known] at stored; cases stored; exact valid n tabled
  · have other : (q.setRecipe i sr).recipes[j] = q.recipes[j] := by
      have apart : (i : Nat) ≠ j := fun e => same (Fin.ext e)
      simp [Part.setRecipe, Vector.getElem_set_ne, apart]
    rw [other] at stored; exact tabled.recipe j r stored

/-! ### Links and timers -/

/-- A receiver and its timer move on; the held frame and the queue stay. -/
theorem Part.KeepsRanges.setPort (port : Port) {s : PortState} (held : s.held = (q.port port).held)
    (queue : s.queue = (q.port port).queue) : p.KeepsRanges (q.setPort port s) := by
  refine w.trans ⟨⟨fun ⟨a, b, c, d, e, f, m⟩ => ⟨a, b, c, d, e, f, m⟩, fun fits x => ?_, fun x free => ?_⟩, rfl,
    fun n tabled => ⟨tabled.size, tabled.window, tabled.number, tabled.record, tabled.diag, tabled.recipe⟩⟩
  all_goals by_cases same : port = x
  · subst same
    obtain ⟨frames, replies, others, unsent⟩ := fits port
    rw [Part.port_setPort_same]
    constructor <;> simpa only [PortState.hasReply, held, queue]
  · rw [Part.port_setPort_other q s same]; exact fits x
  · subst same
    rw [Part.portFree, Part.port_setPort_same, PortState.hasReply, held, queue]; exact free
  · rw [Part.portFree, Part.port_setPort_other q s same]; exact free

theorem Part.KeepsRanges.crcPassed (port : Port) : p.KeepsRanges (q.crcPassed port) := by
  cases port <;> exact w.same rfl

/-- A container's result joins the inspection link's queue (R96). -/
theorem Part.KeepsRanges.handResult (kind : Byte) (payload : List Byte) :
    p.KeepsRanges (q.enqueue .inspection ⟨false, kind, payload⟩) := by
  unfold Part.enqueue
  dsimp only; split
  · next room =>
    refine w.trans ⟨⟨fun ⟨a, b, c, d, e, f, m⟩ => ⟨a, b, c, d, e, f, m⟩, fun fits port => ?_, fun port free => ?_⟩, rfl,
      fun n tabled => ⟨tabled.size, tabled.window, tabled.number, tabled.record, tabled.diag, tabled.recipe⟩⟩
    · cases port with
      | line => exact fits .line
      | supply => exact fits .supply
      | inspection =>
        obtain ⟨-, replies, -, held⟩ := fits .inspection
        rw [Part.port_setPort_same]
        refine ⟨?_, by simpa using replies, fun other => absurd rfl other, fun some_ => ?_⟩
        · simp only [List.length_append, List.length_singleton]; omega
        · have unsent := held some_
          simp only [PortState.hasReply, List.any_append] at unsent ⊢
          rw [unsent, Bool.true_or]
    · cases port with
      | line => exact free
      | supply => exact free
      | inspection =>
        obtain ⟨held, unsent⟩ := free
        rw [Part.portFree, Part.port_setPort_same]
        exact ⟨held, by simpa [PortState.hasReply] using unsent⟩
  · exact w

theorem Part.KeepsRanges.atExpiry {t : Timer} {handle : Part → Part}
    (keeps : ∀ r, p.KeepsRanges r → p.KeepsRanges (handle r)) : p.KeepsRanges (q.atExpiry t handle) := by
  cases t with
  | stopped => exact w
  | running due => exact keeps _ (w.same rfl)

theorem Part.KeepsRanges.phaseExpiry {h : HeadNo} {st : HeadState} {handle : Part → Part}
    (keeps : ∀ r, p.KeepsRanges r → p.KeepsRanges (handle r)) : p.KeepsRanges (q.phaseExpiry h st handle) := by
  unfold Part.phaseExpiry; exact .ite (w.atExpiry keeps) w

theorem Part.KeepsRanges.moduleAnswers (m : ModuleNo) : p.KeepsRanges (q.moduleAnswers m) := by
  unfold Part.moduleAnswers; split
  · exact w.same rfl
  · exact w

theorem Part.KeepsRanges.busArrival {h : HeadNo} {handle : Part → Part}
    (keeps : ∀ r, p.KeepsRanges r → p.KeepsRanges (handle r)) : p.KeepsRanges (q.busArrival h handle) := by
  unfold Part.busArrival
  exact .ite w (Part.KeepsRanges.ite (b := (q.moduleAnswers (moduleOf h)).fitted h = true)
    (keeps _ (w.moduleAnswers _)) (w.moduleAnswers _))

end operations

end Sys2Proof.Machine
end

section
/-! The Head Table, the Diagnostics Monitor, the Operation Slot, the coil tests and the dose timers keep the ranges. -/

namespace Sys2Proof.Machine

open Sys2Proof

variable {p q : Part} (w : p.KeepsRanges q) (h : HeadNo)

include w

/-! ### The method ladder (R81 to R88) -/

theorem Part.KeepsRanges.recomputeAdvisory : p.KeepsRanges q.recomputeAdvisory := w.same rfl

theorem Part.KeepsRanges.setMethod (m : Method) (c : Option FaultKind) : p.KeepsRanges (q.setMethod h m c) := by
  unfold Part.setMethod
  refine (w.modHead (fun n _ tabled => { tabled.record h with promo := Nat.zero_le _ })
    fun n _ tabled => ?_).recomputeAdvisory
  dsimp only; split
  · exact (tabled.diag h).emptyWindow
  · exact tabled.diag h

theorem Part.KeepsRanges.degrade (k : FaultKind) : p.KeepsRanges (q.degrade h k) := by
  unfold Part.degrade; split
  · exact w.setMethod h _ _
  · exact .ite (w.setMethod h _ _) w
  · exact w

theorem Part.KeepsRanges.putOut (k : FaultKind) : p.KeepsRanges (q.putOut h k) := by
  unfold Part.putOut; split
  · exact w.setMethod h _ _
  · exact w.setMethod h _ _
  · exact w

theorem Part.KeepsRanges.decideKind (k : FaultKind) : p.KeepsRanges (q.decideKind h k) := by
  unfold Part.decideKind; split
  · exact w
  · exact w.putOut h k
  · exact w.degrade h k

theorem Part.KeepsRanges.detect (k : FaultKind) : p.KeepsRanges (q.detect h k) := by
  have raised := w.modDiag (h := h) fun _ _ fits => fits.raise k
  unfold Part.detect
  split
  · exact w
  · exact .ite (raised.decideKind h k) raised

theorem Part.KeepsRanges.clearKind (k : FaultKind) : p.KeepsRanges (q.clearKind h k) :=
  w.modDiag fun _ _ fits => fits.fall k

/-- The detail of a coil kind grows with its kind live, and so held, or with the rise of the kind (R117). -/
theorem Part.KeepsRanges.coilDetect (c : CoilFault) (v : Valve) : p.KeepsRanges (q.coilDetect h c v) := by
  have known : ((q.modDiag h (Diag.addDetail c v)).diag h).isLive (coilKind c) = (q.diag h).isLive (coilKind c) := by
    rw [Part.diag_modDiag, if_pos rfl, Diag.isLive_addDetail]
  unfold Part.coilDetect Part.detect
  rw [known]
  split
  · next live => exact w.modDiag fun n tabled fits => fits.addDetail (fits.live _ live) v
  · have raised : p.KeepsRanges ((q.modDiag h (Diag.addDetail c v)).modDiag h (Diag.raise (coilKind c))) := by
      rw [Part.modDiag, Part.modDiag, Part.modHead_modHead]
      refine w.modHead (fun _ _ tabled => tabled.record h) fun n _ tabled => ?_
      have fits := ((tabled.diag h).raise (coilKind c)).addDetail (c := c) (by simp) v
      cases c <;> exact fits
    exact .ite (raised.decideKind h _) raised

theorem Part.KeepsRanges.evaluateRate : p.KeepsRanges (q.evaluateRate h) := .ite (w.detect h _) (w.clearKind h _)

theorem Part.KeepsRanges.decideLive : p.KeepsRanges (q.decideLive h) :=
  .foldl (fun _ k v => .ite (v.decideKind h k) v) _ w

/-! ### The Operation Slot and the test marks (R127, R129, R176, R183) -/

theorem Part.KeepsRanges.finish (r : OpResult) : p.KeepsRanges (q.finish r) := by
  unfold Part.finish; split
  · exact w.same rfl
  · exact w

theorem Part.KeepsRanges.endTestCoils (r : OpResult) : p.KeepsRanges (q.endTestCoils r) := by
  have idle : p.KeepsRanges { q with coilTest := .idle } := w.same rfl
  exact idle.finish r

theorem Part.KeepsRanges.checkTestCoils : p.KeepsRanges q.checkTestCoils := by
  unfold Part.checkTestCoils; exact .ite (w.endTestCoils _) w

theorem Part.KeepsRanges.removeMark : p.KeepsRanges (q.removeMark h) := by
  have unmarked := w.modDiag (h := h) (f := fun d => { d with mark := false }) fun _ _ fits => { fits with }
  unfold Part.removeMark; exact .ite unmarked.checkTestCoils w

theorem Part.KeepsRanges.removeAllMarks : p.KeepsRanges q.removeAllMarks := by
  have cleared : p.KeepsRanges { q with heads := Vector.ofFn fun h =>
      { q.head h with diag := { (q.head h).diag with mark := false } } } :=
    w.mapHeads (fun _ _ _ fits => fits) fun _ _ _ fits => { fits with }
  unfold Part.removeAllMarks
  exact .ite (cleared.endTestCoils _) cleared

theorem Part.KeepsRanges.endCal (c : CalRecord) (r : OpResult) : p.KeepsRanges (q.endCal c r) :=
  (w.modEntry _ _).finish r

theorem Part.KeepsRanges.abortCal (cause : AbortCause) : p.KeepsRanges (q.abortCal cause) := by
  unfold Part.abortCal; split
  · exact w.endCal _ _
  · exact w

theorem Part.KeepsRanges.abortCalOn (cause : AbortCause) : p.KeepsRanges (q.abortCalOn h cause) := by
  unfold Part.abortCalOn; exact .ite (w.abortCal _) w

/-! ### Learning, re-promotion, warm-up and totals (R62 to R64, R85, R88, R89) -/

theorem Part.KeepsRanges.admitAfter (a : Nat) : p.KeepsRanges (q.admitAfter h a) := by
  unfold Part.admitAfter
  dsimp only; split
  · have counted := w.modRecord (h := h) (f := fun x => { x with outlierRun := min 3 ((q.record h).outlierRun + 1) })
      fun _ _ fits => { fits with outlierRun := Nat.min_le_left _ _ }
    exact .ite (counted.detect h _) counted
  · refine Part.KeepsRanges.clearKind (w.modRecord fun _ _ fits => ?_) h _
    exact { fits with outlierRun := Nat.zero_le _, stored := { fits.stored with a := learnAfter_le _ _ } }

theorem Part.KeepsRanges.admitRate (r : Nat) (bit : Bool) : p.KeepsRanges (q.admitRate h r bit) := by
  unfold Part.admitRate
  refine Part.KeepsRanges.evaluateRate (Part.KeepsRanges.recomputeAdvisory
    (w.modHead (fun n _ tabled => ?_) fun n _ tabled => ?_)) h
  · exact { tabled.record h with stored := { (tabled.record h).stored with r := learnRate_mem _ _ } }
  · exact (tabled.diag h).setWindow (windowJoin_length tabled.window tabled.size _ _)

theorem Part.KeepsRanges.takeSamples (full : Bool) : p.KeepsRanges (q.takeSamples h full) := by
  unfold Part.takeSamples; split
  · exact w
  · split
    · next c _ _ =>
      have after : p.KeepsRanges (if full = true then q.admitAfter h c.measuredAfter else q) :=
        .ite (w.admitAfter h _) w
      dsimp only; split
      · exact after
      · exact after.admitRate h _ _
    · exact w

theorem Part.KeepsRanges.applyJudgement (j : Option Judgement) : p.KeepsRanges (q.applyJudgement h j) := by
  unfold Part.applyJudgement
  dsimp only; split
  · exact w
  · split
    · split
      · exact w.modRecord fun _ _ fits => { fits with promo := Nat.zero_le _ }
      · exact .ite (w.setMethod h _ _) (w.modRecord fun _ _ fits => { fits with promo := Nat.min_le_left _ _ })
    · exact w

theorem Part.KeepsRanges.countWarmup : p.KeepsRanges (q.countWarmup h) := by
  have counted := w.modRecord (h := h) (f := fun x => { x with warm := (q.record h).warm - 1 }) fun _ _ fits =>
    { fits with warm := (Nat.sub_le _ _).trans fits.warm }
  unfold Part.countWarmup
  dsimp only; split
  · exact w
  · exact .ite (counted.decideLive h) counted

theorem Part.KeepsRanges.tableOutcome (c : Context) : p.KeepsRanges (q.tableOutcome h c) := by
  unfold Part.tableOutcome
  have counted := w.modRecord (h := h) (f := fun x => { x with
      doses := if c.used = .none then x.doses else totalUp x.doses
      rejects := if verdictOf c.status c.flags = .reject then totalUp x.rejects else x.rejects }) fun _ _ fits =>
    { fits with
      doses := by dsimp only; split <;> [exact fits.doses; exact totalUp_le _]
      rejects := by dsimp only; split <;> [exact totalUp_le _; exact fits.rejects] }
  have judged := counted.applyJudgement h c.judgement
  exact .ite judged (judged.countWarmup h)

theorem Part.KeepsRanges.countUninspected : p.KeepsRanges (q.countUninspected h) :=
  w.modRecord fun _ _ fits => { fits with uninspected := totalUp_le _ }

/-! ### Coil tests (R39, R118) -/

theorem Part.KeepsRanges.beginTest : p.KeepsRanges (q.beginTest h) := w.modEntry _ _

theorem Part.KeepsRanges.enterRest : p.KeepsRanges (q.enterRest h) := by
  have rests := w.modEntry h fun e => { e with state := .rest }
  unfold Part.enterRest; exact .ite (rests.beginTest h) rests

theorem Part.KeepsRanges.beginMarked : p.KeepsRanges q.beginMarked :=
  w.forFitted fun h _ v => .ite (v.beginTest h) v

theorem Part.KeepsRanges.setProd (new : Prod) : p.KeepsRanges (q.setProd new) := by
  unfold Part.setProd
  dsimp only; split
  · exact Part.KeepsRanges.beginMarked (w.same rfl)
  · exact w.same rfl

theorem Part.KeepsRanges.leaveTest : p.KeepsRanges (q.leaveTest h) := w.modEntry _ _

theorem Part.KeepsRanges.outcomeDetections (t : TestReport) (c : CoilFault) (rs : List (Valve × TestReport)) :
    p.KeepsRanges (q.outcomeDetections h t c rs) := .foldl (fun _ r v => v.coilDetect h c r.1) _ w

theorem Part.KeepsRanges.testOutcome (rs : List (Valve × TestReport)) : p.KeepsRanges (q.testOutcome h rs) := by
  refine Part.KeepsRanges.removeMark (.ite ?_ ?_) h
  · exact (w.clearKind h _).clearKind h _
  · exact (w.outcomeDetections h _ _ rs).outcomeDetections h _ _ rs

theorem Part.KeepsRanges.testExpiry : p.KeepsRanges (q.testExpiry h) := by
  have left := w.leaveTest h
  unfold Part.testExpiry
  dsimp only; split
  · exact left
  · exact left.testOutcome h _

/-! ### The runaway count (R57) -/

theorem Part.KeepsRanges.judgeRunaway : p.KeepsRanges (q.judgeRunaway h) := by
  unfold Part.judgeRunaway
  exact Part.KeepsRanges.moveHead (.ite (w.clearKind h _) w) rfl rfl

theorem Part.KeepsRanges.dischargeRunaway : p.KeepsRanges (q.dischargeRunaway h) := by
  unfold Part.dischargeRunaway
  exact Part.KeepsRanges.moveHead (.ite w (w.judgeRunaway h)) rfl rfl

theorem Part.KeepsRanges.runawayPulse : p.KeepsRanges (q.runawayPulse h) := by
  unfold Part.runawayPulse
  exact .ite (Part.KeepsRanges.detect (w.moveHead rfl rfl) h _) (w.moveHead rfl rfl)

end Sys2Proof.Machine
end

section
/-! The head cycle, the Container Track, the carousel, SAFE and the pulses keep the ranges. -/

namespace Sys2Proof.Machine

open Sys2Proof

variable {p q : Part} (w : p.KeepsRanges q) (h : HeadNo)

include w

/-! ### The fill, the settle and the relief of a container (R26 to R33) -/

theorem Part.KeepsRanges.addContextFlag (f : ContainerFlag) : p.KeepsRanges (q.addContextFlag h f) := w.modContext _ _

theorem Part.KeepsRanges.goTo (st : HeadState) : p.KeepsRanges (q.goTo h st) := w.modEntry _ _

theorem Part.KeepsRanges.openRelief : p.KeepsRanges (q.openRelief h) := by
  unfold Part.openRelief; exact w.modEntry _ _

theorem Part.KeepsRanges.cutSettle : p.KeepsRanges (q.cutSettle h) := (w.modContext _ _).takeSamples h _

theorem Part.KeepsRanges.toSettle (st : DoseStatus) : p.KeepsRanges (q.toSettle h st) := by
  unfold Part.toSettle; exact w.moveHead rfl rfl

theorem Part.KeepsRanges.completeDose : p.KeepsRanges (q.completeDose h) := .ite (w.toSettle h _) w

theorem Part.KeepsRanges.fastClose : p.KeepsRanges (q.fastClose h) := .ite (w.modEntry _ _) w

theorem Part.KeepsRanges.refuseFill (f : ContainerFlag) : p.KeepsRanges (q.refuseFill h f) :=
  (w.addContextFlag h f).modEntry _ _

theorem Part.KeepsRanges.startFill (c : Context) : p.KeepsRanges (q.startFill h c) := by
  unfold Part.startFill
  exact Part.KeepsRanges.moveHead (Part.KeepsRanges.judgeRunaway (w.moveHead rfl rfl) h) rfl rfl

theorem Part.KeepsRanges.fillDecision : p.KeepsRanges (q.fillDecision h) := by
  unfold Part.fillDecision; split
  · exact w
  · exact .ite (w.refuseFill h _) (.ite (w.refuseFill h _) (w.startFill h _))

theorem Part.KeepsRanges.pressuriseCrossing : p.KeepsRanges (q.pressuriseCrossing h) := by
  unfold Part.pressuriseCrossing; split
  · exact .ite ((w.addContextFlag h _).goTo h _) (.ite (w.goTo h _) (.ite ((w.addContextFlag h _).goTo h _)
      (w.modEntry _ _)))
  · exact w

theorem Part.KeepsRanges.fillStartCrossing : p.KeepsRanges (q.fillStartCrossing h) := by
  unfold Part.fillStartCrossing; split
  · exact w.fillDecision h
  · exact w.modEntry _ _
  · exact w

theorem Part.KeepsRanges.overrunFill : p.KeepsRanges (q.overrunFill h) :=
  ((w.addContextFlag h _).detect h _).toSettle h _

theorem Part.KeepsRanges.fillEndCrossing : p.KeepsRanges (q.fillEndCrossing h) := by
  unfold Part.fillEndCrossing; split
  · exact w.overrunFill h
  · exact w.overrunFill h
  · exact w.modEntry _ _
  · exact w

theorem Part.KeepsRanges.reliefCrossing : p.KeepsRanges (q.reliefCrossing h) := by
  have overrun := ((w.addContextFlag h .windowOverrun).detect h .windowOverrun).openRelief h
  have cut := ((w.overrunFill h).cutSettle h).openRelief h
  unfold Part.reliefCrossing; split
  · exact w.openRelief h
  · exact (w.cutSettle h).openRelief h
  · exact overrun
  · exact overrun
  · exact cut
  · exact cut
  all_goals exact w

theorem Part.KeepsRanges.lose (f : ContainerFlag) : p.KeepsRanges (q.lose h f) := by
  have flagged := w.addContextFlag h f
  have detected : p.KeepsRanges
      (if f = .sealLost then (q.addContextFlag h f).detect h .sealLost else q.addContextFlag h f) :=
    .ite (flagged.detect h _) flagged
  have aborted := Part.KeepsRanges.ite (b := (q.entry h).state.isFill = true)
    (detected.modContext h Context.abortFill) detected
  exact (Part.KeepsRanges.ite (b := (q.entry h).state = .settle) (aborted.cutSettle h) aborted).openRelief h

theorem Part.KeepsRanges.sealDropAt : p.KeepsRanges (q.sealDropAt h) := by
  unfold Part.sealDropAt; split
  case h_7 => exact (w.addContextFlag h _).detect h _
  all_goals first | exact w | exact w.lose h _

theorem Part.KeepsRanges.pressuriseEnd : p.KeepsRanges (q.pressuriseEnd h) := by
  have waits := w.modEntry h fun e => { e with state := .waitFill, timer := .stopped }
  exact .ite (waits.fillDecision h) waits

theorem Part.KeepsRanges.settleEnd : p.KeepsRanges (q.settleEnd h) := by
  unfold Part.settleEnd; exact Part.KeepsRanges.takeSamples (w.moveHead rfl rfl) h _

theorem Part.KeepsRanges.reliefEnd : p.KeepsRanges (q.reliefEnd h) := w.modEntry _ _

/-! ### Admission, discharge and the crossings (R22 to R24, R35, R95 to R99) -/

theorem Part.KeepsRanges.ageOldest : p.KeepsRanges q.ageOldest := by
  unfold Part.ageOldest; split
  · exact w
  · exact Part.KeepsRanges.countUninspected (w.same (by rfl)) _

theorem Part.KeepsRanges.ageByCount : p.KeepsRanges q.ageByCount := .ite w.ageOldest w

omit w in
theorem Part.KeepsRanges.ageExcess (n : Nat) {q : Part} (w : p.KeepsRanges q) : p.KeepsRanges (ageExcess n q) := by
  induction n generalizing q with
  | zero => exact w
  | succ n ih => exact ih w.ageByCount

theorem Part.KeepsRanges.ageByNumber (m : Nat) : p.KeepsRanges (q.ageByNumber m) := by
  unfold Part.ageByNumber
  exact Part.KeepsRanges.forEach (w.same (by rfl)) (fun h _ v => v.countUninspected h) _

/-- The number just given becomes the trim-from marker of a head, and the counter wraps to 0 behind 65535 (R2, R74). -/
theorem Part.KeepsRanges.trackAdmit (c : Context) : p.KeepsRanges (q.trackAdmit h c) := by
  unfold Part.trackAdmit
  refine Part.KeepsRanges.ageByNumber ?_ _
  refine Part.KeepsRanges.trans (q := q.modRecord h fun x => { x with
    trimFrom :=
      match x.trimFrom with
      | none => some q.nextNumber
      | some f => if 32768 ≤ (q.nextNumber + 65536 - f) % 65536 then some q.nextNumber else some f }) ?_ ?_
  · refine w.modRecord fun n tabled fits => { fits with trimFrom := fun m marked => ?_ }
    have next := tabled.number
    dsimp only at marked
    split at marked
    · cases marked; exact next
    · next known =>
      split at marked
      · cases marked; exact next
      · cases marked; exact fits.trimFrom _ known
  · refine ⟨Part.keepsLinks_of_links (fun ⟨a, b, c, d, e, f, m⟩ => ⟨a, b, c, d, e, f, m⟩) rfl, rfl, fun n tabled => ?_⟩
    exact ⟨tabled.size, tabled.window, Nat.mod_lt _ (by decide), tabled.record, tabled.diag, tabled.recipe⟩

theorem Part.KeepsRanges.countDischarge : p.KeepsRanges q.countDischarge := w.same rfl

theorem Part.KeepsRanges.trackDischarge (c : Context) : p.KeepsRanges (q.trackDischarge h c) := by
  unfold Part.trackDischarge
  dsimp only; split
  · exact w.countDischarge
  · have handed := w.handResult 0xB1
    split
    · exact (Part.KeepsRanges.ageByCount ((handed _).same (by rfl))).countDischarge
    · exact (Part.KeepsRanges.countUninspected ((handed _).same (by rfl)) h).countDischarge

theorem Part.KeepsRanges.shutHead : p.KeepsRanges (q.shutHead h) := w.moveHead rfl rfl

theorem Part.KeepsRanges.reliefCheck : p.KeepsRanges (q.reliefCheck h) := by
  unfold Part.reliefCheck; exact .ite ((w.addContextFlag h _).detect h _) w

theorem Part.KeepsRanges.dischargeReports (flags : BitVec 13) : p.KeepsRanges (q.dischargeReports h flags) := by
  have fall : ∀ {r : Part} (b : Bool) (k : FaultKind), p.KeepsRanges r →
      p.KeepsRanges (if b = true then r else r.clearKind h k) := fun b k v => .ite v (v.clearKind h k)
  exact fall _ _ (fall _ _ (fall _ _ w))

theorem Part.KeepsRanges.removeContext : p.KeepsRanges (q.removeContext h) := by
  have removed : p.KeepsRanges ((q.dischargeRunaway h).modHead h fun x => { x with context := none }) :=
    (w.dischargeRunaway h).moveHead rfl rfl
  unfold Part.removeContext; exact .ite (removed.setProd _) removed

theorem Part.KeepsRanges.completeContainer : p.KeepsRanges (q.completeContainer h) := by
  have shut := (w.shutHead h).reliefCheck h
  unfold Part.completeContainer
  dsimp only; split
  · exact shut
  · exact ((((shut.trackDischarge h _).dischargeReports h _).tableOutcome h _).recomputeAdvisory).removeContext h

theorem Part.KeepsRanges.dischargeHead : p.KeepsRanges (q.dischargeHead h) := (w.completeContainer h).enterRest h

theorem Part.KeepsRanges.admitContainer : p.KeepsRanges (q.admitContainer h) := by
  unfold Part.admitContainer; exact (w.trackAdmit h _).moveHead rfl rfl

theorem Part.KeepsRanges.infeedFromRest : p.KeepsRanges (q.infeedFromRest h) := by
  have left : p.KeepsRanges (if (q.entry h).state = .testing then q.leaveTest h else q) := .ite (w.leaveTest h) w
  unfold Part.infeedFromRest
  dsimp only; split
  · exact left.goTo h _
  · exact left.goTo h _
  · exact .ite (left.admitContainer h) (left.goTo h _)

theorem Part.KeepsRanges.infeedCrossing : p.KeepsRanges (q.infeedCrossing h) := by
  have ended := w.abortCalOn h .motion
  unfold Part.infeedCrossing
  dsimp only; split
  · exact ended
  · exact ended.infeedFromRest h
  · exact ended.infeedFromRest h
  · exact ended.infeedFromRest h
  · exact (ended.dischargeHead h).infeedFromRest h

theorem Part.KeepsRanges.dischargeCrossing : p.KeepsRanges (q.dischargeCrossing h) := by
  unfold Part.dischargeCrossing; split
  · exact w
  · exact w
  · exact w
  · exact .ite w ((w.dischargeRunaway h).enterRest h)
  · exact w.dischargeHead h

theorem Part.KeepsRanges.crossing (b : Boundary) : p.KeepsRanges (q.crossing h b) := by
  cases b with
  | infeed => exact w.infeedCrossing h
  | press => exact w.pressuriseCrossing h
  | fill => exact w.fillStartCrossing h
  | fillend => exact w.fillEndCrossing h
  | relief => exact w.reliefCrossing h
  | dis => exact w.dischargeCrossing h

theorem Part.KeepsRanges.crossIfDue : p.KeepsRanges (q.crossIfDue h) := by
  unfold Part.crossIfDue; split
  · exact w
  · exact .ite ((w.crossing h _).moveHead rfl rfl) w

theorem Part.KeepsRanges.examineAll : p.KeepsRanges q.examineAll :=
  .ite (w.forEach (fun h _ v => (v.crossIfDue h).crossIfDue h) _) w

/-! ### SAFE, the vent sweep and the coil reports (R37, R38, R40, R42, R157) -/

theorem Part.KeepsRanges.headSafe : p.KeepsRanges (q.headSafe h) := by
  have flagged := (w.addContextFlag h .safeAbort).openRelief h
  have aborted := (w.modContext h fun c => c.abortFill.flag .safeAbort).openRelief h
  unfold Part.headSafe; split
  · exact aborted
  · exact aborted
  · exact flagged
  · exact flagged
  · exact (w.cutSettle h).openRelief h
  · exact w.openRelief h
  all_goals exact w

theorem Part.KeepsRanges.closeCleanValves : p.KeepsRanges q.closeCleanValves := w.forFitted fun _ _ v => v.modEntry _ _

theorem Part.KeepsRanges.enterSafe (cause : Cause) : p.KeepsRanges (q.enterSafe cause) := by
  unfold Part.enterSafe
  dsimp only
  refine (Part.KeepsRanges.removeAllMarks ?_).abortCal _
  have safe := Part.KeepsRanges.forFitted (f := Part.headSafe) (w.same (r := { q with control := { q.control with
    prod := .safe, firstCause := some cause, causes := addCause 0 cause, holdTimer := .stopped,
    cleanOpened := false } }) rfl)
    fun h _ v => v.headSafe h
  exact .ite safe.closeCleanValves safe

theorem Part.KeepsRanges.raiseSafe (cause : Cause) : p.KeepsRanges (q.raiseSafe cause) := by
  unfold Part.raiseSafe; split
  · exact w
  · exact w.same rfl
  all_goals exact w.enterSafe cause

theorem Part.KeepsRanges.sweepDone : p.KeepsRanges q.sweepDone := by
  have timed : p.KeepsRanges { q.setProd .standby with
      lineTimer := (q.setProd .standby).startTimer (q.setProd .standby).machine.lineSilence } :=
    (w.setProd .standby).same rfl
  exact .ite (timed.raiseSafe _) timed

theorem Part.KeepsRanges.checkSweep : p.KeepsRanges q.checkSweep := by
  unfold Part.checkSweep; exact .ite w.sweepDone w

theorem Part.KeepsRanges.ventSweep : p.KeepsRanges q.ventSweep :=
  (w.forFitted fun _ _ v => .ite (v.modEntry _ _) v).checkSweep

theorem Part.KeepsRanges.ventEnd : p.KeepsRanges (q.ventEnd h) := (w.modEntry _ _).checkSweep

theorem Part.KeepsRanges.coilReportAt (v : Valve) : p.KeepsRanges (q.coilReportAt h v) := by
  have lost := w.lose h .valveFault
  unfold Part.coilReportAt
  dsimp only; split
  case h_5 => exact .ite (w.modEntry _ _) w
  case h_6 => exact .ite (w.modEntry _ _).checkSweep w
  all_goals first | exact w | exact .ite lost w | exact .ite (w.modEntry _ _) w

theorem Part.KeepsRanges.coilReport (v : Valve) (c : CoilFault) : p.KeepsRanges (q.coilReport h v c) := by
  have ended : p.KeepsRanges (q.coilReportCal h v) := by
    unfold Part.coilReportCal; exact .ite (w.abortCalOn h _) w
  exact (ended.coilReportAt h v).coilDetect h c v

/-! ### Steps and zero marks (R3 to R8, R14 to R17) -/

theorem Part.KeepsRanges.modCarousel (f : Carousel → Carousel) : p.KeepsRanges (q.modCarousel f) := w.same rfl

theorem Part.KeepsRanges.positionForward : p.KeepsRanges q.positionForward := w.modCarousel _

theorem Part.KeepsRanges.takeStep (d : Direction) : p.KeepsRanges (q.takeStep d) := by
  have noted : ∀ d, p.KeepsRanges (q.noteStep d) := fun d => by
    unfold Part.noteStep; exact .ite ((w.modCarousel _).abortCal _) (w.modCarousel _)
  cases d with
  | forward =>
    exact .ite ((noted _).positionForward.modCarousel _) (noted _).positionForward.examineAll
  | backward =>
    have moved := (noted .backward).modCarousel fun c => { c with
      position := positionDown (q.noteStep .backward).machine.nInc c.position
      lag := if c.lag < (q.noteStep .backward).machine.reverseLimit then c.lag + 1 else c.lag }
    exact .ite moved (.ite (moved.raiseSafe _) moved)

theorem Part.KeepsRanges.encoderEdge (a b infeed : Bool) : p.KeepsRanges (q.encoderEdge a b infeed) := by
  have moved : p.KeepsRanges { q with pins := { q.pins with chanA := a, chanB := b, infeed := infeed } } := w.same rfl
  unfold Part.encoderEdge
  dsimp only; split
  · split
    · exact moved
    · exact moved.takeStep _
  · exact moved

omit w in
theorem Part.KeepsRanges.correctForward (n : Nat) {q : Part} (w : p.KeepsRanges q) :
    p.KeepsRanges (correctForward n q) := by
  induction n generalizing q with
  | zero => exact w
  | succ n ih => exact ih w.positionForward.examineAll

theorem Part.KeepsRanges.aimPointers : p.KeepsRanges q.aimPointers :=
  w.mapHeads (fun _ _ _ fits => fits) fun _ _ _ fits => fits

theorem Part.KeepsRanges.takeZeroMark : p.KeepsRanges q.takeZeroMark := by
  have corrected : ∀ c, p.KeepsRanges (q.applyCorrection c) := fun c => .ite (w.correctForward _) (w.modCarousel _)
  unfold Part.takeZeroMark
  dsimp only; split
  · exact ((w.modCarousel _).modCarousel _).aimPointers
  · split
    · exact (corrected _).modCarousel _
    · split
      · exact (corrected _).modCarousel _
      · exact (corrected _).raiseSafe _

theorem Part.KeepsRanges.zeroMark (infeed : Bool) : p.KeepsRanges (q.zeroMark infeed) := by
  have moved : p.KeepsRanges { q with pins := { q.pins with infeed := infeed } } := w.same rfl
  unfold Part.zeroMark; exact .ite moved.takeZeroMark moved

/-! ### Pulses and the timers of a dose (R53 to R60, R180) -/

theorem Part.KeepsRanges.calPulse (c : CalRecord) : p.KeepsRanges (q.calPulse c) := by
  have counted : p.KeepsRanges (q.calCount c) := by
    unfold Part.calCount
    dsimp only; split
    · exact (w.modEntry _ _).same rfl
    · split
      · exact (w.modEntry _ _).same rfl
      · exact w.same rfl
  unfold Part.calPulse; split
  · exact counted
  · exact counted
  · exact w.same rfl

theorem Part.KeepsRanges.reportAlive : p.KeepsRanges (q.reportAlive h) := (w.modContext _ _).clearKind h _

theorem Part.KeepsRanges.fillPulse (c : Context) : p.KeepsRanges (q.fillPulse h c) := by
  have counted := w.modContext h
  have alive := fun f => Part.KeepsRanges.ite (b := c.fill = 0 ∧ q.aliveInTime c = true)
    ((counted f).reportAlive h) (counted f)
  exact .ite ((alive _).completeDose h) (.ite ((alive _).fastClose h) (alive _))

theorem Part.KeepsRanges.shadowPulse (c : Context) : p.KeepsRanges (q.shadowPulse h c) := by
  have counted := w.modContext h fun c => { c with shadow := countUp c.shadow }
  unfold Part.shadowPulse; exact .ite (counted.reportAlive h) counted

theorem Part.KeepsRanges.dosePulse : p.KeepsRanges (q.dosePulse h) := by
  unfold Part.dosePulse; split
  · exact w.runawayPulse h
  · split
    · split
      · exact .ite (w.fillPulse h _) (w.modContext _ _)
      · exact w.shadowPulse h _
      · exact w.runawayPulse h
    · exact w.runawayPulse h

theorem Part.KeepsRanges.demandPulse : p.KeepsRanges (q.demandPulse h) := w.moveHead rfl rfl

theorem Part.KeepsRanges.pulse : p.KeepsRanges (q.pulse h) := by
  have counted := w.demandPulse h
  unfold Part.pulse; split
  · exact w
  · exact counted.modRecord fun _ _ fits => { fits with drainPulses := totalUp_le _ }
  all_goals
    dsimp only; split
    · exact counted.calPulse _
    · exact counted.dosePulse h

theorem Part.KeepsRanges.openExpiry : p.KeepsRanges (q.openExpiry h) := by
  unfold Part.openExpiry; split
  · exact w
  · exact w.atExpiry fun _ v => (v.modContext _ _).completeDose h

theorem Part.KeepsRanges.meterSilence (c : Context) : p.KeepsRanges (q.meterSilence h c) := by
  have fallen := (w.detect h .meterSilent).modContext h Context.fallBack
  exact .ite (fallen.modContext _ _) (fallen.completeDose h)

theorem Part.KeepsRanges.silenceExpiry : p.KeepsRanges (q.silenceExpiry h) := by
  unfold Part.silenceExpiry; split
  · exact w
  · exact .ite (w.atExpiry fun _ v => v.meterSilence h _) w

end Sys2Proof.Machine
end

section
/-! The owners of the requests, the start-up and the resets keep the ranges. -/

namespace Sys2Proof.Machine

open Sys2Proof

/-! ### The pressure request and the bowl watch (R138, R141 to R143) -/

theorem setpointOf_mem (carb tau margin : Nat) :
    1000 ≤ setpointOf carb tau margin ∧ setpointOf carb tau margin ≤ 6000 := by
  have := limitInt_mem (lo := 1000) (hi := 6000) (by decide)
    ((roundNat (carb * 10000) (solubility tau) : Nat) - 1013 + (margin : Int))
  unfold setpointOf; omega

section operations

variable {p q : Part} (w : p.KeepsRanges q) (h : HeadNo)

include w

theorem Part.KeepsRanges.recomputePressure : p.KeepsRanges q.recomputePressure :=
  w.supplied (e := rfl) fun fits => { fits with setpoint := setpointOf_mem _ _ _ }

/-- The watch timer starts with TIMING and stops with it (R142, R143). -/
theorem Part.KeepsRanges.watchBowl (pressure : Nat) : p.KeepsRanges (q.watchBowl pressure) := by
  unfold Part.watchBowl
  dsimp only; split
  · exact w
  · split
    · split
      · exact w.supplied (e := rfl) fun fits => { fits with timing := ⟨fun _ => nofun, fun _ => rfl⟩ }
      · exact w
    · split
      · exact w
      · exact w.supplied (e := rfl) fun fits => { fits with timing := ⟨nofun, fun runs => absurd rfl runs⟩ }
    · next low =>
      split
      · refine w.supplied (e := rfl) fun fits => { fits with timing := ⟨nofun, fun runs => ?_⟩ }
        have timing := fits.timing.mpr runs
        rw [low] at timing; cases timing
      · exact w

theorem Part.KeepsRanges.storeSupply (t : Int) (c pr v : Nat) : p.KeepsRanges (q.storeSupply t c pr v) :=
  w.supplied (e := rfl) fun fits => { fits with
    record := fun r stored => by
      cases stored
      have temperature := limitInt_mem (lo := -50) (hi := 400) (by decide) t
      exact ⟨temperature.1, temperature.2, Nat.min_le_left _ _, Nat.min_le_left _ _⟩
    absent := ⟨nofun, nofun⟩
    fresh := ⟨fun _ => nofun, fun _ => rfl⟩ }

/-! ### Recipes (R166 to R169) -/

theorem Part.KeepsRanges.recipeChanged : p.KeepsRanges q.recipeChanged :=
  (w.recomputePressure.forFitted fun h _ v => .ite (v.setMethod h _ _) v).recomputeAdvisory

omit w in
theorem Part.Tabled.activeRecipe {n : Nat} (tabled : p.Tabled n) {sr : StoredRecipe}
    (active : p.activeRecipe = some sr) :
    validRecipe sr = true := by
  unfold Part.activeRecipe at active
  split at active
  · cases active
  · exact tabled.recipe _ sr active

/-! ### Head records (R72 to R76, R86) -/

theorem Part.KeepsRanges.changeTrim {t : Int} (range : -200 ≤ t ∧ t ≤ 200) : p.KeepsRanges (q.changeTrim h t) := by
  have written := (w.modRecord (h := h) (f := fun x => { x with stored := { x.stored with t := t }, trimFrom := none })
    fun _ _ fits => { fits with stored := { fits.stored with t := range }, trimFrom := nofun }).recomputeAdvisory
  exact .ite (written.detect h _) (written.clearKind h _)

theorem Part.KeepsRanges.leaveService : p.KeepsRanges (q.leaveService h) := by
  have left := (w.modRecord (h := h) (f := fun x => { x.setInService false with warm := 0 }) fun _ _ fits =>
    { fits with stored := { fits.stored with }, warm := Nat.zero_le _ }).setMethod h .out none
  unfold Part.leaveService
  exact (Part.KeepsRanges.removeMark (.ite (left.modEntry _ _) left) h).abortCalOn h _

omit w in
theorem Part.Tabled.serviceWarmup {n : Nat} (tabled : p.Tabled n) : p.serviceWarmup ≤ 15 := by
  unfold Part.serviceWarmup
  split
  · cases active : p.activeRecipe with
    | none => exact Nat.zero_le _
    | some sr => exact validRecipe_warmup (tabled.activeRecipe active)
  · exact Nat.zero_le _

theorem Part.KeepsRanges.enterService : p.KeepsRanges (q.enterService h) := by
  have entered := (w.modRecord (h := h) (f := fun x => { x.setInService true with warm := q.serviceWarmup })
    fun _ tabled fits => { fits with stored := { fits.stored with }, warm := tabled.serviceWarmup }).setMethod h
      .flow none
  unfold Part.enterService; exact .ite (entered.decideLive h) entered

theorem Part.KeepsRanges.writeHeadTimed (v : Option Bool) : p.KeepsRanges (q.writeHeadTimed h v) := by
  cases v with
  | none => exact w
  | some b =>
    have written := w.modRecord (h := h) (f := HeadRecord.setTimedAllowed b) fun _ _ fits =>
      { fits with stored := { fits.stored with } }
    unfold Part.writeHeadTimed; exact .ite (written.setMethod h _ _) written

theorem Part.KeepsRanges.writeHead {f : HeadFields} (ok : headFieldsOk f = true) : p.KeepsRanges (q.writeHead h f) := by
  have cal : p.KeepsRanges (q.writeHeadCal h f) := by
    have written := w.modRecord (h := h) fun _ _ fits => fits.writeCal ok
    exact .ite written.recomputeAdvisory written
  have trim : p.KeepsRanges ((q.writeHeadCal h f).writeHeadTrim h f.t) := by
    simp only [headFieldsOk, Bool.and_eq_true] at ok
    obtain ⟨⟨⟨-, range⟩, -⟩, -⟩ := ok
    unfold Part.writeHeadTrim; split
    · exact cal
    · next t given => rw [given] at range; exact cal.changeTrim h (by simpa using range)
  have timed := trim.writeHeadTimed h (f.timedAllowed.bind yesNoOf)
  unfold Part.writeHead Part.writeHeadService; split
  · exact timed.leaveService h
  · exact timed.enterService h
  · exact timed

theorem Part.KeepsRanges.restoreHead : p.KeepsRanges (q.restoreHead h) := by
  have cleared := w.modDiag (h := h) fun _ _ fits => fits.clearHeld
  unfold Part.restoreHead
  dsimp only; split
  · exact cleared.setMethod h _ _
  · exact .ite (cleared.setMethod h _ _) (cleared.setMethod h _ _)

/-! ### Diagnostics (R125, R130) -/

/-- The newest entries of a window are no more than it has, nor than N. -/
theorem Part.KeepsRanges.applyWindow : p.KeepsRanges q.applyWindow := by
  have cut : p.KeepsRanges { q with heads := Vector.ofFn fun h =>
      { q.head h with diag := { (q.head h).diag with
        window := windowNewest q.machine.window (q.head h).diag.window } } } :=
    w.mapHeads (fun _ _ _ fits => fits) (diag := fun n tabled h fits =>
      fits.setWindow ((windowNewest_length _ _).trans tabled.window))
  exact cut.forFitted fun h _ v => v.evaluateRate h

theorem Part.KeepsRanges.applyDiag (old : MachineConfig) : p.KeepsRanges (q.applyDiag old) := by
  have windows : p.KeepsRanges (if old.window ≠ q.machine.window then q.applyWindow else q) := .ite w.applyWindow w
  have decided : ∀ ks, p.KeepsRanges ((if old.window ≠ q.machine.window then q.applyWindow else q).applyActions ks) :=
    fun ks => windows.forFitted fun h _ v => .foldl (fun _ k u => .ite (u.decideKind h k) u) _ v
  unfold Part.applyDiag; exact .ite (decided _).removeAllMarks (decided _)

/-! ### Start-up (R205, R208) -/

theorem Part.KeepsRanges.startUp : p.KeepsRanges q.startUp := by
  have active : p.KeepsRanges { q with control := { q.control with activeSlot := q.startSlot } } := w.same rfl
  have periods : p.KeepsRanges
      { q with control := { q.control with
        activeSlot := q.startSlot } }.recomputePressure.recomputeAdvisory.startPeriods :=
    active.recomputePressure.recomputeAdvisory.supplied (e := rfl) fun fits => { fits with }
  exact Part.KeepsRanges.ventSweep (periods.same rfl)

end operations

end Sys2Proof.Machine
end

section
/-! The owners of the requests, the resets, the load and WRITE MACHINE leave the part in range. -/

namespace Sys2Proof.Machine

open Sys2Proof

variable {p : Part}

/-! ### Production requests (R152 to R165) -/

theorem Part.KeepsRanges.startWarmup {q : Part} (w : p.KeepsRanges q) {n : Nat} (le : ∀ m, p.Tabled m → n ≤ 15) :
    p.KeepsRanges (q.startWarmup n) :=
  w.forFitted fun h _ v => .ite (v.modHead (fun m before tabled =>
    { tabled.record h with warm := le m before }) fun _ _ tabled => tabled.diag h) v

theorem takeStart_keepsRanges : p.KeepsRanges (takeStart p).1 := by
  have same := Part.KeepsRanges.refl p
  unfold takeStart; split
  · exact same
  · split
    · exact same
    · split
      · exact same
      · next active =>
        split
        · exact same
        · exact (same.setProd _).startWarmup fun n tabled => validRecipe_warmup (tabled.activeRecipe active)

theorem takeHold_keepsRanges : p.KeepsRanges (takeHold p).1 := by
  unfold takeHold; split
  · exact .refl p
  · exact ((Part.KeepsRanges.refl p).setProd _).same rfl

theorem takeResume_keepsRanges : p.KeepsRanges (takeResume p).1 := by
  unfold takeResume; split
  · exact .refl p
  · exact Part.KeepsRanges.setProd ((Part.KeepsRanges.refl p).same (by rfl)) _

theorem takeStop_keepsRanges : p.KeepsRanges (takeStop p).1 := by
  have stopped : p.KeepsRanges (p.setHoldTimer .stopped) := (Part.KeepsRanges.refl p).same rfl
  unfold takeStop; split
  · exact stopped.setProd _
  · exact stopped.setProd _
  all_goals exact .refl p

theorem takeRecover_keepsRanges : p.KeepsRanges (takeRecover p).1 := by
  have same := Part.KeepsRanges.refl p
  have cleared : p.KeepsRanges { p with control := { p.control with firstCause := none, causes := 0 } } := same.same rfl
  unfold takeRecover
  split
  · exact same
  · split
    · exact same
    · split
      · exact same
      · split
        · exact same
        · exact cleared.setProd _

theorem Part.KeepsRanges.clearDrainTotals : p.KeepsRanges p.clearDrainTotals :=
  (Part.KeepsRanges.refl p).mapHeads (fun _ _ _ fits => { fits with drainPulses := Nat.zero_le _ })
    fun _ _ _ fits => fits

theorem takeCleanBegin_keepsRanges : p.KeepsRanges (takeCleanBegin p).1 := by
  unfold takeCleanBegin
  split
  · exact .refl p
  · split
    · exact .refl p
    · split
      · exact .refl p
      · exact Part.KeepsRanges.clearDrainTotals.setProd _

theorem takeCleanOpen_keepsRanges : p.KeepsRanges (takeCleanOpen p).1 := by
  unfold takeCleanOpen; split
  · exact .refl p
  · refine Part.KeepsRanges.forFitted ((Part.KeepsRanges.refl p).same (by rfl)) fun h r v => ?_
    unfold Part.openCleanAt; split
    · split
      · exact v.modEntry _ _
      · exact v.modEntry _ _
      · exact v.modEntry _ _
      · exact v
    · exact v

theorem Part.KeepsRanges.closeClean : p.KeepsRanges (p.setClean false).closeCleanValves :=
  Part.KeepsRanges.closeCleanValves ((Part.KeepsRanges.refl p).same rfl)

theorem takeCleanClose_keepsRanges : p.KeepsRanges (takeCleanClose p).1 := by
  unfold takeCleanClose; split
  · exact .refl p
  · exact Part.KeepsRanges.closeClean

theorem takeCleanEnd_keepsRanges : p.KeepsRanges (takeCleanEnd p).1 := by
  unfold takeCleanEnd; split
  · exact .refl p
  · exact Part.KeepsRanges.closeClean.setProd _

/-! ### Recipes (R167 to R169) -/

theorem takeSelectRecipe_keepsRanges (n : Nat) : p.KeepsRanges (takeSelectRecipe n p).1 := by
  unfold takeSelectRecipe; split
  · exact .refl p
  · split
    · exact .refl p
    · split
      · exact .refl p
      · exact Part.KeepsRanges.recipeChanged ((Part.KeepsRanges.refl p).same rfl)

theorem takeWriteRecipe_keepsRanges (n : Nat) (f : RecipeFields) : p.KeepsRanges (takeWriteRecipe n f p).1 := by
  unfold takeWriteRecipe; split
  · next i r _ read =>
    have written : p.KeepsRanges (p.setRecipe i ⟨0, r⟩) :=
      (Part.KeepsRanges.refl p).setRecipe i fun _ _ => validRecipe_of_fields read (by decide)
    dsimp only; split
    · exact .refl p
    · exact .ite written.recipeChanged written
  · exact .refl p

theorem takeAdjustRecipe_keepsRanges (f : AdjustFields) : p.KeepsRanges (takeAdjustRecipe f p).1 := by
  unfold takeAdjustRecipe; split
  · next i sr _ active =>
    dsimp only; split
    · exact .refl p
    · next ok =>
      obtain ⟨ok, order⟩ := not_or.mp ok
      split
      · exact .refl p
      · have adjusted := ((Part.KeepsRanges.refl p).setRecipe i fun n tabled =>
          validRecipe_adjust (tabled.activeRecipe active) (by simpa using ok) (by omega)
            (Nat.mod_lt (sr.revision + 1) (by decide : 0 < 256))).recomputePressure
        exact .ite adjusted.recomputeAdvisory adjusted
  · exact .refl p

/-! ### Heads, diagnostics and operations -/

theorem takeWriteHead_keepsRanges (n : Nat) (f : HeadFields) : p.KeepsRanges (takeWriteHead n f p).1 := by
  unfold takeWriteHead; split
  · exact .refl p
  · split
    · next ok => exact (Part.KeepsRanges.refl p).writeHead _ ok
    · exact .refl p

theorem takeRestoreHead_keepsRanges (n : Nat) : p.KeepsRanges (takeRestoreHead n p).1 := by
  unfold takeRestoreHead; split
  · exact .refl p
  · split
    · exact .refl p
    · split
      · exact .refl p
      · exact (Part.KeepsRanges.refl p).restoreHead _

theorem takeClearFaults_keepsRanges (n : Nat) : p.KeepsRanges (takeClearFaults n p).1 := by
  have cleared : ∀ h r, p.KeepsRanges r → p.KeepsRanges (r.modDiag h Diag.clearHeld) := fun h r v =>
    v.modDiag fun _ _ fits => fits.clearHeld
  unfold takeClearFaults; split
  · exact (Part.KeepsRanges.refl p).forFitted cleared
  · split
    · exact .refl p
    · exact cleared _ _ (.refl p)

theorem takeClearTotals_keepsRanges (n : Nat) : p.KeepsRanges (takeClearTotals n p).1 := by
  have cleared : ∀ h r, p.KeepsRanges r → p.KeepsRanges (r.modRecord h HeadRecord.clearTotals) := fun h r v =>
    v.modRecord fun _ _ fits => { fits with
      doses := Nat.zero_le _, rejects := Nat.zero_le _, drainPulses := Nat.zero_le _, uninspected := Nat.zero_le _ }
  unfold takeClearTotals; split
  · exact (Part.KeepsRanges.refl p).forEach cleared _
  · split
    · exact .refl p
    · exact cleared _ _ (.refl p)

theorem Part.KeepsRanges.markHead {q : Part} (w : p.KeepsRanges q) (h : HeadNo) : p.KeepsRanges (q.markHead h) := by
  have marked := w.modDiag (h := h) (f := fun d => { d with mark := true }) fun _ _ fits => { fits with }
  unfold Part.markHead; split
  · exact .ite (marked.beginTest h) marked
  · exact w

theorem takeTestCoils_keepsRanges : p.KeepsRanges (takeTestCoils p).1 := by
  unfold takeTestCoils; split
  · exact .refl p
  · split
    · exact .refl p
    · exact (Part.KeepsRanges.forFitted ((Part.KeepsRanges.refl p).same (by rfl))
        fun h _ v => v.markHead h).checkTestCoils

theorem Part.KeepsRanges.beginCal {q : Part} (w : p.KeepsRanges q) (h : HeadNo) (pCal pFine : Nat) :
    p.KeepsRanges (q.beginCal h pCal pFine) := by
  have opened := w.modEntry h fun e => { e with gas := true, fast := decide (pFine < pCal), fine := true }
  exact opened.same rfl

theorem takeCalDose_keepsRanges (n pCal pFine : Nat) : p.KeepsRanges (takeCalDose n pCal pFine p).1 := by
  unfold takeCalDose; split
  · exact .refl p
  · split
    · exact .refl p
    · split
      · exact .refl p
      · split
        · exact .refl p
        · split
          · exact .refl p
          · exact (Part.KeepsRanges.refl p).beginCal _ _ _

theorem takeStopCal_keepsRanges : p.KeepsRanges (takeStopCal p).1 := by
  unfold takeStopCal; split
  · exact (Part.KeepsRanges.refl p).abortCal _
  · exact .refl p

theorem takeSave_keepsRanges : p.KeepsRanges (takeSave p).1 := by
  unfold takeSave; split
  · exact .refl p
  · split
    · exact .refl p
    · exact (Part.KeepsRanges.refl p).same rfl

theorem takeMeasurement_keepsRanges (n volume : Nat) : p.KeepsRanges (takeMeasurement n volume p).1 := by
  unfold takeMeasurement; split
  · exact .refl p
  · split
    · exact .refl p
    · dsimp only; split
      · exact ((Part.KeepsRanges.refl p).changeTrim _ (limitInt_mem (by decide) _)).same rfl
      · exact (Part.KeepsRanges.refl p).same rfl

theorem takeSupplyData_keepsRanges (t : Int) (c pr v : Nat) : p.KeepsRanges (takeSupplyData t c pr v p).1 :=
  (((Part.KeepsRanges.refl p).storeSupply t c pr v).recomputePressure).watchBowl _

/-! ### Full resets, the load and RESTART (R204 to R208) -/

/-- The links stay in range, and so do the records, under whatever window length N results. -/
structure Part.KeepsRecords (p q : Part) : Prop extends p.KeepsLinks q where
  records : p.RecordsInRange → q.RecordsInRange

theorem Part.KeepsRanges.keepsRecords {q : Part} (w : p.KeepsRanges q) : p.KeepsRecords q where
  toKeepsLinks := w.toKeepsLinks
  records inv := by
    obtain ⟨window, tabled⟩ := Part.recordsInRange_iff.mp inv
    exact Part.recordsInRange_iff.mpr (by rw [w.window]; exact ⟨window, w.tables _ tabled⟩)

theorem Part.KeepsRecords.trans {q r : Part} (one : p.KeepsRecords q) (two : q.KeepsRecords r) : p.KeepsRecords r :=
  ⟨one.toKeepsLinks.trans two.toKeepsLinks, two.records ∘ one.records⟩

theorem blankPort_fits (port : Port) : blankPort.Fits port := ⟨by decide, by decide, fun _ => nofun, nofun⟩

/-- The supply after a reset fits with any memory in canonical form. -/
theorem Part.SupplyFits.blank {q : Part} (supply : q.supply = blankSupply) (timer : q.supplyTimer = .stopped)
    (memory : Memory.wf q.memory = true) : q.SupplyFits := by
  constructor <;> simp [supply, blankSupply, timer, memory]

theorem fullReset_keepsRecords : p.KeepsRecords (fullReset p) where
  supply fits := .blank rfl rfl (Memory.wf_cutSave fits.memory)
  ports _ port := by cases port <;> exact blankPort_fits _
  free port _ := by cases port <;> exact ⟨rfl, rfl⟩
  records _ := resetPart_recordsInRange

theorem clearRun_keepsRanges : p.KeepsRanges p.clearRun where
  toKeepsLinks := Part.keepsLinks_of_links (fun fits => .blank rfl rfl fits.memory) rfl
  window := rfl
  tables n tabled := by
    have head := Part.clearRun_head (p := p)
    refine ⟨tabled.size, tabled.window, (by decide : 0 < 65536), fun h => ?_, fun h => ?_, tabled.recipe⟩
    · rw [Part.record, head]
      exact freshRecord_fits _ (tabled.record h).stored (tabled.record h).gen
    · rw [Part.diag, head]; exact blankDiag_fits n

theorem takeRestart_keepsRanges : p.KeepsRanges (takeRestart p).1 := by
  unfold takeRestart; split
  · exact .refl p
  · split
    · exact .refl p
    · exact clearRun_keepsRanges.startUp

/-- What the memory load hands to the working copies, in range (R207, R208). -/
structure Loaded.Fits (l : Loaded) : Prop where
  window : 4 ≤ l.machine.window ∧ l.machine.window ≤ 32
  recipe : ∀ (i : SlotNo) sr, l.recipes[i] = some sr → validRecipe sr = true
  stored : ∀ h : HeadNo, (l.stored[h]).Fits

theorem machineOfFields_window {f : MachineFields} {m : MachineConfig} (read : machineOfFields f = some m) :
    4 ≤ m.window ∧ m.window ≤ 32 := by
  unfold machineOfFields at read
  split at read
  · split at read
    · next ok =>
      cases read
      simp only [machineRangesOk, inRange, Bool.and_eq_true, decide_eq_true_eq] at ok
      dsimp only
      omega
    · cases read
  · cases read

theorem recipeAt_valid {mem : List Host.Cell} {i : SlotNo} {sr : StoredRecipe}
    (read : recipeAt mem i = some (some sr)) :
    validRecipe sr = true := by
  unfold recipeAt at read
  split at read
  · next revision fields _ =>
    split at read
    · cases read
    · split at read
      · simp only [definedRecipe, Option.map_map, Option.map_eq_some_iff, Option.bind_eq_some_iff] at read
        obtain ⟨r, ⟨_, _, valid⟩, made⟩ := read
        cases made
        exact validRecipe_of_fields valid revision.isLt
      · cases read
  · cases read

theorem storedAt_fits {mem : List Host.Cell} {h : HeadNo} {s : StoredHead}
    (read : storedAt mem h = some s) : s.Fits := by
  simp only [storedAt, Option.bind_eq_some_iff] at read
  obtain ⟨fields, -, read⟩ := read
  unfold storedOfList at read
  split at read
  · split at read
    · dsimp only at read
      split at read
      · next ok => cases read; exact storedHeadOk_iff.mp ok
      · cases read
    · cases read
  · cases read

theorem loadMemory_fits {mem : List Host.Cell} {l : Loaded} (read : loadMemory mem = some l) : l.Fits := by
  unfold loadMemory at read
  split at read
  · split at read
    · cases read
    · next m machine =>
      split at read
      · cases read
        have section_ := machine
        simp only [machineAt, Option.bind_eq_some_iff] at section_
        obtain ⟨f, -, valid⟩ := section_
        refine ⟨machineOfFields_window valid, fun i sr stored => ?_, fun h => ?_⟩
        · have known : (recipeAt mem i).getD none = some sr := by simpa using stored
          cases found : recipeAt mem i with
          | none => rw [found] at known; cases known
          | some o =>
            rw [found] at known
            exact recipeAt_valid (found.trans (congrArg some known))
        · have known : (Vector.ofFn fun g => (storedAt mem g).getD defaultStored)[h] =
              (storedAt mem h).getD defaultStored := by
            simp
          rw [known]
          cases found : storedAt mem h with
          | none => exact defaultStored_fits
          | some s => exact storedAt_fits found
      · cases read
  · cases read

theorem defaultLoaded_fits : defaultLoaded.Fits where
  window := by decide
  recipe i sr stored := by
    have empty : defaultLoaded.recipes[i] = none := by simp [defaultLoaded]
    rw [empty] at stored; cases stored
  stored h := by
    have default_ : defaultLoaded.stored[h] = defaultStored := by simp [defaultLoaded]
    rw [default_]; exact defaultStored_fits

theorem setCopies_keepsRecords {l : Loaded} (fits : l.Fits) (bad : Bool) : p.KeepsRecords (p.setCopies l bad) where
  toKeepsLinks := Part.keepsLinks_of_links (fun ⟨a, b, c, d, e, f, m⟩ => ⟨a, b, c, d, e, f, m⟩) rfl
  records inv := by
    obtain ⟨-, tabled⟩ := Part.recordsInRange_iff.mp inv
    have head : ∀ h, (p.setCopies l bad).head h = blankHead (freshRecord (l.machine.fitted.getLsbD h) l.stored[h]) :=
      fun h => by simp [Part.setCopies, Part.head]
    have size : 1 ≤ l.machine.window := Nat.le_trans (by decide) fits.window.1
    refine Part.recordsInRange_iff.mpr ⟨fits.window, size, le_refl _, tabled.number, fun h => ?_, fun h => ?_,
      fits.recipe⟩
    · rw [Part.record, head]; exact freshRecord_fits _ (fits.stored h) (by decide : 0 < 256)
    · rw [Part.diag, head]; exact blankDiag_fits _

theorem loadEnd_keepsRecords (acknowledged : Bool) : p.KeepsRecords (loadEnd acknowledged p) := by
  have started : ∀ {l : Loaded} (bad : Bool), l.Fits → p.KeepsRecords (p.setCopies l bad).startUp := fun bad fits =>
    (setCopies_keepsRecords fits bad).trans (Part.KeepsRanges.refl _).startUp.keepsRecords
  unfold loadEnd; split
  · split
    · next read =>
      split at read
      · exact started false (loadMemory_fits read)
      · cases read
    · exact started true defaultLoaded_fits
  · exact (Part.KeepsRanges.refl p).keepsRecords

/-! ### WRITE MACHINE and SET DIAGNOSTICS (R125, R130, R211) -/

theorem Part.fits_evaluated {n : Nat} {q : Part} (tabled : q.Tabled n) : (forFitted Part.evaluateRate q).Tabled n :=
  ((Part.KeepsRanges.refl q).forFitted fun h _ v => v.evaluateRate h).tables n tabled

/-- A change of N cuts every window to the new N (R125). -/
theorem Part.applyWindow_tabled {n : Nat} (tabled : p.Tabled n) (some_ : 1 ≤ p.machine.window) :
    p.applyWindow.Tabled p.machine.window := by
  unfold Part.applyWindow
  refine Part.fits_evaluated ⟨some_, le_refl _, tabled.number, fun h => ?_, fun h => ?_, tabled.recipe⟩
  · simpa [Part.record, Part.head] using tabled.record h
  · simpa [Part.diag, Part.head] using (tabled.diag h).setWindow (windowNewest_length p.machine.window _)

theorem Part.applyDiag_records {old : MachineConfig} {n : Nat} (window : 4 ≤ p.machine.window ∧ p.machine.window ≤ 32)
    (tabled : p.Tabled n) (kept : old.window = p.machine.window → n = p.machine.window) :
    (p.applyDiag old).RecordsInRange := by
  have cut : ∃ q : Part, q.KeepsRanges (p.applyDiag old) ∧ q.machine.window = p.machine.window ∧
      q.Tabled p.machine.window := by
    by_cases same : old.window = p.machine.window
    · exact ⟨p, (Part.KeepsRanges.refl p).applyDiag old, rfl, kept same ▸ tabled⟩
    · have windows := (Part.KeepsRanges.refl p).applyWindow
      refine ⟨p.applyWindow, ?_, windows.window, Part.applyWindow_tabled tabled (by omega)⟩
      have decided : ∀ ks, p.applyWindow.KeepsRanges (p.applyWindow.applyActions ks) := fun ks =>
        (Part.KeepsRanges.refl _).forFitted fun h _ v => .foldl (fun _ k u => .ite (u.decideKind h k) u) _ v
      unfold Part.applyDiag
      simp only [ne_eq, same, not_false_eq_true, if_true]
      exact .ite (decided _).removeAllMarks (decided _)
  obtain ⟨q, keeps, machine, tabled⟩ := cut
  exact keeps.keepsRecords.records (Part.recordsInRange_iff.mpr (by rw [machine]; exact ⟨window, tabled⟩))

theorem Part.KeepsRanges.withdrawHead {q : Part} (w : p.KeepsRanges q) (h : HeadNo) :
    p.KeepsRanges (q.withdrawHead h) := by
  have completed : p.KeepsRanges (if (q.context h).isSome = true then q.completeContainer h else q) :=
    .ite (w.completeContainer h) w
  exact completed.abortCalOn h _

theorem Part.KeepsRanges.dropHead {q : Part} (w : p.KeepsRanges q) (h : HeadNo) : p.KeepsRanges (q.dropHead h) := by
  unfold Part.dropHead
  exact ((w.removeMark h).setMethod h _ _).modHead (record := fun _ _ tabled => tabled.record h)
    (diag := fun n _ _ => blankDiag_fits n)

theorem Part.KeepsRanges.joinHead {q : Part} (w : p.KeepsRanges q) (h : HeadNo) : p.KeepsRanges (q.joinHead h) :=
  w.modHead (record := fun _ _ tabled => freshRecord_fits _ (tabled.record h).stored (tabled.record h).gen)
    (diag := fun n _ _ => blankDiag_fits n)

theorem Part.KeepsRanges.retrack {q : Part} (w : p.KeepsRanges q) (old : MachineConfig) :
    p.KeepsRanges (q.retrack old) := by
  unfold Part.retrack; split
  · exact w.modCarousel _
  · have bare : p.KeepsRanges { q with heads := Vector.ofFn fun h => { q.head h with pointer := none } } :=
      w.mapHeads (fun _ _ _ fits => fits) fun _ _ _ fits => fits
    exact bare.same rfl

/-- The configuration is replaced: nothing is lost when the bound of the windows covers the old N and the new one. -/
theorem Part.setMachine_keepsLinks (m : MachineConfig) (bad : Bool) :
    p.KeepsLinks { p with machine := m, configBad := bad } :=
  Part.keepsLinks_of_links (fun ⟨a, b, c, d, e, f, m⟩ => ⟨a, b, c, d, e, f, m⟩) rfl

theorem Part.setMachine_tabled {n : Nat} (tabled : p.Tabled n) (m : MachineConfig) (bad : Bool) :
    { p with machine := m, configBad := bad }.Tabled (max n m.window) :=
  ⟨tabled.size.trans (Nat.le_max_left _ _), Nat.le_max_right _ _, tabled.number, tabled.record,
    fun h => { tabled.diag h with window := (tabled.diag h).window.trans (Nat.le_max_left _ _) }, tabled.recipe⟩

/-- What WRITE MACHINE does behind the replacement of the configuration, up to the diagnostics (R211). -/
def Part.refit (old new : MachineConfig) (p : Part) : Part :=
  let q := forEach (joiningHeads old new allHeads) Part.joinHead
    (forEach (leavingHeads old new allHeads) Part.dropHead (p.retrack old))
  ((ageExcess q.track.length q).rewatch old).recomputeAdvisory

theorem Part.writeMachine_eq (new : MachineConfig) : p.writeMachine new =
    (Part.refit p.machine new { forEach (leavingHeads p.machine new (allHeads.map (p.firstHead + ·))) Part.withdrawHead p
      with machine := new, configBad := false }).applyDiag p.machine := rfl

theorem Part.KeepsRanges.refit {q : Part} (w : p.KeepsRanges q) (old new : MachineConfig) :
    p.KeepsRanges (q.refit old new) := by
  have joined := ((w.retrack old).forEach (fun h _ v => v.dropHead h) (leavingHeads old new allHeads)).forEach
    (fun h _ v => v.joinHead h) (joiningHeads old new allHeads)
  have watched := (joined.ageExcess (Machine.forEach (joiningHeads old new allHeads) Part.joinHead
    (Machine.forEach (leavingHeads old new allHeads) Part.dropHead (q.retrack old))).track.length).same rfl
      (r := Part.rewatch old _)
  exact watched.recomputeAdvisory

theorem Part.writeMachine_keepsRecords {new : MachineConfig} (window : 4 ≤ new.window ∧ new.window ≤ 32) :
    p.KeepsRecords (p.writeMachine new) := by
  have withdrawn := (Part.KeepsRanges.refl p).forEach (fun h _ v => v.withdrawHead h)
    (leavingHeads p.machine new (allHeads.map (p.firstHead + ·)))
  rw [Part.writeMachine_eq]
  generalize forEach (leavingHeads p.machine new (allHeads.map (p.firstHead + ·))) Part.withdrawHead p = q at withdrawn
  have refit := (Part.KeepsRanges.refl { q with machine := new, configBad := false }).refit p.machine new
  refine ⟨withdrawn.toKeepsLinks.trans ((Part.setMachine_keepsLinks new false).trans
    (refit.applyDiag p.machine).toKeepsLinks), fun inv => ?_⟩
  obtain ⟨-, tabled⟩ := Part.recordsInRange_iff.mp inv
  have tables := refit.tables _ (Part.setMachine_tabled (withdrawn.tables _ tabled) new false)
  refine Part.applyDiag_records ?_ tables fun same => ?_
  · rw [refit.window]; exact window
  · rw [refit.window] at same ⊢; rw [same]; exact Nat.max_self _

theorem takeWriteMachine_keepsRecords (f : MachineFields) : p.KeepsRecords (takeWriteMachine f p).1 := by
  unfold takeWriteMachine; split
  · exact (Part.KeepsRanges.refl p).keepsRecords
  · split
    · exact (Part.KeepsRanges.refl p).keepsRecords
    · next valid => exact Part.writeMachine_keepsRecords (machineOfFields_window valid)

theorem takeSetDiagnostics_keepsRecords (f : DiagFields) : p.KeepsRecords (takeSetDiagnostics f p).1 := by
  unfold takeSetDiagnostics; split
  · exact (Part.KeepsRanges.refl p).keepsRecords
  · next ok =>
    dsimp only; split
    · exact (Part.KeepsRanges.refl p).keepsRecords
    · refine ⟨(Part.setMachine_keepsLinks _ p.configBad).trans ((Part.KeepsRanges.refl _).applyDiag _).toKeepsLinks,
        fun inv => ?_⟩
      obtain ⟨window, tabled⟩ := Part.recordsInRange_iff.mp inv
      have range : optInRange 4 32 f.window = true := by
        simp only [diagFieldsOk, Bool.and_eq_true, Bool.not_eq_false] at ok; exact ok.1.1
      exact Part.applyDiag_records (getD_mem range window) (Part.setMachine_tabled tabled _ p.configBad) fun same =>
        (congrArg (max · _) same).trans (Nat.max_self _)

end Sys2Proof.Machine
end

section
/-! The wire hands over one reply at a free port, and every step keeps every value in its range. -/

namespace Sys2Proof.Machine

open Sys2Proof

variable {p : Part}

/-! ### The port of a request (R191, R193) -/

/-- A command is a request of a port. -/
def SentTo (c : Instr) (port : Port) : Prop := (encodeRequest c).map (·.1) = some port

theorem sentTo_of_readBare {bs : List Byte} {c d : Instr} {port : Port} (read : readBare bs d = .request c)
    (sent : SentTo d port) : SentTo c port := by
  unfold readBare at read
  split at read
  · cases read; exact sent
  · cases read

theorem sentTo_of_readOf {o : Option Instr} {c : Instr} {port : Port} (read : readOf o = .request c)
    (sent : ∀ d : Instr, o = some d → SentTo d port) : SentTo c port := by
  cases o with
  | none => cases read
  | some d => cases read; exact sent _ rfl

/-- A request read from a list of fields. -/
theorem sentTo_of_fields {α : Type} {o : Option α} {g : α → Option Instr} {c : Instr} {port : Port}
    (read : readOf (o.bind g) = .request c) (sent : ∀ l d, g l = some d → SentTo d port) : SentTo c port :=
  sentTo_of_readOf read fun d fields => by
    obtain ⟨l, -, made⟩ := Option.bind_eq_some_iff.mp fields
    exact sent l d made

theorem sentTo_of_map {α : Type} {o : Option α} {f : α → Instr} {d : Instr} {port : Port} (made : o.map f = some d)
    (sent : ∀ x, SentTo (f x) port) : SentTo d port := by
  obtain ⟨x, -, made⟩ := Option.map_eq_some_iff.mp made
  cases made; exact sent x

theorem sentTo_of_readByte {bs : List Byte} {f : Nat → Instr} {c : Instr} {port : Port}
    (read : readByte bs f = .request c) (sent : ∀ n, SentTo (f n) port) : SentTo c port :=
  sentTo_of_fields read fun l d made => by
    split at made
    · cases made; exact sent _
    · cases made

theorem sentTo_line {kind : Nat} {bs : List Byte} {c : Instr} (read : decodeLine kind bs = .request c) :
    SentTo c .line := by
  unfold decodeLine at read
  split at read
  case h_15 =>
    refine sentTo_of_fields read fun l d made => ?_
    split at made
    · exact sentTo_of_map made fun _ => rfl
    · cases made
  case h_20 =>
    split at read
    · cases read
    · exact sentTo_of_fields read fun l d made => sentTo_of_map made fun _ => rfl
  case h_27 =>
    refine sentTo_of_fields read fun l d made => ?_
    split at made
    · cases made; rfl
    · cases made
  case h_30 => cases read
  case h_16 | h_18 | h_25 => exact sentTo_of_fields read fun l d made => sentTo_of_map made fun _ => rfl
  all_goals first | exact sentTo_of_readBare read rfl | exact sentTo_of_readByte read fun _ => rfl

/-- A request read at a port is one that the port's link sends (R193). -/
theorem sentTo_of_decodeRequest {port : Port} {kind : Byte} {bs : List Byte} {c : Instr}
    (read : decodeRequest port kind bs = .request c) : SentTo c port := by
  cases port with
  | line => exact sentTo_line read
  | inspection | supply =>
    simp only [decodeRequest, decodeInspection, decodeSupply] at read
    split at read
    · refine sentTo_of_fields read fun l d made => ?_
      split at made
      · cases made; rfl
      · cases made
    · cases read

/-! ### Replies (R190, R194, R195) -/

/-- What a step has to keep: each of the two invariants without the other. -/
structure Part.KeepsInRange (p q : Part) : Prop where
  records : p.RecordsInRange → q.RecordsInRange
  supply : p.SupplyFits → q.SupplyFits
  ports : p.PortsFit → q.PortsFit

theorem Part.KeepsInRange.trans {q r : Part} (one : p.KeepsInRange q) (two : q.KeepsInRange r) : p.KeepsInRange r :=
  ⟨two.records ∘ one.records, two.supply ∘ one.supply, two.ports ∘ one.ports⟩

theorem Part.KeepsRecords.keeps {q : Part} (w : p.KeepsRecords q) : p.KeepsInRange q := ⟨w.records, w.supply, w.ports⟩

theorem Part.KeepsRanges.keeps {q : Part} (w : p.KeepsRanges q) : p.KeepsInRange q := w.keepsRecords.keeps

/-- A change of a port's state is one of the links alone. -/
theorem Part.setPort_keeps_ports {port : Port} {s : PortState} (fits : p.PortsFit → s.Fits port) :
    p.KeepsInRange (p.setPort port s) where
  records inv := inv
  supply := fun ⟨a, b, c, d, e, f, m⟩ => ⟨a, b, c, d, e, f, m⟩
  ports inv x := by
    by_cases same : port = x
    · subst same; rw [Part.port_setPort_same]; exact fits inv
    · rw [Part.port_setPort_other p s same]; exact inv x

/-- At a free port a reply is the only one unsent. -/
theorem Part.enqueue_keeps {port : Port} (free : p.portFree port) {f : OutFrame} (reply : f.reply = true) :
    p.KeepsInRange (p.enqueue port f) := by
  unfold Part.enqueue
  dsimp only; split
  · next room =>
    refine Part.setPort_keeps_ports fun inv => ?_
    obtain ⟨-, -, others, -⟩ := inv port
    obtain ⟨held, unsent⟩ := free
    have none_ : (p.port port).queue.filter (·.reply) = [] := by
      rw [List.filter_eq_nil_iff]
      simpa [PortState.hasReply] using unsent
    refine ⟨?_, ?_, fun line g joined => ?_, fun waits => ?_⟩
    · simp only [List.length_append, List.length_singleton]; omega
    · simp [List.filter_append, none_, reply]
    · rcases List.mem_append.mp joined with old | new
      · exact others line g old
      · rw [List.mem_singleton.mp new]; exact reply
    · dsimp only at waits; rw [held] at waits; cases waits
  · exact (Part.KeepsRanges.refl p).keeps

theorem Part.reply_keeps {port : Port} (free : p.portFree port) (kind : Nat) (a : Answer) :
    p.KeepsInRange (p.reply port kind a) := Part.enqueue_keeps free rfl

theorem Part.serve_keepsInRange {port : Port} (free : p.portFree port) {kind : Nat} {owner : Part → Part × Answer}
    (keeps : p.KeepsRecords (owner p).1) : p.KeepsInRange (p.serve port kind owner) := by
  unfold Part.serve; split
  · exact Part.reply_keeps free _ _
  · exact keeps.keeps.trans (Part.reply_keeps (keeps.free port free) _ _)

/-- An owner that leaves N alone. -/
theorem Part.serve_keepsRanges {port : Port} (free : p.portFree port) {kind : Nat} {owner : Part → Part × Answer}
    (keeps : p.KeepsRanges (owner p).1) : p.KeepsInRange (p.serve port kind owner) :=
  Part.serve_keepsInRange free keeps.keepsRecords

theorem Part.serveCommand_keepsInRange {c : Instr} {port : Port} (sent : SentTo c port) (free : p.portFree port) :
    p.KeepsInRange (p.serveCommand c) := by
  have same := Part.KeepsRanges.refl p
  have known : ∀ x, (encodeRequest c).map (·.1) = some x → p.portFree x := fun x at_ => by
    have port_ : port = x := Option.some.inj (sent.symm.trans at_)
    exact port_ ▸ free
  cases c with
  | restart => exact Part.serve_keepsRanges (known _ rfl) takeRestart_keepsRanges
  | writeMachine m => exact Part.serve_keepsInRange (known _ rfl) (takeWriteMachine_keepsRecords m)
  | setDiagnostics f => exact Part.serve_keepsInRange (known _ rfl) (takeSetDiagnostics_keepsRecords f)
  | readStatus | operationStatus | readMachine => exact Part.serve_keepsRanges (known _ rfl) same
  | start => exact Part.serve_keepsRanges (known _ rfl) takeStart_keepsRanges
  | hold => exact Part.serve_keepsRanges (known _ rfl) takeHold_keepsRanges
  | resume => exact Part.serve_keepsRanges (known _ rfl) takeResume_keepsRanges
  | stop => exact Part.serve_keepsRanges (known _ rfl) takeStop_keepsRanges
  | enterSafe => exact Part.serve_keepsRanges (known _ rfl) (same.raiseSafe .command)
  | recover => exact Part.serve_keepsRanges (known _ rfl) takeRecover_keepsRanges
  | cleanBegin => exact Part.serve_keepsRanges (known _ rfl) takeCleanBegin_keepsRanges
  | cleanOpen => exact Part.serve_keepsRanges (known _ rfl) takeCleanOpen_keepsRanges
  | cleanClose => exact Part.serve_keepsRanges (known _ rfl) takeCleanClose_keepsRanges
  | cleanEnd => exact Part.serve_keepsRanges (known _ rfl) takeCleanEnd_keepsRanges
  | selectRecipe n => exact Part.serve_keepsRanges (known _ rfl) (takeSelectRecipe_keepsRanges n)
  | writeRecipe n f => exact Part.serve_keepsRanges (known _ rfl) (takeWriteRecipe_keepsRanges n f)
  | adjustRecipe f => exact Part.serve_keepsRanges (known _ rfl) (takeAdjustRecipe_keepsRanges f)
  | readRecipe n => exact Part.serve_keepsRanges (known _ rfl) (by unfold takeReadRecipe; split <;> exact same)
  | writeHead n f => exact Part.serve_keepsRanges (known _ rfl) (takeWriteHead_keepsRanges n f)
  | readHead n => exact Part.serve_keepsRanges (known _ rfl) (by unfold takeReadHead; split <;> exact same)
  | restoreHead n => exact Part.serve_keepsRanges (known _ rfl) (takeRestoreHead_keepsRanges n)
  | clearFaults n => exact Part.serve_keepsRanges (known _ rfl) (takeClearFaults_keepsRanges n)
  | clearTotals n => exact Part.serve_keepsRanges (known _ rfl) (takeClearTotals_keepsRanges n)
  | testCoils => exact Part.serve_keepsRanges (known _ rfl) takeTestCoils_keepsRanges
  | calDose n pCal pFine => exact Part.serve_keepsRanges (known _ rfl) (takeCalDose_keepsRanges n pCal pFine)
  | stopCal => exact Part.serve_keepsRanges (known _ rfl) takeStopCal_keepsRanges
  | save => exact Part.serve_keepsRanges (known _ rfl) takeSave_keepsRanges
  | measurement n v => exact Part.serve_keepsRanges (known _ rfl) (takeMeasurement_keepsRanges n v)
  | supplyData t c pr v => exact Part.serve_keepsRanges (known _ rfl) (takeSupplyData_keepsRanges t c pr v)
  | _ => exact same.keeps

/-! ### Frames (R188 to R190, R195) -/

/-- A frame behind an unsent reply is held; at a free port it is taken (R190). -/
theorem Part.arrive_keepsInRange {port : Port} {frame : Byte × List Byte} {take : Part → Part}
    (keeps : ∀ q : Part, q.portFree port → q.KeepsInRange (take q)) : p.KeepsInRange (p.arrive port frame take) := by
  have passed := (Part.KeepsRanges.refl p).crcPassed port
  rcases Part.arrive_cases p port frame take with ⟨-, e⟩ | ⟨-, unsent, e⟩ | ⟨free, e⟩ <;> rw [e]
  · exact passed.keeps
  · refine passed.keeps.trans (Part.setPort_keeps_ports fun inv => ?_)
    have fits := inv port
    rw [Part.crcPassed_port] at fits
    exact { fits with held := fun _ => unsent }
  · exact passed.keeps.trans (keeps _ (passed.free port free))

theorem Part.takeFrame_keepsInRange {port : Port} (free : p.portFree port) (kind : Byte) (payload : List Byte) :
    p.KeepsInRange (p.takeFrame port kind payload) := by
  unfold Part.takeFrame; split
  · exact Part.enqueue_keeps free rfl
  · exact Part.reply_keeps free _ _
  · next read => exact Part.serveCommand_keepsInRange (sentTo_of_decodeRequest read) free

theorem Part.KeepsRanges.dropFrame {q : Part} (w : p.KeepsRanges q) (port : Port) : p.KeepsRanges (q.dropFrame port) :=
  w.setPort port rfl rfl

theorem Part.frameByte_keepsInRange (port : Port) (b : Byte) : p.KeepsInRange (p.frameByte port b) := by
  have dropped := (Part.KeepsRanges.refl p).dropFrame port
  have moved : ∀ rx, p.KeepsInRange (p.setRx port rx) := fun rx =>
    ((Part.KeepsRanges.refl p).setPort port (by rfl) (by rfl)).keeps
  unfold Part.frameByte; split
  · exact (Part.KeepsRanges.refl p).keeps
  · exact moved _
  · split
    · exact moved _
    · split
      · exact moved _
      · exact dropped.keeps
  · split <;> exact moved _
  · exact moved _
  · dsimp only; split
    · exact dropped.keeps.trans (Part.arrive_keepsInRange fun q free => Part.takeFrame_keepsInRange free _ _)
    · exact dropped.keeps

theorem byteIn_keepsInRange (port : Port) (b : Byte) (byteError : Bool) :
    p.KeepsInRange (byteIn port b byteError p) := by
  have outlasted : p.KeepsRanges (p.outlast port) := by
    unfold Part.outlast; exact .ite ((Part.KeepsRanges.refl p).dropFrame port) (.refl p)
  unfold byteIn; split
  · exact (Part.KeepsRanges.refl p).keeps
  · dsimp only; split
    · split
      · exact (outlasted.setPort port (by rfl) (by rfl)).keeps
      · exact outlasted.keeps
    · split
      · exact (outlasted.dropFrame port).keeps
      · exact outlasted.keeps.trans (Part.frameByte_keepsInRange port b)

/-- A held frame waits for the last reply before it, and finds its port free then. -/
theorem frameSentEnd_keepsInRange (port : Port) : p.KeepsInRange (frameSentEnd port p) := by
  unfold frameSentEnd; split
  · exact (Part.KeepsRanges.refl p).keeps
  · next sent rest queue =>
    have shorter : p.PortsFit → rest.length ≤ 80 ∧ (rest.filter (·.reply)).length ≤ 1 ∧
        (port ≠ .inspection → ∀ f ∈ rest, f.reply = true) := fun inv => by
      obtain ⟨frames, replies, others, -⟩ := inv port
      rw [queue] at frames replies others
      refine ⟨Nat.le_of_succ_le frames, le_trans ?_ replies, fun line f later => others line f (.tail _ later)⟩
      exact List.Sublist.length_le (List.Sublist.filter _ (List.sublist_cons_self sent rest))
    dsimp only; split
    · split
      · next unsent =>
        exact Part.setPort_keeps_ports fun inv =>
          ⟨(shorter inv).1, (shorter inv).2.1, (shorter inv).2.2, fun _ => unsent⟩
      · next clear =>
        refine (Part.setPort_keeps_ports (s := { p.port port with queue := rest, held := none }) fun inv =>
          ⟨(shorter inv).1, (shorter inv).2.1, (shorter inv).2.2, nofun⟩).trans (Part.takeFrame_keepsInRange ?_ _ _)
        rw [Part.portFree, Part.port_setPort_same]
        exact ⟨rfl, Bool.eq_false_iff.mpr clear⟩
    · next bare =>
      exact Part.setPort_keeps_ports fun inv => ⟨(shorter inv).1, (shorter inv).2.1, (shorter inv).2.2, fun waits => by
        dsimp only at waits bare; rw [bare] at waits; cases waits⟩

/-! ### The commands that are no requests -/

theorem moduleReport_keepsRanges (m : ModuleNo) : p.KeepsRanges (moduleReport m p) := by
  unfold moduleReport; exact .ite (.refl p) ((Part.KeepsRanges.refl p).moduleAnswers m)

theorem moduleSilence_keepsRanges (m : ModuleNo) : p.KeepsRanges (moduleSilence m p) := by
  unfold moduleSilence; split
  · exact (Part.KeepsRanges.refl p).atExpiry fun r v => Part.KeepsRanges.raiseSafe (v.same (by rfl)) _
  · exact .refl p

theorem holdLimitEnd_keepsRanges : p.KeepsRanges (holdLimitEnd p) := by
  refine (Part.KeepsRanges.refl p).atExpiry fun r v => ?_
  have stopped : p.KeepsRanges (r.setHoldTimer .stopped) := v.same rfl
  exact stopped.mapHeads (fun _ _ _ fits => fits) fun _ _ _ fits => fits

theorem lineSilenceEnd_keepsRanges : p.KeepsRanges (lineSilenceEnd p) := by
  refine (Part.KeepsRanges.refl p).atExpiry fun r v => ?_
  have quiet : p.KeepsRanges { r with lineTimer := .stopped, control := { r.control with lineQuiet := true } } :=
    v.same rfl
  exact .ite (quiet.raiseSafe _) quiet

/-- The supply-silence timer runs while the record is FRESH, and so there is one (R137). -/
theorem supplyExpiry_keepsRanges : p.KeepsRanges (supplyExpiry p) := by
  unfold supplyExpiry Part.atExpiry; split
  · exact .refl p
  · next due runs =>
    refine Part.KeepsRanges.recomputePressure ((Part.KeepsRanges.refl p).supplied (e := rfl) fun fits => ?_)
    have fresh : p.supply.freshness = .fresh := fits.fresh.mpr (by rw [runs]; nofun)
    exact { fits with
      absent := ⟨nofun, fun bare => by have absent := fits.absent.mpr bare; rw [fresh] at absent; cases absent⟩
      fresh := ⟨nofun, fun running => absurd rfl running⟩ }

theorem bowlExpiry_keepsRanges : p.KeepsRanges (bowlExpiry p) :=
  (Part.KeepsRanges.refl p).atExpiry fun _ v => v.supplied (e := rfl) fun fits =>
    { fits with timing := ⟨nofun, fun running => absurd rfl running⟩ }

theorem demandEnd_keepsRanges : p.KeepsRanges (demandEnd p) := by
  unfold demandEnd; split
  · exact .refl p
  · next due _ =>
    have supplied : p.KeepsRanges { p.clockTo due with supply := { (p.clockTo due).supply with
        demand := (p.clockTo due).periodDemand, demandTimer := .running (due + 1000) } } :=
      (Part.KeepsRanges.refl p).supplied (e := rfl) fun fits => { fits with demand := Nat.min_le_left _ _ }
    exact supplied.mapHeads (fun _ _ _ fits => fits) fun _ _ _ fits => fits

theorem saveEnd_keepsRanges (fault : Option SaveFault) : p.KeepsRanges (saveEnd fault p) := by
  have memory : ∀ (m : List Host.Cell) (n : Nat), (Memory.wf p.memory = true → Memory.wf m = true) →
      p.KeepsRanges { p with memory := m, freeCount := n } := fun m n wf =>
    (Part.KeepsRanges.refl p).supplied (e := rfl) fun fits => { fits with memory := wf fits.memory }
  unfold saveEnd; split
  · exact Part.KeepsRanges.finish (memory _ p.freeCount fun wf => Memory.wf_memWriteAll wf _) _
  · exact Part.KeepsRanges.finish (memory _ _ fun wf => Memory.wf_failedMemory wf _ _) _
  · exact .refl p

theorem calExpiry_keepsRanges {t : Timer} (c : CalRecord) (r : Part → OpResult) :
    p.KeepsRanges (p.atExpiry t fun q => q.endCal c (r q)) :=
  (Part.KeepsRanges.refl p).atExpiry fun _ v => v.endCal c _

theorem Part.KeepsRanges.seal (h : HeadNo) (b : Bool) {handle : Part → Part}
    (keeps : ∀ r, p.KeepsRanges r → p.KeepsRanges (handle r)) : p.KeepsRanges ((p.setSeal h b).busArrival h handle) :=
  Part.KeepsRanges.busArrival (Part.KeepsRanges.same (.refl p) (by rfl)) keeps

/-! ### Every step -/

/-- A command that is no request keeps every value in its range. -/
theorem exec_arrival_keepsInRange {s : State} {c : Instr} (arrival : (encodeRequest c).isSome = false) :
    ∃ q : Part, exec c s = .next { s with part := q } ∧ s.part.KeepsInRange q := by
  have same := Part.KeepsRanges.refl s.part
  cases c with
  | powerOn | resetInput => exact ⟨_, rfl, fullReset_keepsRecords.keeps⟩
  | brownout micros =>
    refine ⟨_, rfl, ?_⟩
    unfold brownout; split
    · exact fullReset_keepsRecords.keeps
    · exact same.keeps
  | fullResetEnd =>
    refine ⟨_, rfl, Part.KeepsRanges.keeps ?_⟩
    unfold fullResetEnd; split
    · exact same.same rfl
    · exact same
  | loadCompletion acknowledged => exact ⟨_, rfl, (loadEnd_keepsRecords acknowledged).keeps⟩
  | encoderStep a b infeed => exact ⟨_, rfl, (same.encoderEdge a b infeed).keeps⟩
  | zeroMarkArrival infeed => exact ⟨_, rfl, (same.zeroMark infeed).keeps⟩
  | speedSample =>
    refine ⟨_, rfl, Part.KeepsRanges.keeps ?_⟩
    unfold speedSample; split
    · exact same
    · exact Part.KeepsRanges.modCarousel (same.same (by rfl)) _
  | standstillExpiry => exact ⟨_, rfl, (same.atExpiry fun _ v => v.modCarousel _).keeps⟩
  | pressuriseExpiry h => exact ⟨_, rfl, (same.phaseExpiry fun _ v => v.pressuriseEnd h).keeps⟩
  | settleExpiry h => exact ⟨_, rfl, (same.phaseExpiry fun _ v => v.settleEnd h).keeps⟩
  | reliefExpiry h => exact ⟨_, rfl, (same.phaseExpiry fun _ v => v.reliefEnd h).keeps⟩
  | ventExpiry h => exact ⟨_, rfl, (same.phaseExpiry fun _ v => v.ventEnd h).keeps⟩
  | coilTestExpiry h => exact ⟨_, rfl, (same.phaseExpiry fun _ v => v.testExpiry h).keeps⟩
  | coilTestReport h v r => exact ⟨_, rfl, (same.busArrival fun _ u => .ite (u.modEntry _ _) u).keeps⟩
  | flowmeterPulse h => exact ⟨_, rfl, (same.busArrival fun _ v => v.pulse h).keeps⟩
  | timedOpenExpiry h => exact ⟨_, rfl, (same.openExpiry h).keeps⟩
  | meterSilenceExpiry h => exact ⟨_, rfl, (same.silenceExpiry h).keeps⟩
  | sealDrop h => exact ⟨_, rfl, (Part.KeepsRanges.seal h false fun _ v => v.sealDropAt h).keeps⟩
  | sealInputRise h => exact ⟨_, rfl, (Part.KeepsRanges.seal h true fun _ v => v).keeps⟩
  | coilReport h v c => exact ⟨_, rfl, (same.busArrival fun _ u => u.coilReport h v c).keeps⟩
  | moduleStatusReport m => exact ⟨_, rfl, (moduleReport_keepsRanges m).keeps⟩
  | moduleSilent m => exact ⟨_, rfl, (moduleSilence_keepsRanges m).keeps⟩
  | holdLimitExpiry => exact ⟨_, rfl, holdLimitEnd_keepsRanges.keeps⟩
  | lineSilenceExpiry => exact ⟨_, rfl, lineSilenceEnd_keepsRanges.keeps⟩
  | supplySilenceExpiry => exact ⟨_, rfl, supplyExpiry_keepsRanges.keeps⟩
  | bowlDeterminationExpiry => exact ⟨_, rfl, bowlExpiry_keepsRanges.keeps⟩
  | demandPeriodEnd => exact ⟨_, rfl, demandEnd_keepsRanges.keeps⟩
  | calSilenceExpiry =>
    refine ⟨_, rfl, Part.KeepsRanges.keeps ?_⟩
    unfold calSilenceEnd; split
    · exact calExpiry_keepsRanges _ _
    · exact same
  | calTimeoutExpiry =>
    refine ⟨_, rfl, Part.KeepsRanges.keeps ?_⟩
    unfold calTimeoutEnd; split
    · exact calExpiry_keepsRanges _ _
    · exact same
  | calSettleExpiry =>
    refine ⟨_, rfl, Part.KeepsRanges.keeps ?_⟩
    unfold calSettleEnd; split
    · exact same.atExpiry fun _ v => v.finish _
    · exact same
  | saveCompletion fault => exact ⟨_, rfl, (saveEnd_keepsRanges fault).keeps⟩
  | byteArrival port b byteError => exact ⟨_, rfl, byteIn_keepsInRange port b byteError⟩
  | frameTimerExpiry port => exact ⟨_, rfl, (same.atExpiry fun _ v => v.dropFrame port).keeps⟩
  | frameSent port => exact ⟨_, rfl, frameSentEnd_keepsInRange port⟩
  | _ => cases arrival

/-- A request stands for its frame at the port of its kind, where `serveCommand` serves it (log entry 3). -/
theorem exec_of_sentTo {c : Instr} {port : Port} (sent : SentTo c port) (s : State) : ∃ frame,
    exec c s = .next { s with part :=
      if s.part.phase = .inReset then s.part else s.part.arrive port frame (Part.serveCommand c) } := by
  cases c <;> cases sent <;> exact ⟨_, rfl⟩

theorem exec_keepsInRange {s t : State} (c : Instr) (run : exec c s = .next t) : s.part.KeepsInRange t.part := by
  cases request : encodeRequest c with
  | none =>
    obtain ⟨q, e, kept⟩ := exec_arrival_keepsInRange (s := s) (c := c) (by rw [request]; rfl)
    rw [e] at run
    cases run
    exact kept
  | some frame =>
    have sent : SentTo c frame.1 := by rw [SentTo, request]; rfl
    obtain ⟨bytes, e⟩ := exec_of_sentTo sent s
    rw [e] at run
    cases run
    dsimp only; split
    · exact (Part.KeepsRanges.refl _).keeps
    · exact Part.arrive_keepsInRange fun q free => Part.serveCommand_keepsInRange sent free

theorem step_keepsInRange {s t : State} (run : step s = .next t) : s.part.KeepsInRange t.part := by
  unfold step at run
  split at run
  · cases run
    exact (Part.KeepsRanges.same (.refl s.part) (by rfl)).keeps
  · next c rest _ => exact exec_keepsInRange (s := { s with pending := rest }) c run

/-- Settles O57: the records and their windows under the N of the moment, the Supply Monitor and the memory by what
writes them, and a reply only where none is unsent. -/
theorem stepKeepsEveryValueInRange : Obligations.StepKeepsEveryValueInRange := by
  intro s t run
  have keeps := step_keepsInRange run
  refine ⟨keeps.records, fun inv => ?_⟩
  obtain ⟨supply, ports⟩ := Part.supplyAndLinksInRange_iff.mp inv
  exact Part.supplyAndLinksInRange_iff.mpr ⟨keeps.supply supply, keeps.ports ports⟩

end Sys2Proof.Machine
end

section
/-! START, HOLD, RESUME and the hold-limit expiry (R152 to R155). -/

namespace Sys2Proof.Machine

open Sys2Proof

variable {p : Part}

/-- Where tests are free, a change to PRODUCTION or HOLD begins none and leaves the clean command (R126, R163). -/
theorem Part.setProd_of_free {new : Prod} (free : p.control.prod.barsTests = false)
    (runs : new = .production ∨ new = .hold) :
    p.setProd new = { p with control := { p.control with prod := new } } := by
  rcases runs with rfl | rfl <;> simp [Part.setProd, free]

/-! ### START (R87, R152) -/

/-- The warm-up of START at one head. -/
def Part.startWarmupAt (w : Nat) (h : HeadNo) (p : Part) : Part :=
  if (p.record h).stored.inService then p.modRecord h fun x => { x with warm := w } else p

theorem Part.startWarmupAt_head (w : Nat) (h : HeadNo) : (p.startWarmupAt w h).head h =
    if (p.record h).stored.inService then { p.head h with record := { p.record h with warm := w } } else p.head h := by
  unfold Part.startWarmupAt; split
  · rw [Part.modRecord, Part.head_modHead, if_pos rfl]; rfl
  · rfl

theorem Part.startWarmup_head (w : Nat) (g : HeadNo) : (p.startWarmup w).head g =
    if p.fitted g ∧ (p.record g).stored.inService then { p.head g with record := { p.record g with warm := w } }
    else p.head g := by
  have off : ∀ h (q : Part), (q.startWarmupAt w h).offHead h = q.offHead h := fun h q => by
    unfold Part.startWarmupAt; split
    · exact Part.modHead_offHead h _ q
    · rfl
  obtain ⟨q, head, -, folded⟩ := forFitted_head off p g
  have record : q.record g = p.record g := congrArg Head.record head
  have folds : p.startWarmup w = forFitted (Part.startWarmupAt w) p := rfl
  rw [folds, folded, Part.startWarmupAt_head, head, record]
  simp only [ite_and]

theorem Part.startWarmup_withHeads (w : Nat) (hs : Vector Head 64) :
    (p.startWarmup w).withHeads hs = p.withHeads hs := by
  refine forFitted_view (Part.withHeads hs) _ (fun h q => ?_) p
  split <;> rfl

theorem exec_start (s : State) : exec .start s =
    .next { s with part := s.part.request .start .line 0x03 takeStart } := rfl
theorem exec_hold (s : State) : exec .hold s =
    .next { s with part := s.part.request .hold .line 0x04 takeHold } := rfl
theorem exec_resume (s : State) : exec .resume s =
    .next { s with part := s.part.request .resume .line 0x05 takeResume } := rfl

theorem takeStart_refuses (cannot : p.control.prod ≠ .standby ∨ p.configBad = true ∨ p.activeRecipe = none ∨
    p.slot.isCal = true) : takeStart p = refusal .wrongState p := by
  unfold takeStart
  split
  · rfl
  · next standby =>
    split
    · rfl
    · next good =>
      rcases (cannot.resolve_left standby).resolve_left good with noRecipe | cal
      · rw [noRecipe]
      · split
        · rfl
        · rw [if_pos cal]

theorem takeStart_accepts {sr : StoredRecipe} (standby : p.control.prod = .standby) (good : p.configBad = false)
    (active : p.activeRecipe = some sr) (noCal : p.slot.isCal = false) : takeStart p =
      accept (({ p with control := { p.control with prod := .production } } : Part).startWarmup sr.fields.warmup) := by
  rw [← Part.setProd_of_free (by rw [standby]; rfl) (.inl rfl)]
  simp [takeStart, standby, good, active, noCal]

/-! ### HOLD and RESUME (R153, R155) -/

theorem takeHold_refuses (other : p.control.prod ≠ .production) : takeHold p = refusal .wrongState p := if_pos other

theorem takeResume_refuses (other : p.control.prod ≠ .hold) : takeResume p = refusal .wrongState p := if_pos other

theorem takeHold_accepts (production : p.control.prod = .production) : takeHold p =
    accept { p with control := { p.control with prod := .hold, holdTimer := p.holdTimerFor } } := by
  rw [takeHold, if_neg (not_not_intro production), Part.setProd_of_free (by rw [production]; rfl) (.inr rfl)]
  rfl

theorem takeResume_accepts (hold : p.control.prod = .hold) : takeResume p =
    accept { p with control := { p.control with prod := .production, holdTimer := .stopped } } := by
  have held : (p.setHoldTimer .stopped).control.prod = .hold := hold
  rw [takeResume, if_neg (not_not_intro hold), Part.setProd_of_free (by rw [held]; rfl) (.inl rfl)]
  rfl

theorem Part.holdTimerFor_of_active {sr : StoredRecipe} (active : p.activeRecipe = some sr) : p.holdTimerFor =
    if sr.fields.hold = 0 then .stopped else .running (p.now + 1000 * sr.fields.hold) := by
  simp only [Part.holdTimerFor, active, Part.startTimer, Nat.mul_comm, Nat.pos_iff_ne_zero, ite_not, ne_eq]

theorem Part.holdTimerFor_of_none (none_ : p.activeRecipe = none) : p.holdTimerFor = .stopped := by
  simp only [Part.holdTimerFor, none_]

/-! ### The hold-limit expiry (R154) -/

theorem Part.markHeldLong_head (h : HeadNo) : p.markHeldLong.head h = { p.head h with
    context := (p.context h).map fun c => { c with flags := addFlag c.flags .heldLong } } := by
  simp only [Part.markHeldLong, Part.head, Fin.getElem_fin, Vector.getElem_ofFn]
  rfl

/-- Settles O44: the owner's checks in order, START's warm-up as one pass over the fitted heads. -/
theorem startHoldAndResume : Obligations.StartHoldAndResume := by
  intro s sr due
  dsimp only
  intro takes
  rw [exec_start, exec_hold, exec_resume]
  refine ⟨fun cannot => ?_, fun standby good active noCal => ?_, fun other => ?_, fun production active => ?_,
    fun production none_ => ?_, fun other => ?_, fun hold => ?_, fun stopped => ?_, fun running => ?_⟩
  · rw [Part.request_refused takes (takeStart_refuses (p := s.part.crcPassed .line) cannot)]
  · rw [Part.request_answered takes (takeStart_accepts (p := s.part.crcPassed .line) standby good active noCal)]
    exact ⟨_, rfl, Part.startWarmup_withHeads _ s.part.heads, fun h => Part.startWarmup_head _ h⟩
  · rw [Part.request_refused takes (takeHold_refuses (p := s.part.crcPassed .line) other)]
  · have timer := Part.holdTimerFor_of_active (p := s.part.crcPassed .line) active
    rw [Part.request_answered takes (takeHold_accepts (p := s.part.crcPassed .line) production), timer]
    rfl
  · have timer := Part.holdTimerFor_of_none (p := s.part.crcPassed .line) none_
    rw [Part.request_answered takes (takeHold_accepts (p := s.part.crcPassed .line) production), timer]
    rfl
  · rw [Part.request_refused takes (takeResume_refuses (p := s.part.crcPassed .line) other)]
  · rw [Part.request_answered takes (takeResume_accepts (p := s.part.crcPassed .line) hold)]
    rfl
  · have idle : holdLimitEnd s.part = s.part := by rw [holdLimitEnd, stopped, Part.atExpiry]
    exact congrArg (fun q => Host.Outcome.next { s with part := q }) idle
  · have ends : holdLimitEnd s.part = ((s.part.clockTo due).setHoldTimer .stopped).markHeldLong := by
      rw [holdLimitEnd, running, Part.atExpiry]
    refine ⟨holdLimitEnd s.part, rfl, ?_, fun h => ?_⟩
    · rw [ends]; rfl
    · rw [ends]; exact Part.markHeldLong_head h

end Sys2Proof.Machine
end

section
/-! RESTORE HEAD, CLEAR FAULTS and CLEAR TOTALS (R86, R90, R131). -/

namespace Sys2Proof.Machine

open Sys2Proof

variable {h : HeadNo} {p : Part}

/-! ### RESTORE HEAD (R86) -/

@[simp] theorem Diag.isLive_clearHeld (d : Diag) (k : FaultKind) : d.clearHeld.isLive k = d.isLive k := rfl

/-- The meter kind for which RESTORE HEAD leaves the head TIMED. -/
def Part.restoreCause (p : Part) (h : HeadNo) : Option FaultKind :=
  if (p.diag h).firstMeter.isSome && p.timedOk h then (p.diag h).firstMeter else none

theorem Part.restoreHead_eq : p.restoreHead h = (p.modDiag h Diag.clearHeld).setMethod h
    (if (p.diag h).firstMeter.isSome && p.timedOk h then .timed else .flow) (p.restoreCause h) := by
  have meter : ((p.modDiag h Diag.clearHeld).diag h).firstMeter = (p.diag h).firstMeter := by
    rw [Part.diag_modDiag, if_pos rfl]; rfl
  have allowed : (p.modDiag h Diag.clearHeld).timedOk h = p.timedOk h :=
    Part.timedOk_congr rfl (by rw [Part.record_modDiag])
  unfold Part.restoreHead Part.restoreCause
  dsimp only
  rw [meter, allowed]
  cases live : (p.diag h).firstMeter with
  | none => rfl
  | some k => cases ok : p.timedOk h <;> rfl

theorem Part.restoreHead_head : (p.restoreHead h).head h =
    let x := { p.record h with
      method := if (p.diag h).firstMeter.isSome && p.timedOk h then .timed else .flow
      cause := p.restoreCause h, promo := 0 }
    { p.head h with record := x, diag := (p.diag h).clearHeld.moved (p.record h) x } := by
  have cleared : (p.modDiag h Diag.clearHeld).head h = { p.head h with diag := (p.diag h).clearHeld } := by
    rw [Part.modDiag, Part.head_modHead, if_pos rfl]; rfl
  rw [Part.restoreHead_eq, Part.setMethod_head, Part.record_modDiag, Part.diag_modDiag, if_pos rfl, cleared]

theorem Part.restoreHead_offHead : (p.restoreHead h).offHead h = p.offHead h := by
  rw [Part.restoreHead_eq]
  exact (Part.offHead_of_offTable (Part.setMethod_offTable h _ _ _)).trans (Part.modHead_offHead h _ p)

theorem Diag.held_moved (d : Diag) (x y : HeadRecord) : (d.moved x y).held = d.held := by
  unfold Diag.moved; split <;> rfl

theorem exec_restoreHead (n : Nat) (s : State) : exec (.restoreHead n) s =
    .next { s with part := s.part.request (.restoreHead n) .line 0x1A (takeRestoreHead n) } := rfl
theorem exec_clearFaults (n : Nat) (s : State) : exec (.clearFaults n) s =
    .next { s with part := s.part.request (.clearFaults n) .line 0x1B (takeClearFaults n) } := rfl
theorem exec_clearTotals (n : Nat) (s : State) : exec (.clearTotals n) s =
    .next { s with part := s.part.request (.clearTotals n) .line 0x1C (takeClearTotals n) } := rfl

theorem takeRestoreHead_unknown {n : Nat} (nobody : p.fittedHead n = none) :
    takeRestoreHead n p = refusal .unknownHead p := by
  simp only [takeRestoreHead, nobody]

theorem takeRestoreHead_outOfService (fitted : p.fitted h = true) (out : (p.record h).stored.inService = false) :
    takeRestoreHead h.val p = refusal .wrongState p := by
  simp only [takeRestoreHead, Part.fittedHead_val fitted, out, if_true]

theorem takeRestoreHead_faulty (fitted : p.fitted h = true) (serves : (p.record h).stored.inService = true)
    (coil : (p.diag h).isLive .coilOpen = true ∨ (p.diag h).isLive .coilShort = true) :
    takeRestoreHead h.val p = refusal .stillFaulty p := by
  have live : ((p.diag h).isLive .coilOpen || (p.diag h).isLive .coilShort) = true := Bool.or_eq_true_iff.mpr coil
  simp only [takeRestoreHead, Part.fittedHead_val fitted, serves, live, Bool.true_eq_false, if_true, if_false]

theorem takeRestoreHead_accepts (fitted : p.fitted h = true) (serves : (p.record h).stored.inService = true)
    (noOpen : (p.diag h).isLive .coilOpen = false) (noShort : (p.diag h).isLive .coilShort = false) :
    takeRestoreHead h.val p = accept (p.restoreHead h) := by
  simp [takeRestoreHead, Part.fittedHead_val fitted, serves, noOpen, noShort]

/-! ### CLEAR FAULTS and CLEAR TOTALS (R90, R131) -/

theorem takeClear_unknown {n : Nat} (nobody : p.fittedHead n = none) (one : n ≠ 255) :
    takeClearFaults n p = refusal .unknownHead p ∧ takeClearTotals n p = refusal .unknownHead p := by
  simp only [takeClearFaults, takeClearTotals, if_neg one, nobody, and_self]

theorem takeClear_one (fitted : p.fitted h = true) :
    takeClearFaults h.val p = accept (p.modDiag h Diag.clearHeld) ∧
    takeClearTotals h.val p = accept (p.modRecord h HeadRecord.clearTotals) := by
  have one : h.val ≠ 255 := by omega
  simp only [takeClearFaults, takeClearTotals, if_neg one, Part.fittedHead_val fitted, and_self]

theorem takeClear_all :
    takeClearFaults 255 p = accept (forFitted (fun h => Part.modDiag h Diag.clearHeld) p) ∧
    takeClearTotals 255 p = accept (forEach allHeads (fun h => Part.modRecord h HeadRecord.clearTotals) p) :=
  ⟨rfl, rfl⟩

theorem clearFaults_withHeads (hs : Vector Head 64) :
    (forFitted (fun h => Part.modDiag h Diag.clearHeld) p).withHeads hs = p.withHeads hs :=
  forFitted_view (Part.withHeads hs) (fun h => Part.modDiag h Diag.clearHeld) (fun _ _ => rfl) p

theorem clearTotals_withHeads (hs : Vector Head 64) :
    (forEach allHeads (fun h => Part.modRecord h HeadRecord.clearTotals) p).withHeads hs = p.withHeads hs :=
  forEach_view (Part.withHeads hs) (fun h => Part.modRecord h HeadRecord.clearTotals) (fun _ _ => rfl) allHeads p

theorem clearFaults_head (p : Part) (g : HeadNo) :
    (forFitted (fun h => Part.modDiag h Diag.clearHeld) p).head g =
      if p.fitted g then { p.head g with diag := (p.diag g).clearHeld } else p.head g := by
  obtain ⟨q, head, -, folded⟩ := forFitted_head (fun h q => Part.modHead_offHead h _ q) p g
  refine folded.trans ?_
  rw [Part.head_modHead, if_pos rfl, head]
  rfl

theorem clearTotals_head (p : Part) (g : HeadNo) :
    (forEach allHeads (fun h => Part.modRecord h HeadRecord.clearTotals) p).head g =
      { p.head g with record := (p.record g).clearTotals } := by
  obtain ⟨q, head, -, folded⟩ := forEach_head (fun h q => Part.modHead_offHead h _ q) (List.nodup_finRange 64) p g
  refine (folded.trans (if_pos (List.mem_finRange g))).trans ?_
  rw [Part.head_modHead, if_pos rfl, head]
  rfl

/-- Settles O50: RESTORE HEAD is one change of the method behind the cleared flags, the others a change of one head or a
pass over the heads. -/
theorem restoreAndClearHeads : Obligations.RestoreAndClearHeads := by
  intro s n h
  dsimp only
  intro takes
  rw [exec_clearFaults 255, exec_clearTotals 255]
  refine ⟨fun nobody => ?_, fun fitted out => ?_, fun fitted serves coil => ?_, fun fitted serves noOpen noShort => ?_,
    fun fitted => ?_, ?_, ?_⟩
  · have unknown := Part.fittedHead_of_unfitted (p := s.part.crcPassed .line) nobody
    rw [exec_restoreHead, Part.request_refused takes (takeRestoreHead_unknown unknown)]
    refine ⟨rfl, fun one => ?_⟩
    obtain ⟨faults, totals⟩ := takeClear_unknown unknown one
    rw [exec_clearFaults, exec_clearTotals, Part.request_refused takes faults, Part.request_refused takes totals]
    exact ⟨rfl, rfl⟩
  · rw [exec_restoreHead,
      Part.request_refused takes (takeRestoreHead_outOfService (p := s.part.crcPassed .line) fitted out)]
  · rw [exec_restoreHead,
      Part.request_refused takes (takeRestoreHead_faulty (p := s.part.crcPassed .line) fitted serves coil)]
  · have accepts := takeRestoreHead_accepts (p := s.part.crcPassed .line) fitted serves noOpen noShort
    have head := Part.restoreHead_head (p := s.part.crcPassed .line) (h := h)
    rw [exec_restoreHead, Part.request_answered takes accepts]
    refine ⟨_, rfl, fun g other => Part.head_of_offHead Part.restoreHead_offHead other, (congrArg Head.context head :),
      (congrArg Head.entry head :), (congrArg Head.record head :), ?_⟩
    exact (congrArg (fun x : Head => x.diag.held) head).trans (Diag.held_moved _ _ _)
  · obtain ⟨faults, totals⟩ := takeClear_one (p := s.part.crcPassed .line) fitted
    rw [exec_clearFaults, exec_clearTotals, Part.request_answered takes faults, Part.request_answered takes totals]
    exact ⟨rfl, rfl⟩
  · rw [Part.request_answered takes takeClear_all.1]
    exact ⟨_, rfl, clearFaults_withHeads s.part.heads, clearFaults_head _⟩
  · rw [Part.request_answered takes takeClear_all.2]
    exact ⟨_, rfl, clearTotals_withHeads s.part.heads, clearTotals_head _⟩

end Sys2Proof.Machine
end

section
/-! Replies as bytes: the encoder's fields against the numbers of the tables of R191 and R199. -/

namespace Sys2Proof.Machine

open Sys2Proof

/-! ### Fields of several bytes (R187) -/

theorem lowFirst_length (n x : Nat) : (lowFirst n x).length = n := by simp [lowFirst]

theorem lowFirst_succ (n x : Nat) : lowFirst (n + 1) x = x :: lowFirst n (x / 256) := by
  simp only [lowFirst, List.range_succ_eq_map, List.map_cons, List.map_map, pow_zero, Nat.div_one, List.cons.injEq,
    true_and]
  refine List.map_congr_left fun i _ => ?_
  rw [Function.comp_apply, Nat.div_div_eq_div_mul, Nat.pow_succ']

theorem lowFirst_one (x : Nat) : lowFirst 1 x = [x] := lowFirst_succ 0 x

theorem leBytes_eq_map (n x : Nat) : leBytes n x = (lowFirst n x).map byteOf := by
  induction n generalizing x with
  | zero => rfl
  | succ n ih => rw [leBytes, lowFirst_succ, List.map_cons, ih]; rfl

theorem unsignedOf_two (x : Int) : unsignedOf 2 x = (x % 65536).toNat := rfl
theorem unsignedOf_four (x : Int) : unsignedOf 4 x = (x % 4294967296).toNat := rfl

theorem joinFields_append (l m : List (Nat × Nat)) : joinFields (l ++ m) = joinFields l ++ joinFields m := by
  induction l with
  | nil => rfl
  | cons x l ih => rw [List.cons_append, joinFields, joinFields, ih, List.append_assoc]

/-- Fields of one byte each. -/
theorem joinFields_bytes (l : List Nat) : joinFields ((List.replicate l.length 1).zip l) = l.map byteOf := by
  induction l with
  | nil => rfl
  | cons x l ih =>
    rw [List.length_cons, List.replicate_succ, List.zip_cons_cons, joinFields, ih]
    rfl

/-! ### Flags and sets as bits -/

theorem flagByte_eq_bitSum (l : List Bool) : flagByte l = bitSum l := by
  induction l with
  | nil => rfl
  | cons b l ih => rw [flagByte, ih]; rfl

theorem testBit_bitSum (l : List Bool) (i : Nat) : (bitSum l).testBit i = l[i]?.getD false := by
  induction l generalizing i with
  | nil => exact Nat.zero_testBit i
  | cons b l ih =>
    have cons : bitSum (b :: l) = Nat.bit b (bitSum l) := by
      rw [Nat.bit_val, Nat.add_comm, bitSum, List.foldr_cons, Bool.toNat]
      cases b <;> rfl
    rw [cons]
    cases i with
    | zero => rw [Nat.testBit_bit_zero]; rfl
    | succ i => rw [Nat.testBit_bit_succ, ih]; rfl

theorem getLsbD_bitsOf {α : Type} {w : Nat} (l : List α) (idx : α → Nat) (f : α → Bool) {i : Nat} (inside : i < w) :
    (bitsOf w l idx f).getLsbD i = l.any fun x => f x && decide (idx x = i) := by
  have fold : ∀ s : BitVec w, (l.foldl (fun s x => if f x then withBit s (idx x) else s) s).getLsbD i =
      (s.getLsbD i || l.any fun x => f x && decide (idx x = i)) := by
    induction l with
    | nil => intro s; simp
    | cons x l ih =>
      intro s
      rw [List.foldl_cons, ih, List.any_cons, ← Bool.or_assoc]
      congr 1
      cases f x with
      | false => simp
      | true =>
        rw [if_pos rfl, getLsbD_withBit, Bool.true_and]
        by_cases same : idx x = i <;> simp [same, inside]
  rw [bitsOf, fold]; simp

/-- The set of the chosen numbers below `w`, as a number. -/
theorem toNat_bitsOf_finRange (w : Nat) (f : Fin w → Bool) :
    (bitsOf w (List.finRange w) Fin.val f).toNat = bitSum ((List.finRange w).map f) := by
  refine Nat.eq_of_testBit_eq fun i => ?_
  rw [testBit_bitSum, List.getElem?_map, ← BitVec.getLsbD]
  by_cases inside : i < w
  · have known : (List.finRange w)[i]? = some ⟨i, inside⟩ := by simp [inside]
    rw [getLsbD_bitsOf _ _ _ inside, known, Option.map_some, Option.getD_some, Bool.eq_iff_iff]
    simp only [List.any_eq_true, List.mem_finRange, true_and, Bool.and_eq_true, decide_eq_true_eq]
    constructor
    · rintro ⟨x, member, rfl⟩; exact member
    · exact fun member => ⟨⟨i, inside⟩, member, rfl⟩
  · have beyond : (List.finRange w)[i]? = none := by simpa using inside
    rw [BitVec.getLsbD_of_ge _ _ (Nat.le_of_not_lt inside), beyond]
    rfl

/-! ### Codes (R199) -/

theorem Prod.code_eq (x : Prod) :
    x.code = [Prod.config, .standby, .production, .hold, .stopping, .drain, .safe].idxOf x := by cases x <;> rfl

theorem causeCode_eq (c : Option Cause) : causeCode c =
    [none, some Cause.command, some .lineSilent, some .reverse, some .zeroLost, some .headBus].idxOf c := by
  cases c with
  | none => rfl
  | some c => cases c <;> rfl

theorem zeroCode_eq (z : Option ZeroCheck) : zeroCode z = [none, some ZeroCheck.clear, some .pending].idxOf z := by
  cases z with
  | none => rfl
  | some z => cases z <;> rfl

theorem startSlotCode_eq (i : Option SlotNo) : startSlotCode i = (i.map Fin.val).getD 255 := by cases i <;> rfl

theorem modeCode_eq (m : CoilMode) : modeCode m = [CoilMode.off, .onRequest, .everyRev].idxOf m := by cases m <;> rfl

theorem actionCode_eq (a : Action) : actionCode a = [Action.report, .degrade, .out].idxOf a := by cases a <;> rfl

theorem Method.code_eq (m : Method) : m.code = 1 + [Method.flow, .timed, .out].idxOf m := by cases m <;> rfl

theorem kindCode_eq (k : Option FaultKind) : kindCode k = (k.map fun k => 1 + allKinds.idxOf k).getD 0 := by
  cases k with
  | none => rfl
  | some k => cases k <;> rfl

theorem HeadState.code_eq (x : HeadState) : x.code = [HeadState.rest, .testing, .skip, .sealing, .pressurize, .waitFill,
    .fillFast, .fillFine, .settle, .waitRelief, .relief, .waitDischarge, .vent].idxOf x := by cases x <;> rfl

theorem CalPhase.code_eq (c : CalPhase) : c.code = 1 + [CalPhase.fast, .fine, .settle].idxOf c := by cases c <;> rfl

theorem AbortCause.code_eq (c : AbortCause) :
    c.code = 1 + [AbortCause.stopCal, .safe, .motion, .coil, .headWithdrawn].idxOf c := by cases c <;> rfl

theorem Slot.codes_eq (s : Slot) : s.codes = [slotCode s, opKindCode s.kind, resultCode s] := by
  cases s with
  | finished r => cases r <;> rfl
  | _ => rfl

end Sys2Proof.Machine
end

section
/-! The read requests: READ STATUS, OPERATION STATUS, READ RECIPE, READ MACHINE and READ HEAD (R77, R170, R177,
R198). -/

namespace Sys2Proof.Machine

open Sys2Proof

variable {p : Part}

/-! ### The contents of the replies (R199) -/

theorem Slot.codes_length (s : Slot) : s.codes.length = 3 := by rw [Slot.codes_eq]; rfl

theorem Part.inhibitBits_eq : p.inhibitBits =
    bitSum [p.supply.watch = .low, p.supply.record.any (·.level = .low), p.supply.freshness ≠ .fresh] :=
  flagByte_eq_bitSum _

theorem Part.silentBits_eq : p.silentBits.toNat =
    bitSum ((List.finRange 8).map fun m => p.watched m && p.modules[m].silent) :=
  toNat_bitsOf_finRange 8 _

theorem Part.statusReply_eq (heard : p.control.lineQuiet = false) : p.statusReply = p.statusContents.map byteOf := by
  unfold Part.statusReply Part.statusContents
  simp only [heard, Prod.code_eq, causeCode_eq, zeroCode_eq, startSlotCode_eq,
    Part.silentBits_eq, Part.inhibitBits_eq, flagByte_eq_bitSum, leBytes_eq_map, unsignedOf_four, Slot.codes_eq,
    Part.methodCount, List.map_append, List.map_cons, List.map_nil, List.append_assoc, List.cons_append,
    List.nil_append]
  rfl

theorem Part.statusContents_length : p.statusContents.length = 31 := by
  unfold Part.statusContents
  simp only [List.length_append, List.length_cons, List.length_nil, lowFirst_length,
    Slot.codes_length]

theorem Part.operationReply_eq : p.operationReply = p.operationContents.map byteOf := by
  have slot : ∀ (l : List Byte) (m : List Nat), l = m.map byteOf →
      [byteOf (slotCode p.slot), byteOf (opKindCode p.slot.kind), byteOf (resultCode p.slot)] ++ l =
        (p.slot.codes ++ m).map byteOf := by
    rintro l m rfl
    rw [Slot.codes_eq, List.map_append]
    rfl
  refine slot _ _ ?_
  unfold Part.slotFields
  cases p.slot with
  | finished r =>
    cases r <;> simp only [OpResult.calFields, OpResult.headSet, AbortCause.code_eq, leBytes_eq_map, List.map_append,
      List.map_cons, List.map_nil] <;> rfl
  | pendingCal c =>
    simp only [CalPhase.code_eq, leBytes_eq_map, List.map_append, List.map_cons, List.map_nil]
    rfl
  | _ => rfl

theorem Part.operationContents_length : p.operationContents.length = 30 := by
  rw [Part.operationContents, List.length_append, Slot.codes_length]
  cases p.slot with
  | finished r =>
    cases r <;> simp only [List.length_append, List.length_cons, List.length_nil, List.length_replicate,
      lowFirst_length]
  | pendingCal c => simp only [List.length_append, List.length_cons, List.length_nil, lowFirst_length]
  | _ => rfl

theorem Part.recipeReply_eq (i : SlotNo) : p.recipeReply i = (p.recipeContents i).map byteOf := by
  unfold Part.recipeReply Part.recipeContents
  rw [List.map_append, flagByte_eq_bitSum]
  refine congrArg₂ (· ++ ·) rfl ?_
  cases p.recipes[i] with
  | none => rfl
  | some sr =>
    simp only [storedRecipeBytes, recipeBytes, recipeSizes, recipeToList, recipeToFields, yesNoCode, List.zip_cons_cons,
      List.zip_nil_right, joinFields, leBytes_eq_map, lowFirst_one, List.map_append, List.map_cons, List.map_nil,
      List.append_assoc, List.cons_append, List.nil_append, List.append_nil]

theorem Part.recipeContents_length (i : SlotNo) : (p.recipeContents i).length = 28 := by
  rw [Part.recipeContents, List.length_append]
  cases p.recipes[i] with
  | none => rfl
  | some sr => simp only [List.length_append, List.length_cons, List.length_nil, lowFirst_length]

theorem Part.headReply_eq (h : HeadNo) : p.headReply h = (p.headContents h).map byteOf := by
  unfold Part.headReply Part.headContents
  simp only [flagByte_eq_bitSum, leBytes_eq_map, unsignedOf_two, Method.code_eq,
    kindCode_eq, HeadState.code_eq, deviantCount, List.map_append, List.map_cons, List.map_nil]

theorem Part.headContents_length (h : HeadNo) : (p.headContents h).length = 47 := by
  unfold Part.headContents
  simp only [List.length_append, List.length_cons, List.length_nil, lowFirst_length]

theorem machineToFields_actions (m : MachineConfig) : (machineToFields m).actions.toList =
    m.actions.toList.map fun a => [Action.report, .degrade, .out].idxOf a := by
  refine List.ext_getElem (by simp) fun i inside _ => ?_
  simp [machineToFields, actionCode_eq]

/-- The ten action selects are fields of one byte each among the others. -/
theorem joinFields_machine (sizes fields rest restSizes : List Nat) (actions : Vector Nat 10)
    (fits : sizes.length = fields.length) :
    joinFields ((sizes ++ List.replicate 10 1 ++ restSizes).zip (fields ++ actions.toList ++ rest)) =
      joinFields (sizes.zip fields) ++ actions.toList.map byteOf ++ joinFields (restSizes.zip rest) := by
  have ten : actions.toList.length = 10 := Vector.length_toList
  rw [List.zip_append (by simp [fits]), List.zip_append fits, joinFields_append, joinFields_append, ← joinFields_bytes,
    ten]

theorem machineBytes_eq (m : MachineConfig) : machineBytes m = m.contents.map byteOf := by
  have sizes : machineSizes =
      [1, 8, 2, 2, 2, 2, 2, 2, 2, 2, 2, 1, 2, 2, 2, 1, 1] ++ List.replicate 10 1 ++ [2, 1] := rfl
  rw [machineBytes, sizes, machineToList, joinFields_machine _ _ _ _ _ (by rfl), machineToFields_actions]
  unfold MachineConfig.contents
  simp only [machineToFields, List.zip_cons_cons, List.zip_nil_right, joinFields, leBytes_eq_map,
    lowFirst_one, modeCode_eq, startSlotCode_eq, List.map_append, List.map_cons, List.map_nil, List.append_assoc,
    List.cons_append, List.nil_append, List.append_nil]

theorem MachineConfig.contents_length (m : MachineConfig) : m.contents.length = 49 := by
  unfold MachineConfig.contents
  simp only [List.length_append, List.length_cons, List.length_nil, lowFirst_length,
    List.length_map, Vector.length_toList]

/-! ### The requests -/

/-- A request of the line link that its owner answers with OK and contents, changing nothing. -/
theorem Part.request_read {c : Instr} {kind : Nat} {owner : Part → Part × Answer} {bytes : List Byte}
    {contents : List Nat} (running : p.phase ≠ .inReset) (free : p.portFree .line)
    (heard : p.control.prod ≠ .config ∨ kind = 1)
    (answer : owner (p.crcPassed .line) = (p.crcPassed .line, ⟨.ok, bytes⟩)) (same : bytes = contents.map byteOf) :
    p.request c .line kind owner = (p.crcPassed .line).enqueue .line
      ⟨true, byteOf (kind + 0x80), 0 :: contents.map fun x => BitVec.ofNat 8 x⟩ := by
  rw [Part.request_served _ _ running free heard, answer, same]
  rfl

theorem exec_readStatus (s : State) : exec .readStatus s =
    .next { s with part := s.part.request .readStatus .line 0x01 takeReadStatus } := rfl
theorem exec_operationStatus (s : State) : exec .operationStatus s =
    .next { s with part := s.part.request .operationStatus .line 0x02 takeOperationStatus } := rfl
theorem exec_readMachine (s : State) : exec .readMachine s =
    .next { s with part := s.part.request .readMachine .line 0x15 takeReadMachine } := rfl
theorem exec_readRecipe (n : Nat) (s : State) : exec (.readRecipe n) s =
    .next { s with part := s.part.request (.readRecipe n) .line 0x13 (takeReadRecipe n) } := rfl
theorem exec_readHead (n : Nat) (s : State) : exec (.readHead n) s =
    .next { s with part := s.part.request (.readHead n) .line 0x19 (takeReadHead n) } := rfl

theorem takeReadRecipe_val (i : SlotNo) : takeReadRecipe i.val p = (p, ⟨.ok, p.recipeReply i⟩) := by
  rw [takeReadRecipe, slotOf_val]

theorem takeReadRecipe_of_le {n : Nat} (beyond : 8 ≤ n) : takeReadRecipe n p = refusal .range p := by
  rw [takeReadRecipe, slotOf_of_le beyond]

theorem takeReadHead_val {h : HeadNo} (fitted : p.fitted h = true) :
    takeReadHead h.val p = (p, ⟨.ok, p.headReply h⟩) := by
  rw [takeReadHead, Part.fittedHead_val fitted]

theorem takeReadHead_unknown {n : Nat} (nobody : p.fittedHead n = none) :
    takeReadHead n p = refusal .unknownHead p := by
  rw [takeReadHead, nobody]

/-- Settles O12: each owner hands back the part it was given, with the bytes of the table's numbers. -/
theorem readsChangeNothing : Obligations.ReadsChangeNothing := by
  intro s n i h
  dsimp only
  intro running free
  rw [exec_readStatus, exec_operationStatus, exec_readMachine, exec_readRecipe, exec_readRecipe, exec_readHead,
    exec_readHead]
  have heard : (s.part.crcPassed .line).control.lineQuiet = false := rfl
  refine ⟨⟨Part.statusContents_length, ?_⟩, fun other => ?_⟩
  · rw [Part.request_read running free (.inr rfl) rfl (Part.statusReply_eq heard)]
    rfl
  · have takes : s.part.takes := ⟨running, other, free⟩
    refine ⟨⟨Part.operationContents_length, ?_⟩, ⟨MachineConfig.contents_length _, ?_⟩,
      ⟨Part.recipeContents_length i, ?_⟩, fun beyond => ?_, fun fitted => ⟨Part.headContents_length h, ?_⟩,
      fun unfitted => ?_⟩
    · rw [Part.request_read running free (.inl other) rfl Part.operationReply_eq]
      rfl
    · rw [Part.request_read running free (.inl other) rfl (machineBytes_eq _)]
      rfl
    · rw [Part.request_read running free (.inl other) (takeReadRecipe_val i) (Part.recipeReply_eq i)]
      rfl
    · rw [Part.request_refused takes (takeReadRecipe_of_le beyond)]
      rfl
    · rw [Part.request_read running free (.inl other) (takeReadHead_val (p := s.part.crcPassed .line) fitted)
        (Part.headReply_eq h)]
      rfl
    · have nobody : (s.part.crcPassed .line).fittedHead n = none :=
        Part.fittedHead_of_unfitted fun g same => by rw [← same] at unfitted; exact unfitted
      rw [Part.request_refused takes (takeReadHead_unknown nobody)]
      rfl

end Sys2Proof.Machine
end

section
/-! MEASUREMENT: the judgement in its order and the corrected trim (R101 to R109). -/

namespace Sys2Proof.Machine

open Sys2Proof

variable {p : Part} {r : TrackRecord} {d : Discharged} {sr : StoredRecipe} {n volume : Nat}

/-! ### The checks (R104 to R107) -/

theorem Part.unsuitable_iff : p.unsuitable r d = true ↔
    d.verdict = .reject ∨ hasFlag d.flags .warmup = true ∨ hasFlag d.flags .meterLost = true ∨ d.used = .none ∨
      p.fitted r.head = false ∨ (p.record r.head).stored.inService = false := by
  simp [Part.unsuitable, or_assoc]

theorem Part.outOfDate_iff : p.outOfDate r d = true ↔
    p.activeRecipe = none ∨ r.slot ≠ p.control.activeSlot ∨ p.activeRecipe.map (·.revision) ≠ d.revision ∨
      (p.record r.head).trimFrom.all (olderThan r.number) = true := by
  unfold Part.outOfDate
  cases p.activeRecipe with
  | none => simp
  | some sr => cases (p.record r.head).trimFrom <;> simp [or_assoc, eq_comm (a := d.revision)]

theorem Part.judgeMeasurement_ignored (unfit : volume = 65535 ∨ p.unsuitable r d = true) :
    p.judgeMeasurement r d volume = .ignored := by
  rcases unfit with missing | unfit
  · rw [Part.judgeMeasurement, if_pos missing]
  · rw [Part.judgeMeasurement, if_pos unfit, ite_self]

section current

variable (given : volume ≠ 65535) (fit : ¬ p.unsuitable r d = true)
include given fit

theorem Part.judgeMeasurement_stale (late : p.outOfDate r d = true) : p.judgeMeasurement r d volume = .stale := by
  rw [Part.judgeMeasurement, if_neg given, if_neg fit, if_pos late]

/-- Of a suitable container measured in time the distance from its target volume decides. -/
theorem Part.judgeMeasurement_current (current : ¬ p.outOfDate r d = true) (active : p.activeRecipe = some sr) :
    p.judgeMeasurement r d volume =
      if sr.fields.gross < distance volume (d.v.getD 0) then .outlier
      else if distance volume (d.v.getD 0) ≤ sr.fields.deadband ∨ sr.fields.gain = 0 then .noChange
      else .accepted := by
  rw [Part.judgeMeasurement, if_neg given, if_neg fit, if_neg current, active]

end current

/-! ### The correction (R108, R109) -/

theorem roundInt_eight (m : Int) : roundInt m 8 = if 0 ≤ m then (m + 4) / 8 else -((-m + 4) / 8) := by
  unfold roundInt roundNat
  split <;> omega

theorem correctedTrim_eq (t : Int) (volume v gain : Nat) : correctedTrim t volume v gain =
    max (-200) (min 200 (t - (if 0 ≤ ((volume : Int) - v) * gain then (((volume : Int) - v) * gain + 4) / 8
      else -((-(((volume : Int) - v) * gain) + 4) / 8)))) := by
  rw [correctedTrim, roundInt_eight, limitInt]
  omega

theorem Part.changeTrim_track (h : HeadNo) (t : Int) : (p.changeTrim h t).track = p.track :=
  (congrArg Part.track (Part.changeTrim_offHeads h p t) :)

/-! ### The handling (R101) -/

/-- A DISCHARGED record of a container number. -/
def TrackRecord.isMeasured (n : Nat) (y : TrackRecord) : Bool := y.isDischarged && y.number == n

/-- The part without the measured record. -/
def Part.dropMeasured (n : Nat) (p : Part) : Part := { p with track := p.track.eraseP (TrackRecord.isMeasured n) }

theorem takeMeasurement_unknown (absent : ∀ y ∈ p.track, y.isMeasured n = false) :
    takeMeasurement n volume p = (p, ⟨.ok, measureReply n .unknown⟩) := by
  have missing : p.track.find? (fun y => y.isDischarged && y.number == n) = none :=
    List.find?_eq_none.mpr fun y inside => ne_true_of_eq_false (absent y inside)
  rw [takeMeasurement, missing]

section found

variable (found : p.track.find? (TrackRecord.isMeasured n) = some r) (discharged : r.result = some d)
include found discharged

theorem takeMeasurement_found : takeMeasurement n volume p =
    ((if p.judgeMeasurement r d volume = .accepted then
        p.changeTrim r.head (correctedTrim (p.record r.head).stored.t volume (d.v.getD 0)
          ((p.activeRecipe.map (·.fields.gain)).getD 0))
      else p).dropMeasured n, ⟨.ok, measureReply n (p.judgeMeasurement r d volume)⟩) := by
  have same : p.track.find? (fun y => y.isDischarged && y.number == n) = some r := found
  rw [takeMeasurement, same]
  dsimp only
  rw [discharged]
  rfl

theorem takeMeasurement_declined {code : MeasureCode} (judged : p.judgeMeasurement r d volume = code)
    (declined : code ≠ .accepted := by decide) :
    takeMeasurement n volume p = (p.dropMeasured n, ⟨.ok, measureReply n code⟩) := by
  rw [takeMeasurement_found found discharged, judged, if_neg declined]

theorem takeMeasurement_accepted (judged : p.judgeMeasurement r d volume = .accepted)
    (active : p.activeRecipe = some sr) : takeMeasurement n volume p =
      ((p.changeTrim r.head
        (correctedTrim (p.record r.head).stored.t volume (d.v.getD 0) sr.fields.gain)).dropMeasured n,
        ⟨.ok, measureReply n .accepted⟩) := by
  rw [takeMeasurement_found found discharged, judged, if_pos rfl, active]
  rfl

end found

/-! ### The request -/

theorem exec_measurement {s : State} {q : Part} {code : MeasureCode} (takes : s.part.takes .inspection)
    (judged : takeMeasurement n volume s.part = (q, ⟨.ok, measureReply n code⟩)) :
    exec (.measurement n volume) s = .next { s with
      part := q.reply .inspection 0x30 ⟨.ok, [byteOf n, byteOf (n / 256), byteOf code.code]⟩ } := by
  obtain ⟨running, other, free⟩ := takes
  have same : s.part.crcPassed .inspection = s.part := rfl
  have served := Part.request_served (.measurement n volume) (kind := 0x30) (takeMeasurement n volume) running free
    (.inl other)
  rw [same, judged] at served
  exact congrArg (fun t => Host.Outcome.next { s with part := t }) served

/-- Settles O54: the judgement's branches in their order, and the correction as the work on the head's record. -/
theorem measurementsCorrectTheTrim : Obligations.MeasurementsCorrectTheTrim := by
  intro s n volume r d sr
  dsimp only
  intro takes
  rw [← Part.unsuitable_iff, ← Part.outOfDate_iff]
  refine ⟨fun absent => exec_measurement takes (takeMeasurement_unknown absent), fun found discharged => ?_⟩
  have declined {code : MeasureCode} (judged : s.part.judgeMeasurement r d volume = code)
      (ne : code ≠ .accepted := by decide) :=
    exec_measurement takes (takeMeasurement_declined found discharged judged ne)
  refine ⟨fun unfit => declined (Part.judgeMeasurement_ignored unfit),
    fun given fit late => declined (Part.judgeMeasurement_stale given fit late), fun given fit current active => ?_⟩
  have judge := Part.judgeMeasurement_current given fit current active
  refine ⟨fun gross => declined (judge.trans (if_pos gross)),
    fun fine idle => declined (judge.trans ((if_neg fine.not_gt).trans (if_pos idle))), fun fine wide gains => ?_⟩
  have accepted : s.part.judgeMeasurement r d volume = .accepted :=
    judge.trans ((if_neg fine.not_gt).trans
      (if_neg fun idle => idle.elim wide.not_ge gains.ne'))
  rw [← correctedTrim_eq]
  have writes := Part.changeTrim_writes (h := r.head) (p := s.part)
    (correctedTrim (s.part.record r.head).stored.t volume (d.v.getD 0) sr.fields.gain)
  refine ⟨_, exec_measurement takes (takeMeasurement_accepted found discharged accepted active),
    congrArg (List.eraseP _) (Part.changeTrim_track _ _), fun g other => Part.head_of_offHead writes.off other,
    writes.context, ?_, ?_, Part.changeTrim_isLive _⟩
  · exact congrArg HeadRecord.stored writes.record
  · exact congrArg HeadRecord.trimFrom writes.record

end Sys2Proof.Machine
end

section
/-! STOP and RECOVER (R126, R156, R162). -/

namespace Sys2Proof.Machine

open Sys2Proof

variable {p : Part}

/-! ### Changes of the production state (R126, R150) -/

/-- Where tests are free already, a change of the production state begins none. -/
theorem Part.setProd_of_free_tests (free : p.control.prod.barsTests = false) (new : Prod) :
    p.setProd new = { p with control := { p.control with
      prod := new, cleanOpened := if new = .drain ∨ new = .standby then false else p.control.cleanOpened } } := by
  simp [Part.setProd, free]

/-- A change to STANDBY out of a state that bars tests begins those of the marked heads. -/
theorem Part.setProd_standby_of_barred (barred : p.control.prod.barsTests = true) : p.setProd .standby =
    Part.beginMarked { p with control := { p.control with prod := .standby, cleanOpened := false } } := by
  have leaves : (p.control.prod.barsTests && !Prod.standby.barsTests) = true := by rw [barred]; rfl
  exact if_pos leaves

/-! ### STOP (R156) -/

theorem exec_stop (s : State) : exec .stop s =
    .next { s with part := s.part.request .stop .line 0x06 takeStop } := rfl
theorem exec_recover (s : State) : exec .recover s =
    .next { s with part := s.part.request .recover .line 0x08 takeRecover } := rfl

theorem takeStop_refuses (other : p.control.prod ∉ [Prod.production, .hold]) :
    takeStop p = refusal .wrongState p := by
  unfold takeStop
  cases prod : p.control.prod with
  | production | hold => simp [prod] at other
  | config | standby | stopping | drain | safe => rfl

theorem takeStop_accepts (runs : p.control.prod ∈ [Prod.production, .hold]) : takeStop p =
    accept ((p.setHoldTimer .stopped).setProd (if p.contextCount = 0 then .standby else .stopping)) := by
  have count : (p.setHoldTimer .stopped).contextCount = p.contextCount := rfl
  rcases List.mem_pair.mp runs with prod | prod <;> simp only [takeStop, prod, count]

/-- The control behind a STOP that is accepted. -/
def Part.stopped (new : Prod) (p : Part) : Part :=
  { p with control := { p.control with
      prod := new, holdTimer := .stopped, cleanOpened := if new = .standby then false else p.control.cleanOpened } }

/-- STOP begins no test: it is a change of the control alone. -/
theorem takeStop_stopped {new : Prod} (runs : p.control.prod ∈ [Prod.production, .hold])
    (goal : (if p.contextCount = 0 then Prod.standby else .stopping) = new) : takeStop p = accept (p.stopped new) := by
  have free : (p.setHoldTimer .stopped).control.prod.barsTests = false := by
    rw [Part.setHoldTimer_prod]
    rcases List.mem_pair.mp runs with prod | prod <;> rw [prod] <;> rfl
  have drain : new ≠ .drain := by rw [← goal]; split <;> decide
  rw [takeStop_accepts runs, goal, Part.setProd_of_free_tests free]
  simp only [drain, false_or]
  rfl

/-! ### RECOVER (R162) -/

theorem Part.anyVenting_eq_false :
    p.anyVenting = false ↔ ∀ h, (p.entry h).state ≠ .relief ∧ (p.entry h).state ≠ .vent := by
  simp [Part.anyVenting, allHeads]

theorem Part.anySilent_eq_false :
    p.anySilent = false ↔ ∀ m : ModuleNo, p.watched m = true → p.modules[m].silent = false := by
  simp [Part.anySilent, allModules, Part.moduleSilent]

/-- What RECOVER waits for in SAFE: no container, no relief or vent in progress, no silent module. -/
def Part.recoverable (p : Part) : Prop :=
  p.contextCount = 0 ∧ p.anyVenting = false ∧ p.anySilent = false

/-- The control behind a RECOVER: STANDBY, with the fault record and the clean command cleared. -/
def Part.recovered (p : Part) : Part :=
  { p with control := { p.control with prod := .standby, cleanOpened := false, firstCause := none, causes := 0 } }

theorem takeRecover_refuses (cannot : p.control.prod ≠ .safe ∨ ¬ p.recoverable) :
    takeRecover p = refusal .wrongState p := by
  unfold takeRecover
  split
  · rfl
  · next safe =>
    split
    · rfl
    · next bare =>
      split
      · rfl
      · next quiet =>
        have silent : p.anySilent = true := by
          by_contra answering
          exact cannot.resolve_left safe
            ⟨not_not.mp bare, Bool.eq_false_iff.mpr quiet, Bool.eq_false_iff.mpr answering⟩
        rw [if_pos silent]

theorem takeRecover_accepts (safe : p.control.prod = .safe) (clear : p.recoverable) :
    takeRecover p = accept p.recovered.beginMarked := by
  obtain ⟨bare, quiet, answering⟩ := clear
  have barred : p.control.prod.barsTests = true := by rw [safe]; rfl
  have enters := Part.setProd_standby_of_barred
    (p := { p with control := { p.control with firstCause := none, causes := 0 } }) barred
  rw [takeRecover, if_neg (not_not_intro safe), if_neg (not_not_intro bare), quiet, answering, enters]
  rfl

/-- Settles O45: each request by its owner's checks in order, and the tests of RECOVER as one pass over the heads. -/
theorem stopAndRecover : Obligations.StopAndRecover := by
  intro s
  dsimp only
  intro takes
  rw [exec_stop, exec_recover]
  have bare : s.part.contextCount = 0 ↔ ∀ h, s.part.context h = none := Part.contextCount_eq_zero
  refine ⟨fun other => ?_, fun runs none_ => ?_, fun runs some_ => ?_, fun cannot => ?_, fun safe none_ quiet => ?_⟩
  · rw [Part.request_refused takes (takeStop_refuses (p := s.part.crcPassed .line) other)]
  · rw [Part.request_accepted (change := Part.stopped .standby) takes
      (takeStop_stopped (p := s.part.crcPassed .line) runs (if_pos (bare.mpr none_)))]
    rfl
  · rw [Part.request_accepted (change := Part.stopped .stopping) takes
      (takeStop_stopped (p := s.part.crcPassed .line) runs (if_neg (mt bare.mp some_)))]
    rfl
  · refine congrArg (fun q => Host.Outcome.next { s with part := q }) ?_
    refine Part.request_refused takes (takeRecover_refuses (p := s.part.crcPassed .line) (cannot.imp_right ?_))
    rintro waits ⟨clear, venting, silent⟩
    exact waits.elim (· (bare.mp clear))
      (· ⟨Part.anyVenting_eq_false.mp venting, Part.anySilent_eq_false.mp silent⟩)
  · have clear : (s.part.crcPassed .line).recoverable :=
      ⟨bare.mpr none_, Part.anyVenting_eq_false.mpr quiet.1, Part.anySilent_eq_false.mpr quiet.2⟩
    rw [Part.request_answered takes (takeRecover_accepts (p := s.part.crcPassed .line) safe clear)]
    refine ⟨_, rfl, Part.beginMarked_withHeads s.part.heads, fun h => ?_⟩
    rw [Part.beginMarked_head rfl, ite_and]
    rfl

end Sys2Proof.Machine
end

section
/-! TEST COILS (R128, R129). -/

namespace Sys2Proof.Machine

open Sys2Proof

variable {h : HeadNo} {p : Part}

theorem Prod.barsTests_iff {x : Prod} : x.barsTests = true ↔ x ∈ [Prod.config, .drain, .safe] := by
  cases x <;> decide

theorem Part.anyMark_iff : p.anyMark = true ↔ ∃ h, p.fitted h = true ∧ (p.diag h).mark = true := by
  simp [Part.anyMark, allHeads]

/-! ### Marks (R128) -/

/-- TEST COILS at one head: a head in service is marked, and its test begins in REST. -/
def Head.tested (now : Nat) (x : Head) : Head :=
  if x.record.stored.inService then { x with
    diag := { x.diag with mark := true }
    entry := if x.entry.state = .rest then
      { x.entry with state := .testing, timer := .running (now + 20), reports := noReports } else x.entry }
  else x

theorem Part.markHead_of_idle (idle : (p.record h).stored.inService = false) : p.markHead h = p :=
  if_neg (Bool.eq_false_iff.mp idle)

theorem Part.markHead_head : (p.markHead h).head h = (p.head h).tested p.now := by
  have marked : (p.modDiag h fun d => { d with mark := true }).head h =
      { p.head h with diag := { p.diag h with mark := true } } := by
    rw [Part.modDiag, Part.head_modHead, if_pos rfl]; rfl
  have record : (p.head h).record = p.record h := rfl
  have entry : (p.head h).entry = p.entry h := rfl
  unfold Part.markHead Head.tested
  dsimp only
  rw [Part.entry_modDiag, record, entry]
  split
  · split
    · rw [Part.beginTest, Part.modEntry, Part.head_modHead, if_pos rfl, marked]; rfl
    · rw [marked]; rfl
  · rfl

theorem Part.markHead_offHead : (p.markHead h).offHead h = p.offHead h := by
  have marked := Part.modHead_offHead h (fun x => { x with diag := { x.diag with mark := true } }) p
  unfold Part.markHead; split
  · dsimp only; split
    · exact (Part.modEntry_offHead h _ _).trans marked
    · exact marked
  · rfl

theorem Part.markHead_withHeads (hs : Vector Head 64) : (p.markHead h).withHeads hs = p.withHeads hs := by
  unfold Part.markHead; split
  · dsimp only; split <;> rfl
  · rfl

/-- The part with TEST COILS pending, before any head is marked. -/
def Part.testPending (p : Part) : Part := { p with slot := .pendingTest, coilTest := .running }

theorem forFitted_markHead_head (p : Part) (g : HeadNo) : (forFitted Part.markHead p).head g =
    if p.fitted g = true then (p.head g).tested p.now else p.head g := by
  obtain ⟨q, head, offs, folded⟩ := forFitted_head (fun _ _ => Part.markHead_offHead) p g
  have now : q.now = p.now := by have view := congrArg Part.now offs; exact view
  rw [folded, Part.markHead_head, head, now]

/-- A head that serves carries a mark behind the pass, and so TEST COILS does not end (R129). -/
theorem Part.checkTestCoils_of_served (fitted : p.fitted h = true) (serves : (p.record h).stored.inService = true) :
    (forFitted Part.markHead p).checkTestCoils = forFitted Part.markHead p := by
  have head := forFitted_markHead_head p h
  rw [if_pos fitted, Head.tested, if_pos (by exact serves)] at head
  have offs : (forFitted Part.markHead p).offHeads = p.offHeads :=
    forFitted_view Part.offHeads _ (fun g q => Part.markHead_offHeads g q) p
  have fits : (forFitted Part.markHead p).fitted h = p.fitted h := by
    have view := congrArg (fun q : Part => q.machine.fitted.getLsbD h) offs; exact view
  have marked : (forFitted Part.markHead p).anyMark = true :=
    Part.anyMark_iff.mpr ⟨h, fits.trans fitted, congrArg (·.diag.mark) head⟩
  exact if_neg (by simp [marked])

theorem forFitted_markHead_of_idle (idle : ∀ g, p.fitted g = true → (p.record g).stored.inService = false) :
    forFitted Part.markHead p = p :=
  forEach_of_idle fun g mem => Part.markHead_of_idle (idle g ((Part.mem_fittedHeads p g).mp mem))

/-- With no mark TEST COILS ends at once (R129). -/
theorem Part.testPending_ends (unmarked : ∀ g, (p.diag g).mark = false) : p.testPending.checkTestCoils =
    { p with slot := .finished (.testDone p.coilLiveHeads), coilTest := .idle } := by
  have none_ : p.testPending.anyMark = false := by
    rw [Bool.eq_false_iff, Ne, Part.anyMark_iff]
    rintro ⟨g, -, mark⟩
    exact Bool.eq_false_iff.mp (unmarked g) mark
  refine (if_pos ⟨rfl, none_⟩).trans ?_
  rw [Part.endTestCoils, Part.finish, if_pos ⟨rfl, rfl⟩]
  rfl

/-! ### The request -/

theorem exec_testCoils (s : State) : exec .testCoils s =
    .next { s with part := s.part.request .testCoils .line 0x20 takeTestCoils } := rfl

/-- Tests are barred by the production state or by the mode (R128). -/
abbrev Part.testsBarred (p : Part) : Prop :=
  p.control.prod ∈ [Prod.config, .drain, .safe] ∨ p.machine.mode = .off

theorem Part.testsBarred_iff :
    (p.control.prod.barsTests || p.machine.mode == .off) = true ↔ p.testsBarred := by
  rw [Bool.or_eq_true, Prod.barsTests_iff, beq_iff_eq]

theorem takeTestCoils_barred (barred : p.testsBarred) : takeTestCoils p = refusal .wrongState p :=
  if_pos (Part.testsBarred_iff.mpr barred)

theorem takeTestCoils_busy (free : ¬ p.testsBarred) (pending : p.slot.isPending = true) :
    takeTestCoils p = refusal .busy p :=
  (if_neg (mt Part.testsBarred_iff.mp free)).trans (if_pos pending)

theorem takeTestCoils_accepts (free : ¬ p.testsBarred) (idle : p.slot.isPending = false) :
    takeTestCoils p = accept (forFitted Part.markHead p.testPending).checkTestCoils :=
  (if_neg (mt Part.testsBarred_iff.mp free)).trans (if_neg (Bool.eq_false_iff.mp idle))

end Sys2Proof.Machine
end

section
/-! A new N: every window cut to its newest entries and RATE_DEVIATION evaluated (R124, R125). -/

namespace Sys2Proof.Machine

open Sys2Proof

variable {h : HeadNo} {p q : Part} {old : MachineConfig}

/-! ### The cut at one head -/

/-- The newest entries of a head's window, as many as N (R125). -/
def Part.newest (p : Part) (h : HeadNo) : List Bool := windowNewest p.machine.window (p.diag h).window

/-- More than half of N of the newest entries are deviant (R124). -/
abbrev Part.cutDeviates (p : Part) (h : HeadNo) : Prop := p.machine.window < 2 * ((p.newest h).filter id).length

/-- The record behind a change of N: RATE_DEVIATION is detected where the window deviates. -/
def Part.cutRung (old : MachineConfig) (h : HeadNo) (p : Part) : HeadRecord :=
  if p.machine.window ≠ old.window ∧ p.cutDeviates h then p.rungAfter h .rateDeviation else p.record h

/-- The change of N moves the head to TIMED, which empties its window (R123). -/
def Part.cutEmpties (old : MachineConfig) (h : HeadNo) (p : Part) : Bool :=
  decide ((p.cutRung old h).method = .timed ∧ (p.record h).method ≠ .timed)

/-- The kinds live behind a change of N. -/
def Part.cutLive (old : MachineConfig) (h : HeadNo) (p : Part) (k : FaultKind) : Bool :=
  if p.machine.window ≠ old.window ∧ k = .rateDeviation then decide (p.cutDeviates h) && !p.cutEmpties old h
  else (p.diag h).isLive k

/-- What a change of N leaves of the table of a fitted head. -/
structure Part.Cut (old : MachineConfig) (h : HeadNo) (p q : Part) : Prop where
  record : q.record h = p.cutRung old h
  live : ∀ k, (q.diag h).isLive k = p.cutLive old h k
  held : p.machine.window ≠ old.window → p.cutDeviates h → (p.diag h).isLive .rateDeviation = false →
    (q.diag h).isHeld .rateDeviation = true
  window : p.machine.window ≠ old.window → (q.diag h).window = if p.cutEmpties old h then [] else p.newest h

theorem Part.Cut.of_head {r : Part} (cut : Part.Cut old h p q) (head : r.head h = q.head h) : Part.Cut old h p r := by
  have record : r.record h = q.record h := congrArg Head.record head
  have diag : r.diag h = q.diag h := congrArg Head.diag head
  obtain ⟨rung, live, held, window⟩ := cut
  constructor <;> simpa only [record, diag]

theorem Part.cutRung_rest : (p.cutRung old h).SameRest (p.record h) := by
  unfold Part.cutRung; split
  · exact Part.rungAfter_rest _
  · exact ⟨rfl, rfl, rfl, rfl⟩

/-- At the same N nothing is cut. -/
theorem Part.cut_of_same (same : p.machine.window = old.window) : Part.Cut old h p p :=
  ⟨(if_neg fun both => both.1 same).symm, fun _ => (if_neg fun both => both.1 same).symm,
    fun new => absurd same new, fun new => absurd same new⟩

/-! ### The evaluation of the cut window (R124) -/

/-- A head with its window cut to the newest entries. -/
def Head.cut (n : Nat) (x : Head) : Head := { x with diag := { x.diag with window := windowNewest n x.diag.window } }

/-- The part with every window cut, before RATE_DEVIATION is evaluated. -/
def Part.windowsCut (p : Part) : Part :=
  { p with heads := Vector.ofFn fun h => (p.head h).cut p.machine.window }

theorem Part.windowsCut_head (g : HeadNo) : p.windowsCut.head g = (p.head g).cut p.machine.window := by
  simp [Part.windowsCut, Part.head]

theorem Part.windowsCut_offHeads : p.windowsCut.offHeads = p.offHeads := by
  simp only [Part.windowsCut, Part.offHeads]

theorem Part.applyWindow_eq : p.applyWindow = forFitted Part.evaluateRate p.windowsCut := rfl

section evaluation

variable (machine : q.machine = p.machine) (recipe : q.activeRecipe = p.activeRecipe)
  (head : q.head h = (p.head h).cut p.machine.window)

include head

theorem Part.record_of_cut : q.record h = p.record h := by
  have view := congrArg Head.record head; exact view

theorem Part.diag_of_cut : q.diag h = { p.diag h with window := p.newest h } := by
  have view := congrArg Head.diag head; exact view

include machine

theorem Part.windowDeviant_cut : windowDeviant q.machine.window (q.diag h).window = decide (p.cutDeviates h) := by
  rw [machine, Part.diag_of_cut head]; rfl

theorem Part.evaluateRate_cut_calm (changed : p.machine.window ≠ old.window) (calm : ¬ p.cutDeviates h) :
    Part.Cut old h p (q.evaluateRate h) := by
  have record := Part.record_of_cut head
  have diag := Part.diag_of_cut head
  have test := Part.windowDeviant_cut machine head
  rw [decide_eq_false calm] at test
  obtain ⟨record', window', rate'⟩ := Part.evaluateRate_calm test
  rw [record] at record'
  rw [diag] at window'
  have rung : p.cutRung old h = p.record h := if_neg fun both => calm both.2
  have stays : p.cutEmpties old h = false := by
    rw [Part.cutEmpties, rung]; exact decide_eq_false fun both => both.2 both.1
  refine ⟨record'.trans rung.symm, fun k => ?_, fun _ deviates => absurd deviates calm, fun _ => ?_⟩
  · unfold Part.cutLive
    by_cases rate : k = .rateDeviation
    · rw [if_pos ⟨changed, rate⟩, decide_eq_false calm, rate, rate', Bool.false_and]
    · rw [if_neg fun both => rate both.2, Part.isLive_evaluateRate rate, diag]; rfl
  · rw [window', stays]; rfl

include recipe

theorem Part.evaluateRate_cut_deviant (changed : p.machine.window ≠ old.window) (deviates : p.cutDeviates h) :
    Part.Cut old h p (q.evaluateRate h) := by
  have record := Part.record_of_cut head
  have diag := Part.diag_of_cut head
  have test := Part.windowDeviant_cut machine head
  rw [decide_eq_true deviates] at test
  have rung : q.rungAfter h .rateDeviation = p.cutRung old h :=
    (Part.rungAfter_eq machine recipe record (by rw [diag]; rfl)).trans (if_pos ⟨changed, deviates⟩).symm
  obtain ⟨record', held', moves, stays⟩ := Part.evaluateRate_deviant test
  rw [rung, record] at moves stays
  rw [diag] at stays
  have window_rate : ((q.evaluateRate h).diag h).window = (if p.cutEmpties old h then [] else p.newest h) ∧
      ((q.evaluateRate h).diag h).isLive .rateDeviation = !p.cutEmpties old h := by
    unfold Part.cutEmpties
    by_cases empties : (p.cutRung old h).method = .timed ∧ (p.record h).method ≠ .timed
    · rw [decide_eq_true empties]; exact moves empties
    · rw [decide_eq_false empties]; exact stays ((Decidable.not_and_iff_not_or_not.mp empties).imp_right not_not.mp)
  obtain ⟨window', rate'⟩ := window_rate
  refine ⟨record'.trans rung, fun k => ?_, fun _ _ rises => held' (by rw [diag]; exact rises), fun _ => window'⟩
  unfold Part.cutLive
  by_cases rate : k = .rateDeviation
  · rw [if_pos ⟨changed, rate⟩, decide_eq_true deviates, rate, rate', Bool.true_and]
  · rw [if_neg fun both => rate both.2, Part.isLive_evaluateRate rate, diag]; rfl

end evaluation

/-! ### All heads (R125) -/

/-- The first step of SET DIAGNOSTICS: what a change of N does. -/
def Part.windowed (old : MachineConfig) (p : Part) : Part :=
  if old.window ≠ p.machine.window then p.applyWindow else p

theorem Part.windowed_offHeads : (p.windowed old).offHeads = p.offHeads := by
  unfold Part.windowed; split
  · exact Part.applyWindow_offHeads p
  · rfl

theorem Part.windowsCut_bodies : p.windowsCut.bodies = p.bodies := by
  funext g
  simp only [Part.bodies, Part.entry, Part.context, Part.record, Part.windowsCut_head]
  rfl

theorem Part.windowed_bodies : (p.windowed old).bodies = p.bodies := by
  unfold Part.windowed; split
  · exact (forFitted_view Part.bodies _ (fun h q => Part.bodies_of_offTable (Part.evaluateRate_offTable h q)) _).trans
      Part.windowsCut_bodies
  · rfl

theorem Part.applyWindow_head (g : HeadNo) : ∃ q : Part, q.machine = p.machine ∧ q.activeRecipe = p.activeRecipe ∧
    q.head g = (p.head g).cut p.machine.window ∧
    p.applyWindow.head g = if p.fitted g = true then (q.evaluateRate g).head g else q.head g := by
  obtain ⟨q, head, offs, folded⟩ := forFitted_head (f := Part.evaluateRate)
    (fun h q => Part.offHead_of_offTable (Part.evaluateRate_offTable h q)) p.windowsCut g
  have offs := offs.trans Part.windowsCut_offHeads
  have fits : p.windowsCut.fitted g = p.fitted g := by
    have view := congrArg (fun r : Part => r.machine.fitted.getLsbD g) (Part.windowsCut_offHeads (p := p)); exact view
  refine ⟨q, ?_, ?_, head.trans (Part.windowsCut_head g), ?_⟩
  · have view := congrArg Part.machine offs; exact view
  · have view := congrArg Part.activeRecipe offs; exact view
  · rw [Part.applyWindow_eq, folded, head, fits]

theorem Part.windowed_cut (fitted : p.fitted h = true) : Part.Cut old h p (p.windowed old) := by
  by_cases same : old.window = p.machine.window
  · exact (Part.cut_of_same same.symm).of_head (congrArg (Part.head · h) (if_neg (not_not_intro same)))
  · have windows : p.windowed old = p.applyWindow := if_pos same
    obtain ⟨q, machine, recipe, head, evaluated⟩ := Part.applyWindow_head (p := p) h
    rw [if_pos fitted] at evaluated
    rw [windows]
    by_cases deviates : p.cutDeviates h
    · exact (Part.evaluateRate_cut_deviant machine recipe head (Ne.symm same) deviates).of_head evaluated
    · exact (Part.evaluateRate_cut_calm machine head (Ne.symm same) deviates).of_head evaluated

/-- A head that is not fitted keeps its record: its window alone is cut. -/
theorem Part.windowed_record (unfitted : p.fitted h = false) : (p.windowed old).record h = p.record h := by
  unfold Part.windowed; split
  · obtain ⟨q, -, -, head, evaluated⟩ := Part.applyWindow_head (p := p) h
    rw [if_neg (Bool.eq_false_iff.mp unfitted), head] at evaluated
    have view := congrArg Head.record evaluated; exact view
  · rfl

end Sys2Proof.Machine
end

section
/-! Changed action selects: the decisions they bring (R130), and what SET DIAGNOSTICS leaves of a head. -/

namespace Sys2Proof.Machine

open Sys2Proof

variable {h : HeadNo} {p q : Part} {old : MachineConfig} {ks : List FaultKind}

/-! ### Decisions over chosen kinds -/

theorem HeadRecord.turns_offRung (m : MachineConfig) (ok : Bool) (live : FaultKind → Bool) (x : HeadRecord)
    (l : List FaultKind) (y : HeadRecord) : (l.foldl (x.turn m ok live) y).offRung = y.offRung := by
  induction l generalizing y with
  | nil => rfl
  | cons k l ih =>
    refine (ih _).trans ?_
    unfold HeadRecord.turn; split
    · exact HeadRecord.decided_offRung _ _ _ _
    · rfl

/-- Kinds that are not chosen are passed over as kinds that are not live. -/
theorem HeadRecord.decidedAll_filter (m : MachineConfig) (ok : Bool) (live chosen : FaultKind → Bool)
    (x : HeadRecord) :
    x.decidedAll m ok (fun k => live k && chosen k) = (allKinds.filter chosen).foldl (x.turn m ok live) x := by
  have turns : x.turn m ok (fun k => live k && chosen k) =
      fun y k => if chosen k = true then x.turn m ok live y k else y := by
    funext y k
    unfold HeadRecord.turn
    beta_reduce
    cases chosen_ : chosen k with
    | true => rw [Bool.and_true, if_pos rfl]
    | false => rw [Bool.and_false, Bool.false_and, if_neg (by decide), if_neg (by decide)]
  rw [HeadRecord.decidedAll_eq, List.foldl_filter, turns]

theorem HeadRecord.eq_of_onRung {x y : HeadRecord} (rung : x.OnRung y) (rest : x.offRung = y.offRung) : x = y := by
  obtain ⟨method, cause, promo⟩ := rung
  cases x; cases y
  simp_all [HeadRecord.offRung]

/-- The decisions over a list of kinds at one head: those live at their turn, out of the warm-up. -/
def Part.decideAmong (ks : List FaultKind) (h : HeadNo) (p : Part) : Part :=
  ks.foldl (fun q k => if (q.diag h).isLive k ∧ (q.record h).warm = 0 then q.decideKind h k else q) p

theorem Part.applyActions_eq : p.applyActions ks = forFitted (Part.decideAmong ks) p := rfl

theorem Part.decideAmong_offTable : (p.decideAmong ks h).offTable h = p.offTable h :=
  foldl_view (Part.offTable h) _ (fun q k => by split <;> simp) ks p

theorem Part.decideAmong_isHeld (k : FaultKind) : ((p.decideAmong ks h).diag h).isHeld k = (p.diag h).isHeld k := by
  refine foldl_view (fun q => (q.diag h).isHeld k) _ (fun q j => ?_) ks p
  split
  · have diag := congrArg Head.diag (Part.decideKind_head (h := h) (p := q) j)
    exact (congrArg (Diag.isHeld · k) diag).trans (Diag.isHeld_moved _ _ _ _)
  · rfl

theorem Part.decideAmong_of_warming (warming : (p.record h).warm ≠ 0) : p.decideAmong ks h = p := by
  induction ks with
  | nil => rfl
  | cons k ks ih =>
    have stays : (if (p.diag h).isLive k ∧ (p.record h).warm = 0 then p.decideKind h k else p) = p :=
      if_neg fun both => warming both.2
    rw [Part.decideAmong, List.foldl_cons, stays]
    exact ih

theorem Part.decideAmong_of_warm (warm : (p.record h).warm = 0) : p.decideAmong ks h =
    ks.foldl (fun q k => if (q.diag h).isLive k then q.decideKind h k else q) p := by
  induction ks generalizing p with
  | nil => rfl
  | cons k ks ih =>
    have step : (if (p.diag h).isLive k ∧ (p.record h).warm = 0 then p.decideKind h k else p) =
        if (p.diag h).isLive k then p.decideKind h k else p := by simp only [warm, and_true]
    have one : Part.Decided h p (if (p.diag h).isLive k then p.decideKind h k else p) := by
      split
      · exact Part.decideKind_decided k
      · exact Part.decided_refl
    have view := congrArg HeadRecord.warm one.record
    have warm' : ((if (p.diag h).isLive k then p.decideKind h k else p).record h).warm = 0 := Eq.trans view warm
    rw [Part.decideAmong, List.foldl_cons, step]
    exact ih warm'

theorem Part.turn_start : Part.Turn h (p.record h) (p.diag h).isLive p (p.record h) :=
  ⟨⟨rfl, rfl, rfl⟩, fun _ _ => rfl, id, fun moved => absurd moved.1 moved.2,
    fun gone was => absurd (was.symm.trans gone) (by decide), id⟩

theorem Part.record_decideAmong (chosen : FaultKind → Bool) :
    (p.decideAmong (allKinds.filter chosen) h).record h =
      if (p.record h).warm = 0 then
        (p.record h).decidedAll p.machine (p.timedOk h) fun k => (p.diag h).isLive k && chosen k
      else p.record h := by
  split
  · next warm =>
    obtain ⟨turned, decided⟩ :=
      Part.decideLive_turns (allKinds.filter chosen) (Part.turn_start (h := h) (p := p)) rfl rfl
    rw [Part.decideAmong_of_warm warm, HeadRecord.decidedAll_filter]
    exact HeadRecord.eq_of_onRung turned.rung (decided.record.trans (HeadRecord.turns_offRung _ _ _ _ _ _).symm)
  · next warming => rw [Part.decideAmong_of_warming warming]

/-! ### The fields of the request (R130) -/

/-- The action select of a kind has changed to one that decides. -/
def selectChanged (old new : MachineConfig) (k : FaultKind) : Bool :=
  actionFor new k != actionFor old k && actionFor new k != .report

theorem changedKinds_eq (old new : MachineConfig) : changedKinds old new = allKinds.filter (selectChanged old new) := by
  refine List.filter_congr fun k _ => ?_
  rw [selectChanged, Bool.eq_iff_iff]
  simp only [Bool.and_eq_true, decide_eq_true_eq, bne_iff_ne, ne_eq, @eq_comm _ (actionFor old k)]

/-- The part behind a change of N and of the action selects, before the marks go with the mode. -/
def Part.tuned (old : MachineConfig) (p : Part) : Part :=
  (p.windowed old).applyActions (changedKinds old p.machine)

theorem Part.applyDiag_eq : p.applyDiag old =
    if old.mode ≠ .off ∧ p.machine.mode = .off then (p.tuned old).removeAllMarks else p.tuned old := rfl

theorem Part.tuned_offHeads : (p.tuned old).offHeads = p.offHeads :=
  (Part.applyActions_offHeads _ _).trans Part.windowed_offHeads

theorem Part.tuned_bodies : (p.tuned old).bodies = p.bodies :=
  (forFitted_view Part.bodies (Part.decideAmong (changedKinds old p.machine))
    (fun _ _ => Part.bodies_of_offTable Part.decideAmong_offTable) _).trans Part.windowed_bodies

theorem Part.tuned_of_same_selects (same : changedKinds old p.machine = []) : p.tuned old = p.windowed old := by
  rw [Part.tuned, same]
  exact forEach_of_idle fun _ _ => rfl

/-- A fitted head behind a change of N is decided over the changed kinds. -/
theorem Part.tuned_head (g : HeadNo) : ∃ q : Part, q.offHeads = p.offHeads ∧ q.head g = (p.windowed old).head g ∧
    (p.tuned old).head g =
      if p.fitted g = true then (q.decideAmong (changedKinds old p.machine) g).head g else q.head g := by
  obtain ⟨q, head, offs, folded⟩ := forFitted_head (f := Part.decideAmong (changedKinds old p.machine))
    (fun _ _ => Part.offHead_of_offTable Part.decideAmong_offTable) (p.windowed old) g
  have fits : (p.windowed old).fitted g = p.fitted g := by
    have view := congrArg (fun r : Part => r.machine.fitted.getLsbD g) (Part.windowed_offHeads (p := p) (old := old))
    exact view
  refine ⟨q, offs.trans Part.windowed_offHeads, head, ?_⟩
  rw [Part.tuned, Part.applyActions_eq, folded, fits, head]

theorem Part.tuned_record : (p.tuned old).record h =
    if p.fitted h = false then p.record h
    else if (p.record h).warm = 0 then (p.cutRung old h).decidedAll p.machine (p.timedOk h) fun k =>
      p.cutLive old h k && selectChanged old p.machine k
    else p.cutRung old h := by
  obtain ⟨q, offs, head, tuned⟩ := Part.tuned_head (p := p) (old := old) h
  cases fitted : p.fitted h with
  | false =>
    rw [fitted, if_neg (by decide), head] at tuned
    rw [if_pos rfl, ← Part.windowed_record (old := old) fitted]
    exact congrArg Head.record tuned
  | true =>
    rw [fitted, if_pos rfl] at tuned
    obtain ⟨record, live, -, -⟩ := (Part.windowed_cut (old := old) fitted).of_head head
    have machine : q.machine = p.machine := by have view := congrArg Part.machine offs; exact view
    have recipe : q.activeRecipe = p.activeRecipe := by have view := congrArg Part.activeRecipe offs; exact view
    have rest := Part.cutRung_rest (h := h) (p := p) (old := old)
    have allowed : q.timedOk h = p.timedOk h := Part.timedOk_congr recipe (by rw [record, rest.stored])
    have decided := Part.record_decideAmong (h := h) (p := q) (selectChanged old p.machine)
    rw [← changedKinds_eq, record, machine, allowed, rest.warm, funext live] at decided
    rw [if_neg (by decide), ← decided]
    exact congrArg Head.record tuned

theorem Part.tuned_held (fitted : p.fitted h = true) (changed : p.machine.window ≠ old.window)
    (deviates : p.cutDeviates h) (rises : (p.diag h).isLive .rateDeviation = false) :
    ((p.tuned old).diag h).isHeld .rateDeviation = true := by
  obtain ⟨q, -, head, tuned⟩ := Part.tuned_head (p := p) (old := old) h
  have cut := (Part.windowed_cut (old := old) fitted).of_head head
  rw [if_pos fitted] at tuned
  have diag : (p.tuned old).diag h = (q.decideAmong (changedKinds old p.machine) h).diag h := congrArg Head.diag tuned
  rw [diag, Part.decideAmong_isHeld]
  exact cut.held changed deviates rises

theorem Part.tuned_stored : ((p.tuned old).record h).stored = (p.record h).stored := by
  have rest := (Part.cutRung_rest (h := h) (p := p) (old := old)).stored
  rw [Part.tuned_record]
  split
  · rfl
  · split
    · refine Eq.trans ?_ rest
      have view := congrArg HeadRecord.stored (HeadRecord.turns_offRung p.machine (p.timedOk h)
        (fun k => p.cutLive old h k && selectChanged old p.machine k) (p.cutRung old h) allKinds (p.cutRung old h))
      exact view
    · exact rest

/-! ### The marks (R127) -/

theorem Part.applyDiag_head (g : HeadNo) : (p.applyDiag old).head g =
    if old.mode ≠ .off ∧ p.machine.mode = .off then ((p.tuned old).head g).unmarked else (p.tuned old).head g := by
  rw [Part.applyDiag_eq]; split
  · exact Part.removeAllMarks_head g
  · rfl

/-- Of a head the removal of the marks takes the mark alone. -/
theorem Part.applyDiag_marks (g : HeadNo) : ∃ mark : Bool, (p.applyDiag old).head g =
    { (p.tuned old).head g with diag := { (p.tuned old).diag g with mark := mark } } := by
  rw [Part.applyDiag_head]; split
  · exact ⟨false, rfl⟩
  · exact ⟨((p.tuned old).diag g).mark, rfl⟩

theorem Part.applyDiag_machine : (p.applyDiag old).machine = p.machine := by
  have view := congrArg Part.machine (Part.applyDiag_offWork p old); exact view

/-- At the same N and the same action selects only the marks can go. -/
theorem Part.applyDiag_heads (window : p.machine.window = old.window) (selects : changedKinds old p.machine = []) :
    (p.applyDiag old).heads =
      if old.mode ≠ .off ∧ p.machine.mode = .off then p.heads.map Head.unmarked else p.heads := by
  have same : p.tuned old = p :=
    (Part.tuned_of_same_selects selects).trans (if_neg (not_not_intro window.symm))
  have heads : ∀ g, (p.applyDiag old).head g = _ := Part.applyDiag_head
  rw [same] at heads
  refine Vector.ext fun i lt => ?_
  refine (heads ⟨i, lt⟩).trans ?_
  split
  · exact (Vector.getElem_map _ _).symm
  · rfl

end Sys2Proof.Machine
end

section
/-! SET DIAGNOSTICS, and the statement about it and about TEST COILS. -/

namespace Sys2Proof.Machine

open Sys2Proof

variable {p : Part} {f : DiagFields}

/-! ### The fields of the request (R130) -/

theorem exec_setDiagnostics (f : DiagFields) (s : State) : exec (.setDiagnostics f) s =
    .next { s with part := s.part.request (.setDiagnostics f) .line 0x1D (takeSetDiagnostics f) } := rfl

/-- The part with the fields of the request written, before what they change is done. -/
def Part.setFields (f : DiagFields) (p : Part) : Part := { p with machine := machineWithDiag f p.machine }

theorem takeSetDiagnostics_outOfRange (bad : diagFieldsOk f = false) :
    takeSetDiagnostics f p = refusal .range p := if_pos bad

theorem takeSetDiagnostics_refuses (good : diagFieldsOk f = true)
    (smaller : f.window.getD p.machine.window < p.machine.window) (other : p.control.prod ≠ .standby) :
    takeSetDiagnostics f p = refusal .wrongState p :=
  (if_neg (by rw [good]; decide)).trans (if_pos ⟨smaller, other⟩)

theorem takeSetDiagnostics_accepts (good : diagFieldsOk f = true)
    (may : p.machine.window ≤ f.window.getD p.machine.window ∨ p.control.prod = .standby) :
    takeSetDiagnostics f p = accept ((p.setFields f).applyDiag p.machine) :=
  (if_neg (by rw [good]; decide)).trans (if_neg fun both => may.elim both.1.not_ge both.2)

/-- A request without action selects changes none. -/
theorem changedKinds_of_no_selects (m : MachineConfig) (none_ : ∀ o : Fin 10, f.actions[o] = none) :
    changedKinds m (machineWithDiag f m) = [] := by
  have same : ∀ k, actionFor (machineWithDiag f m) k = actionFor m k := fun k => by
    have select := none_ k.idx
    simp only [Fin.getElem_fin] at select
    simp only [actionFor, machineWithDiag, Fin.getElem_fin, Vector.getElem_ofFn, select]
    rfl
  exact List.filter_eq_nil_iff.mpr fun k _ => by simp [same k]

/-! ### The heads behind the request -/

theorem Part.applyDiag_bodies (old : MachineConfig) (h : HeadNo) : (p.applyDiag old).entry h = p.entry h ∧
    (p.applyDiag old).context h = p.context h := by
  obtain ⟨mark, head⟩ := Part.applyDiag_marks (p := p) (old := old) h
  have body := congrFun (Part.tuned_bodies (p := p) (old := old)) h
  have entry := congrArg Head.entry head
  have context := congrArg Head.context head
  exact ⟨entry.trans (congrArg Prod.fst body), context.trans (congrArg (·.2.1) body)⟩

theorem Part.applyDiag_tunedRecord (old : MachineConfig) (h : HeadNo) :
    (p.applyDiag old).record h = (p.tuned old).record h := by
  obtain ⟨mark, head⟩ := Part.applyDiag_marks (p := p) (old := old) h
  have view := congrArg Head.record head; exact view

/-- The record of a head behind the request: the cut of its window, then the decisions over the changed kinds (R125,
R130). -/
theorem Part.applyDiag_record (old : MachineConfig) (h : HeadNo) : (p.applyDiag old).record h =
    if p.fitted h = false then p.record h
    else if (p.record h).warm = 0 then (p.cutRung old h).decidedAll p.machine (p.timedOk h) fun k =>
      p.cutLive old h k && actionFor p.machine k != actionFor old k && actionFor p.machine k != .report
    else p.cutRung old h := by
  simp only [Part.applyDiag_tunedRecord, Part.tuned_record, selectChanged, Bool.and_assoc]

theorem Part.applyDiag_diag (old : MachineConfig) (h : HeadNo) : ∃ mark : Bool,
    (p.applyDiag old).diag h = { (p.tuned old).diag h with mark := mark } := by
  obtain ⟨mark, head⟩ := Part.applyDiag_marks (p := p) (old := old) h
  have view := congrArg Head.diag head; exact ⟨mark, view⟩

theorem Part.applyDiag_held {old : MachineConfig} {h : HeadNo} (fitted : p.fitted h = true)
    (changed : p.machine.window ≠ old.window) (deviates : p.cutDeviates h)
    (rises : (p.diag h).isLive .rateDeviation = false) :
    ((p.applyDiag old).diag h).isHeld .rateDeviation = true := by
  obtain ⟨mark, diag⟩ := Part.applyDiag_diag (p := p) old h
  rw [diag]
  exact Part.tuned_held fitted changed deviates rises

theorem Part.applyDiag_unmarked {old : MachineConfig} (was : old.mode ≠ .off) (off : p.machine.mode = .off)
    (h : HeadNo) : ((p.applyDiag old).diag h).mark = false := by
  have head := Part.applyDiag_head (p := p) (old := old) h
  rw [if_pos ⟨was, off⟩] at head
  exact congrArg (·.diag.mark) head

/-- Without changed selects the window and RATE_DEVIATION are those of the cut (R125). -/
theorem Part.applyDiag_window {old : MachineConfig} {h : HeadNo} (fitted : p.fitted h = true)
    (changed : p.machine.window ≠ old.window) (selects : changedKinds old p.machine = []) :
    ((p.applyDiag old).diag h).window = (if p.cutEmpties old h then [] else p.newest h) ∧
    ((p.applyDiag old).diag h).isLive .rateDeviation = (decide (p.cutDeviates h) && !p.cutEmpties old h) := by
  have cut := Part.windowed_cut (old := old) fitted
  obtain ⟨mark, diag⟩ := Part.applyDiag_diag (p := p) old h
  rw [Part.tuned_of_same_selects selects] at diag
  rw [diag]
  exact ⟨cut.window changed, (cut.live .rateDeviation).trans (if_pos ⟨changed, rfl⟩)⟩

/-- Settles O51: each request by its owner's checks in order; SET DIAGNOSTICS as the cut of the windows, the decisions
over the changed kinds and the removal of the marks, TEST COILS as one pass over the heads. -/
theorem diagnosticsAndCoilTests : Obligations.DiagnosticsAndCoilTests := by
  intro s f
  dsimp only
  intro takes
  rw [exec_setDiagnostics, exec_testCoils]
  refine ⟨fun bad => ?_, fun good smaller other => ?_, fun good may => ?_, fun barred => ?_, fun free pending => ?_,
    fun free idle served => ?_, fun free idle none_ unmarked => ?_⟩
  · rw [Part.request_refused takes (takeSetDiagnostics_outOfRange (p := s.part.crcPassed .line) bad)]
  · rw [Part.request_refused takes (takeSetDiagnostics_refuses (p := s.part.crcPassed .line) good smaller other)]
  · have accepts : takeSetDiagnostics f (s.part.crcPassed .line) =
        accept (((s.part.crcPassed .line).setFields f).applyDiag s.part.machine) := takeSetDiagnostics_accepts good may
    rw [Part.request_answered takes accepts]
    have machine : (((s.part.crcPassed .line).setFields f).applyDiag s.part.machine).machine =
        machineWithDiag f s.part.machine := Part.applyDiag_machine
    refine ⟨_, rfl, ?_, fun i => ?_, fun h => ?_, fun was off h => ?_, fun none_ selects => ?_, fun h => ?_⟩
    · exact (congrArg (fun m => { m with actions := s.part.machine.actions }) machine).trans rfl
    · refine (congrArg (·.actions[i]) machine).trans ?_
      simp only [machineWithDiag, Fin.getElem_fin, Vector.getElem_ofFn]
    · obtain ⟨entry, context⟩ := Part.applyDiag_bodies (p := (s.part.crcPassed .line).setFields f) s.part.machine h
      exact ⟨entry, context, (congrArg HeadRecord.stored (Part.applyDiag_tunedRecord _ h)).trans Part.tuned_stored⟩
    · exact Part.applyDiag_unmarked was off h
    · refine Part.applyDiag_heads ?_ (changedKinds_of_no_selects s.part.machine selects)
      exact congrArg (Option.getD · s.part.machine.window) none_
    · rw [machine]
      refine ⟨?_, fun changed fitted deviates rises => ?_, fun changed fitted selects => ?_⟩
      · exact Part.applyDiag_record (p := (s.part.crcPassed .line).setFields f) s.part.machine h
      · exact Part.applyDiag_held (p := (s.part.crcPassed .line).setFields f) (old := s.part.machine) fitted changed
          deviates rises
      · exact Part.applyDiag_window (p := (s.part.crcPassed .line).setFields f) (old := s.part.machine) fitted changed
          (changedKinds_of_no_selects s.part.machine selects)
  · rw [Part.request_refused takes (takeTestCoils_barred (p := s.part.crcPassed .line) barred)]
  · rw [Part.request_refused takes (takeTestCoils_busy (p := s.part.crcPassed .line) free pending)]
  · obtain ⟨h, serves⟩ := served
    obtain ⟨fitted, serves⟩ := Bool.and_eq_true_iff.mp serves
    have stays := Part.checkTestCoils_of_served (p := (s.part.crcPassed .line).testPending) fitted serves
    rw [Part.request_answered takes (takeTestCoils_accepts (p := s.part.crcPassed .line) free idle), stays]
    refine ⟨_, rfl, ?_, fun g => ?_⟩
    · exact forFitted_view (Part.withHeads s.part.heads) _ (fun h q => Part.markHead_withHeads _) _
    · rw [forFitted_markHead_head]
      simp only [Bool.and_eq_true, ite_and]
      rfl
  · have unserved : ∀ g, (s.part.crcPassed .line).testPending.fitted g = true →
        ((s.part.crcPassed .line).testPending.record g).stored.inService = false := fun g fitted =>
      (Bool.and_eq_false_iff.mp (none_ g)).resolve_left (by rw [show s.part.fitted g = true from fitted]; decide)
    have ends := Part.testPending_ends (p := s.part.crcPassed .line) unmarked
    rw [Part.request_answered takes (takeTestCoils_accepts (p := s.part.crcPassed .line) free idle),
      forFitted_markHead_of_idle unserved, ends]
    rfl

end Sys2Proof.Machine
end

section
/-! The Supply Monitor: the solubility, the pressure request, the bowl watch, and the statement about SUPPLY DATA. -/

namespace Sys2Proof.Machine

open Sys2Proof

variable {p : Part}

/-! ### The pressure request (R136, R139 to R141) -/

/-- Between two points of the table the solubility falls in proportion, and the fall is rounded down (R140). -/
theorem solubility_between {i d : Nat} (within : d < 50)
    (falls : solubilityTable.getD (i + 1) 665 ≤ solubilityTable.getD i 665) :
    solubility (50 * i + d) = solubilityTable.getD i 665 -
      (solubilityTable.getD i 665 - solubilityTable.getD (i + 1) 665) * d / 50 := by
  have point : (50 * i + d) / 50 = i := by omega
  have rest : (50 * i + d) % 50 = d := by omega
  simp only [solubility, point, rest]
  generalize solubilityTable.getD i 665 = s at falls ⊢
  generalize solubilityTable.getD (i + 1) 665 = next at falls ⊢
  have fall : ((next : Int) - s) * (d : Nat) = -(((s - next) * d : Nat) : Int) := by
    rw [Nat.cast_mul, Nat.cast_sub falls, ← neg_mul, neg_sub]
  have quotient : Int.tdiv (((next : Int) - s) * (d : Nat)) 50 = -(((s - next) * d / 50 : Nat) : Int) := by
    rw [fall, Int.neg_tdiv]; rfl
  rw [quotient]
  omega

theorem setpointOf_eq (carb tau margin : Nat) : setpointOf carb tau margin = (max 1000 (min 6000
    ((roundNat (carb * 10000) (solubility tau) : Nat) - 1013 + (margin : Int)))).toNat := by
  unfold setpointOf limitInt; omega

theorem setpointOf_cast (carb tau margin : Nat) : (setpointOf carb tau margin : Int) = max 1000 (min 6000
    ((roundNat (carb * 10000) (solubility tau) : Nat) - 1013 + (margin : Int))) := by
  rw [setpointOf_eq]; omega

/-- With no active recipe the request is 6000 (R139, R141). -/
theorem setpointOf_noRecipe : setpointOf 600 300 0 = 6000 := by decide

theorem limitSupply_eq (temperature : Int) (carbonation pressure level : Nat) :
    limitSupply temperature carbonation pressure level =
      ⟨max (-50) (min 400 temperature), min 800 carbonation, min 8000 pressure,
        if level = 1 then .ok else if level = 2 then .high else .low⟩ := by
  have limited : limitInt (-50) 400 temperature = max (-50) (min 400 temperature) := by unfold limitInt; omega
  have code : levelOf level = if level = 1 then .ok else if level = 2 then .high else .low := by
    unfold levelOf; split <;> simp_all
  rw [limitSupply, limited, code]

/-- A bit of the limited set is set where the value written is not the value received (R134, R136). -/
theorem limitedSet_bits (temperature : Int) (carbonation pressure level : Nat) :
    let set := limitedSet temperature carbonation pressure level
    set.getLsbD 0 = decide (max (-50) (min 400 temperature) ≠ temperature) ∧
      set.getLsbD 1 = decide (min 800 carbonation ≠ carbonation) ∧
      set.getLsbD 2 = decide (min 8000 pressure ≠ pressure) ∧ set.getLsbD 3 = decide (2 < level) := by
  have limited : limitInt (-50) 400 temperature = max (-50) (min 400 temperature) := by unfold limitInt; omega
  have above : ∀ hi n : Nat, hi < n ↔ min hi n ≠ n := fun hi n => by omega
  simp only [limitedSet, flagByte_eq_bitSum, BitVec.getLsbD_ofNat, testBit_bitSum, limited, above 800, above 8000]
  exact ⟨rfl, rfl, rfl, rfl⟩

/-- The table temperature of a fresh record: what the record's limits leave is limited once more (R136, R139). -/
theorem limitInt_table (temperature : Int) :
    limitInt 0 300 (max (-50) (min 400 temperature)) = max 0 (min 300 temperature) := by
  unfold limitInt; omega

theorem Part.recomputePressure_noRecipe (none_ : p.activeRecipe = none) : p.recomputePressure =
    { p with supply := { p.supply with setpoint := 6000, qualifier := .provisional } } := by
  simp only [Part.recomputePressure, none_, requestInputs, setpointOf_noRecipe]
  rfl

/-- With the record not FRESH the request is made for the recipe's own carbonation at 30.0 degrees (R138, R139). -/
theorem Part.recomputePressure_stale {sr : StoredRecipe} (active : p.activeRecipe = some sr)
    (stale : p.supply.freshness = .stale) : p.recomputePressure = { p with supply := { p.supply with
      setpoint := setpointOf sr.fields.carb 300 sr.fields.margin, qualifier := .provisional } } := by
  simp only [Part.recomputePressure, active, requestInputs, stale]
  rfl

/-- With the record FRESH the request is made for the greater carbonation at the limited temperature (R138, R139). -/
theorem Part.recomputePressure_fresh {sr : StoredRecipe} {d : SupplyRecord} (active : p.activeRecipe = some sr)
    (fresh : p.supply.freshness = .fresh) (stored : p.supply.record = some d) : p.recomputePressure =
      { p with supply := { p.supply with
        setpoint := setpointOf (max sr.fields.carb d.carbonation) (limitInt 0 300 d.temperature).toNat sr.fields.margin
        qualifier := .final } } := by
  simp only [Part.recomputePressure, active, requestInputs, fresh, stored]
  rfl

/-! ### The bowl watch (R142, R143) -/

/-- A part with another state and timer of the bowl watch. -/
def Part.setWatch (w : Watch × Timer) (p : Part) : Part :=
  { p with supply := { p.supply with watch := w.1, watchTimer := w.2 } }

/-- The state and the timer that a measured pressure gives the bowl watch (R143). -/
def Part.nextWatch (n : Nat) (p : Part) : Watch × Timer :=
  if p.activeRecipe.isNone then (p.supply.watch, p.supply.watchTimer)
  else match p.supply.watch with
    | .clear =>
      if n + 200 < p.supply.setpoint then (.timing, .running (p.now + p.machine.bowlTime))
      else (.clear, p.supply.watchTimer)
    | .timing => if n + 200 < p.supply.setpoint then (.timing, p.supply.watchTimer) else (.clear, .stopped)
    | .low => (if p.supply.setpoint ≤ n + 100 then .clear else .low, p.supply.watchTimer)

/-- The bowl watch writes its state and its timer alone. -/
theorem Part.watchBowl_eq (n : Nat) : p.watchBowl n = p.setWatch (p.nextWatch n) := by
  have same : ∀ w, p.supply.watch = w → p = p.setWatch (w, p.supply.watchTimer) := fun w watch => by
    rw [← watch]; rfl
  unfold Part.watchBowl Part.nextWatch
  split
  · rfl
  · cases watch : p.supply.watch with
    | clear =>
      dsimp only; split
      · rfl
      · exact same _ watch
    | timing =>
      dsimp only; split
      · exact same _ watch
      · rfl
    | low =>
      dsimp only; split
      · rfl
      · exact same _ watch

theorem Part.nextWatch_noRecipe (n : Nat) (none_ : p.activeRecipe = none) :
    p.nextWatch n = (p.supply.watch, p.supply.watchTimer) := by
  simp only [Part.nextWatch, none_, Option.isNone_none, if_true]

/-- The table of R143. -/
theorem Part.nextWatch_table {sr : StoredRecipe} (active : p.activeRecipe = some sr) (n : Nat) :
    let low := n + 200 < p.supply.setpoint
    (p.supply.watch = .clear → low → p.nextWatch n = (.timing, .running (p.now + p.machine.bowlTime))) ∧
    (p.supply.watch = .clear → ¬ low → p.nextWatch n = (.clear, p.supply.watchTimer)) ∧
    (p.supply.watch = .timing → low → p.nextWatch n = (.timing, p.supply.watchTimer)) ∧
    (p.supply.watch = .timing → ¬ low → p.nextWatch n = (.clear, .stopped)) ∧
    (p.supply.watch = .low → p.supply.setpoint ≤ n + 100 → p.nextWatch n = (.clear, p.supply.watchTimer)) ∧
    (p.supply.watch = .low → n + 100 < p.supply.setpoint → p.nextWatch n = (.low, p.supply.watchTimer)) := by
  simp only [Part.nextWatch, active, Option.isNone_some, Bool.false_eq_true, if_false]
  refine ⟨fun clear low => ?_, fun clear notLow => ?_, fun timing low => ?_, fun timing notLow => ?_,
    fun low high => ?_, fun low notHigh => ?_⟩
  · simp only [clear, if_pos low]
  · simp only [clear, if_neg notLow]
  · simp only [timing, if_pos low]
  · simp only [timing, if_neg notLow]
  · simp only [low, if_pos high]
  · simp only [low, if_neg (Nat.not_le.mpr notHigh)]

/-! ### SUPPLY DATA (R135, R148) -/

theorem exec_supplyData (temperature : Int) (carbonation pressure level : Nat) (s : State) :
    exec (.supplyData temperature carbonation pressure level) s =
      .next { s with
        part := s.part.request (.supplyData temperature carbonation pressure level) .supply 0x40
          (takeSupplyData temperature carbonation pressure level) } := rfl

/-- SUPPLY DATA that is taken: the owner's work on the part as it stands, for the supply link restarts no line timer. -/
theorem exec_supplyData_taken (temperature : Int) (carbonation pressure level : Nat) {s : State}
    (takes : s.part.takes .supply) :
    let t := (takeSupplyData temperature carbonation pressure level s.part).1
    exec (.supplyData temperature carbonation pressure level) s =
      .next { s with part := t.reply .supply 0x40 ⟨.ok, t.supplyReply⟩ } := by
  obtain ⟨running, configured, free⟩ := takes
  rw [exec_supplyData, Part.request_served _ _ running free (.inl configured)]
  rfl

/-- The part whose record holds the values received and whose request is made from them, before the watch looks. -/
def Part.requested (temperature : Int) (carbonation pressure level : Nat) (p : Part) : Part :=
  (p.storeSupply temperature carbonation pressure level).recomputePressure

theorem takeSupplyData_eq (temperature : Int) (carbonation pressure level : Nat) :
    let q := p.requested temperature carbonation pressure level
    (takeSupplyData temperature carbonation pressure level p).1 = q.setWatch (q.nextWatch (min 8000 pressure)) :=
  Part.watchBowl_eq _

section request

variable (temperature : Int) (carbonation pressure level : Nat)

theorem Part.requested_noRecipe (none_ : p.activeRecipe = none) :
    let u := (p.requested temperature carbonation pressure level).supply
    u.setpoint = 6000 ∧ u.qualifier = .provisional := by
  have none' : (p.storeSupply temperature carbonation pressure level).activeRecipe = none := none_
  rw [Part.requested, Part.recomputePressure_noRecipe none']
  exact ⟨rfl, rfl⟩

theorem Part.requested_of_active {sr : StoredRecipe} (active : p.activeRecipe = some sr) :
    let u := (p.requested temperature carbonation pressure level).supply
    u.setpoint = setpointOf (max sr.fields.carb (min 800 carbonation)) (max 0 (min 300 temperature)).toNat
      sr.fields.margin ∧ u.qualifier = .final := by
  have active' : (p.storeSupply temperature carbonation pressure level).activeRecipe = some sr := active
  rw [Part.requested, Part.recomputePressure_fresh active' rfl (congrArg some (limitSupply_eq _ _ _ _)),
    limitInt_table]
  exact ⟨rfl, rfl⟩

end request

/-- Settles O42: the stored values, the request recomputed from them, and the watch on the new setpoint. -/
theorem supplyDataSetsThePressureRequest : Obligations.SupplyDataSetsThePressureRequest := by
  refine ⟨fun i d point within => ?_, rfl, ?_⟩
  · have falls : ∀ i < 6, solubilityTable.getD (i + 1) 665 ≤ solubilityTable.getD i 665 := by decide
    have table : ∀ i < 7, solubilityTable.getD i 665 = [1713, 1424, 1194, 1019, 878, 759, 665].getD i 0 := by decide
    rw [solubility_between within (falls i point), table i (by omega), table (i + 1) (by omega)]
  intro s temperature carbonation pressure level
  dsimp only
  intro takes
  refine ⟨_, exec_supplyData_taken temperature carbonation pressure level takes, ?_⟩
  rw [takeSupplyData_eq]
  refine ⟨rfl, rfl, rfl, congrArg some (limitSupply_eq _ _ _ _), limitedSet_bits _ _ _ _, rfl, rfl, fun none_ => ?_,
    fun sr active => ?_⟩
  · obtain ⟨setpoint, qualifier⟩ := Part.requested_noRecipe temperature carbonation pressure level none_
    have watch := Part.nextWatch_noRecipe (p := s.part.requested temperature carbonation pressure level)
      (min 8000 pressure) none_
    rw [watch]
    exact ⟨setpoint, qualifier, rfl, rfl⟩
  · obtain ⟨setpoint, qualifier⟩ := Part.requested_of_active temperature carbonation pressure level active
    have table := Part.nextWatch_table (p := s.part.requested temperature carbonation pressure level) active
      (min 8000 pressure)
    exact ⟨(congrArg Nat.cast setpoint).trans (setpointOf_cast _ _ _), qualifier, table⟩

end Sys2Proof.Machine
end

section
/-! The timers of the Supply Monitor: supply silence, the bowl determination and the demand period. -/

namespace Sys2Proof.Machine

open Sys2Proof

variable {p : Part}

theorem exec_supplySilenceExpiry (s : State) : exec .supplySilenceExpiry s =
    .next { s with part := supplyExpiry s.part } := rfl
theorem exec_bowlDeterminationExpiry (s : State) : exec .bowlDeterminationExpiry s =
    .next { s with part := bowlExpiry s.part } := rfl
theorem exec_demandPeriodEnd (s : State) : exec .demandPeriodEnd s =
    .next { s with part := demandEnd s.part } := rfl

/-! ### Supply silence (R137, R139) -/

theorem supplyExpiry_of_stopped (stopped : p.supplyTimer = .stopped) : supplyExpiry p = p := by
  rw [supplyExpiry, stopped, Part.atExpiry]

/-- The part at the staleness of its record, before the request is made again. -/
def Part.staleAt (due : Nat) (p : Part) : Part :=
  { p.clockTo due with supply := { p.supply with freshness := .stale }, supplyTimer := .stopped }

theorem supplyExpiry_of_running {due : Nat} (running : p.supplyTimer = .running due) :
    supplyExpiry p = (p.staleAt due).recomputePressure := by
  rw [supplyExpiry, running, Part.atExpiry]; rfl

/-! ### The bowl determination (R144) -/

theorem bowlExpiry_of_stopped (stopped : p.supply.watchTimer = .stopped) : bowlExpiry p = p := by
  rw [bowlExpiry, stopped, Part.atExpiry]

theorem bowlExpiry_of_running {due : Nat} (running : p.supply.watchTimer = .running due) :
    bowlExpiry p = (p.clockTo due).setWatch (.low, .stopped) := by
  rw [bowlExpiry, running, Part.atExpiry]; rfl

/-! ### The demand period (R147) -/

theorem demandEnd_of_stopped (stopped : p.supply.demandTimer = .stopped) : demandEnd p = p := by
  rw [demandEnd, stopped]

/-- The end of the period: every count is cleared, and the demand is of the counts and meter factors as they stood. -/
theorem demandEnd_of_running {due : Nat} (running : p.supply.demandTimer = .running due) : demandEnd p =
    { p.clockTo due with
      supply := { p.supply with demand := p.periodDemand, demandTimer := .running (due + 1000) }
      heads := Vector.ofFn fun h => { p.head h with demandCount := 0 } } := by
  rw [demandEnd, running]; rfl

/-- Settles O43: each timer stopped and running, supply silence with and without an active recipe. -/
theorem supplyTimersExpire : Obligations.SupplyTimersExpire := by
  intro s due
  dsimp only
  rw [exec_supplySilenceExpiry, exec_bowlDeterminationExpiry, exec_demandPeriodEnd]
  refine ⟨fun stopped => ?_, fun running => ?_, fun stopped => ?_, fun running => ?_, fun stopped => ?_,
    fun running => ?_⟩
  · rw [supplyExpiry_of_stopped stopped]
  · rw [supplyExpiry_of_running running]
    cases recipe : s.part.activeRecipe with
    | none => rw [Part.recomputePressure_noRecipe (p := s.part.staleAt due) recipe]; rfl
    | some sr =>
      rw [Part.recomputePressure_stale (p := s.part.staleAt due) recipe rfl, setpointOf_eq]
      rfl
  · rw [bowlExpiry_of_stopped stopped]
  · rw [bowlExpiry_of_running running]; rfl
  · rw [demandEnd_of_stopped stopped]
  · rw [demandEnd_of_running running]
    refine ⟨_, rfl, rfl, fun h => ?_⟩
    simp only [Part.head, Fin.getElem_fin, Vector.getElem_ofFn]

end Sys2Proof.Machine
end

section
/-! A driver module that answers, and one that falls silent (R160). -/

namespace Sys2Proof.Machine

open Sys2Proof

variable {p : Part} {m : ModuleNo}

theorem exec_moduleStatusReport (s : State) : exec (.moduleStatusReport m) s =
    .next { s with part := moduleReport m s.part } := rfl
theorem exec_moduleSilent (s : State) : exec (.moduleSilent m) s =
    .next { s with part := moduleSilence m s.part } := rfl

/-! ### The answer -/

theorem moduleReport_of_watched (running : p.phase = .running) (watched : p.watched m = true) :
    moduleReport m p = { p with modules := p.modules.set m ⟨false, .running (p.now + 5)⟩ } := by
  have taken : p.phase ≠ .inReset := by rw [running]; decide
  rw [moduleReport, if_neg taken, Part.moduleAnswers, if_pos ⟨running, watched⟩]
  rfl

theorem moduleReport_of_unwatched (unwatched : p.watched m = false) : moduleReport m p = p := by
  have idle : p.moduleAnswers m = p := if_neg fun taken => by rw [unwatched] at taken; cases taken.2
  rw [moduleReport, idle, ite_self]

/-! ### The silence -/

/-- A module that is not watched, is silent already or has no time running cannot fall silent. -/
theorem moduleSilence_of_idle
    (idle : p.watched m = false ∨ p.modules[m].silent = true ∨ p.modules[m].timer = .stopped) :
    moduleSilence m p = p := by
  unfold moduleSilence
  split
  · next live =>
    obtain ⟨watched, answering⟩ := live
    rcases idle with unwatched | silent | stopped
    · rw [unwatched] at watched; cases watched
    · rw [silent] at answering; cases answering
    · rw [stopped, Part.atExpiry]
  · rfl

/-- The part at the time a module falls silent, before the SAFE cause. -/
def Part.fallenSilent (m : ModuleNo) (due : Nat) (p : Part) : Part :=
  { p with now := max p.now due, modules := p.modules.set m ⟨true, .stopped⟩ }

/-- The end of the 5 ms of a watched module is the cause HEAD_BUS. -/
theorem moduleSilence_due {due : Nat} (watched : p.watched m = true) (runs : p.modules[m] = ⟨false, .running due⟩) :
    moduleSilence m p = (p.fallenSilent m due).raiseSafe .headBus := by
  have live : p.watched m = true ∧ p.modules[m].silent = false := ⟨watched, by rw [runs]⟩
  rw [moduleSilence, if_pos live, runs, Part.atExpiry]
  rfl

theorem Part.raiseSafe_of_config (config : p.control.prod = .config) (cause : Cause) : p.raiseSafe cause = p := by
  rw [Part.raiseSafe, config]

theorem Part.raiseSafe_of_safe (safe : p.control.prod = .safe) (cause : Cause) : p.raiseSafe cause =
    { p with control := { p.control with causes := addCause p.control.causes cause } } := by
  rw [Part.raiseSafe, safe]

/-- Settles O36: the answer and the silence of a module, the silence by the three ways of a SAFE cause. -/
theorem modulesAnswerOrFallSilent : Obligations.ModulesAnswerOrFallSilent := by
  intro s m due
  dsimp only
  rw [exec_moduleStatusReport, exec_moduleSilent]
  refine ⟨fun running watched => ?_, fun unwatched => ⟨?_, ?_⟩, fun idle => ?_, fun watched runs => ?_⟩
  · rw [moduleReport_of_watched running watched]
  · rw [moduleReport_of_unwatched unwatched]
  · rw [moduleSilence_of_idle (.inl unwatched)]
  · rw [moduleSilence_of_idle (.inr idle)]
  · rw [moduleSilence_due watched runs]
    refine ⟨fun config => ?_, fun safe => ?_, fun other => ?_⟩
    · rw [Part.raiseSafe_of_config (p := s.part.fallenSilent m due) config]; rfl
    · rw [Part.raiseSafe_of_safe (p := s.part.fallenSilent m due) safe]; rfl
    · have enters := (Prod.entersSafe_iff s.part.control.prod).mpr other
      exact ⟨_, rfl, Part.modules_of_offCycle (Part.raiseSafe_offCycle _ _),
        Part.raiseSafe_control (p := s.part.fallenSilent m due) enters .headBus⟩

end Sys2Proof.Machine
end

section
/-! The fault record with SAFE, the hold-limit timer with HOLD, the clean command with DRAIN: what the invariant reads of
the State Controller, and the changes of the production state that keep it. -/

namespace Sys2Proof.Machine

open Sys2Proof

variable {p q : Part}

/-! ### What the invariant reads -/

/-- The production state, the machine fault record, the hold-limit timer and the clean command. -/
def Part.mode (p : Part) : Prod × Option Cause × BitVec 5 × Timer × Bool :=
  (p.control.prod, p.control.firstCause, p.control.causes, p.control.holdTimer, p.control.cleanOpened)

namespace Part.FaultRecordFits

variable (fits : p.FaultRecordFits)

include fits

theorem of_mode (e : q.mode = p.mode) : q.FaultRecordFits := by
  simp only [Part.mode, Prod.mk.injEq] at e
  obtain ⟨prod, first, causes, timer, clean⟩ := e
  simpa only [Part.FaultRecordFits, prod, first, causes, timer, clean] using fits

theorem of_control (e : q.control = p.control) : q.FaultRecordFits := fits.of_mode (by simp only [Part.mode, e])

theorem of_offWork (e : q.offWork = p.offWork) : q.FaultRecordFits := fits.of_control (Part.control_of_offWork e)

theorem of_offHeads (e : q.offHeads = p.offHeads) : q.FaultRecordFits := fits.of_control (Part.control_of_offHeads e)

theorem ite {b : Prop} [Decidable b] (other : q.FaultRecordFits) : (if b then p else q).FaultRecordFits := by
  split <;> assumption

/-- Out of SAFE the fault record is empty. -/
theorem noCause (other : p.control.prod ≠ .safe) : p.control.firstCause = none ∧ p.control.causes = 0 := by
  obtain ⟨record, -, -⟩ := fits
  split at record
  · next first => exact ⟨first, record.2⟩
  · exact absurd record.1 other

theorem timerStopped (other : p.control.prod ≠ .hold) : p.control.holdTimer = .stopped := by
  obtain ⟨-, timer, -⟩ := fits
  exact not_not.mp (mt timer other)

theorem cleanClosed (other : p.control.prod ≠ .drain) : p.control.cleanOpened = false := by
  obtain ⟨-, -, clean⟩ := fits
  exact Bool.eq_false_iff.mpr (mt clean other)

end Part.FaultRecordFits

/-- In SAFE the invariant asks for a first cause that is among the causes. -/
theorem Part.faultRecordFits_of_safe {c : Cause} (safe : p.control.prod = .safe) (first : p.control.firstCause = some c)
    (among : p.control.causes.getLsbD (c.code - 1) = true) (timer : p.control.holdTimer = .stopped)
    (clean : p.control.cleanOpened = false) : p.FaultRecordFits := by
  simp only [Part.FaultRecordFits, first]
  exact ⟨⟨safe, among⟩, fun runs => absurd timer runs, fun opened => by rw [clean] at opened; cases opened⟩

/-! ### Nothing of SAFE, HOLD or DRAIN left -/

/-- The State Controller holds nothing that belongs to SAFE, HOLD or DRAIN: no fault record, no hold limit running, the
clean command CLOSED. -/
structure Part.AtEase (p : Part) : Prop where
  first : p.control.firstCause = none
  causes : p.control.causes = 0
  timer : p.control.holdTimer = .stopped
  clean : p.control.cleanOpened = false

theorem Part.AtEase.fits (ease : p.AtEase) (other : p.control.prod ≠ .safe) : p.FaultRecordFits := by
  simp only [Part.FaultRecordFits, ease.first]
  exact ⟨⟨other, ease.causes⟩, fun runs => absurd ease.timer runs,
    fun opened => by rw [ease.clean] at opened; cases opened⟩

theorem Part.AtEase.of_control (ease : p.AtEase) (e : q.control = p.control) : q.AtEase := by
  obtain ⟨first, causes, timer, clean⟩ := ease
  constructor <;> rwa [e]

theorem Part.FaultRecordFits.atEase (fits : p.FaultRecordFits)
    (other : p.control.prod ∉ [Prod.safe, .hold, .drain]) : p.AtEase := by
  simp only [List.mem_cons, List.not_mem_nil, or_false, not_or] at other
  obtain ⟨safe, hold, drain⟩ := other
  exact ⟨(fits.noCause safe).1, (fits.noCause safe).2, fits.timerStopped hold, fits.cleanClosed drain⟩

theorem Part.atEase_of_blank (blank : p.control = blankControl) : p.AtEase := by
  constructor <;> rw [blank] <;> rfl

/-! ### Changes of the production state -/

theorem Part.setProd_control (p : Part) (new : Prod) : (p.setProd new).control = { p.control with
    prod := new, cleanOpened := if new = .drain ∨ new = .standby then false else p.control.cleanOpened } := by
  unfold Part.setProd
  dsimp only
  split
  · rw [Part.control_of_offHeads (Part.beginMarked_offHeads _)]
  · rfl

theorem Part.AtEase.setProd (ease : p.AtEase) (new : Prod) : (p.setProd new).AtEase := by
  obtain ⟨first, causes, timer, clean⟩ := ease
  constructor <;> rw [Part.setProd_control]
  · exact first
  · exact causes
  · exact timer
  · simp only [clean, ite_self]

theorem Part.AtEase.fits_setProd (ease : p.AtEase) {new : Prod} (other : new ≠ .safe) :
    (p.setProd new).FaultRecordFits := (ease.setProd new).fits (by rwa [Part.setProd_prod])

namespace Part.FaultRecordFits

variable (fits : p.FaultRecordFits)

include fits

/-- The hold-limit timer is set in HOLD alone, and stopped anywhere (R153 to R156). -/
theorem setHoldTimer {t : Timer} (may : t = .stopped ∨ p.control.prod = .hold) :
    (p.setHoldTimer t).FaultRecordFits := by
  obtain ⟨record, -, clean⟩ := fits
  exact ⟨record, fun runs => may.resolve_left runs, clean⟩

/-- The clean command is OPENED in DRAIN alone, and CLOSED anywhere (R163, R164). -/
theorem setClean {opened : Bool} (may : opened = false ∨ p.control.prod = .drain) :
    (p.setClean opened).FaultRecordFits := by
  obtain ⟨record, timer, -⟩ := fits
  exact ⟨record, timer, fun set => may.resolve_left (by simpa using set)⟩

end Part.FaultRecordFits

/-! ### SAFE causes (R157) -/

theorem addCause_self (s : BitVec 5) (c : Cause) : (addCause s c).getLsbD (c.code - 1) = true := by
  have inside : c.code - 1 < 5 := by cases c <;> decide
  simp [addCause, getLsbD_withBit, inside]

theorem addCause_of_mem {s : BitVec 5} {i : Nat} (among : s.getLsbD i = true) (c : Cause) :
    (addCause s c).getLsbD i = true := by
  rw [addCause, getLsbD_withBit, among, Bool.true_or]

theorem Part.enterSafe_fits (p : Part) (cause : Cause) : (p.enterSafe cause).FaultRecordFits := by
  have control := Part.enterSafe_control p cause
  apply Part.faultRecordFits_of_safe (c := cause) <;> rw [control]
  exact addCause_self 0 cause

namespace Part.FaultRecordFits

/-- In SAFE a further cause joins the causes, and the first one stays. -/
theorem joinCause (fits : p.FaultRecordFits) (cause : Cause) (safe : p.control.prod = .safe) :
    { p with control := { p.control with causes := addCause p.control.causes cause } }.FaultRecordFits := by
  obtain ⟨record, timer, clean⟩ := fits
  refine ⟨?_, timer, clean⟩
  split at record
  · exact absurd safe record.1
  · next first =>
    simp only [first]
    exact ⟨safe, addCause_of_mem record.2 cause⟩

theorem raiseSafe (fits : p.FaultRecordFits) (cause : Cause) : (p.raiseSafe cause).FaultRecordFits := by
  unfold Part.raiseSafe
  split
  · exact fits
  · next safe => exact fits.joinCause cause safe
  all_goals exact p.enterSafe_fits cause

/-! ### The vent sweep (R42, R151) -/

/-- The sweep completes in CONFIG alone. -/
theorem checkSweep (fits : p.FaultRecordFits) : p.checkSweep.FaultRecordFits := by
  unfold Part.checkSweep
  split
  · next done =>
    have config := done.1
    have ease : p.AtEase := fits.atEase (by rw [config]; decide)
    have standby := (ease.fits_setProd (new := .standby) (by decide)).of_control
      (q := { p.setProd .standby with
        lineTimer := (p.setProd .standby).startTimer (p.setProd .standby).machine.lineSilence }) rfl
    exact .ite (standby.raiseSafe .headBus) standby
  · exact fits

/-- A sweep with no head to vent completes at once. -/
theorem ventSweep (fits : p.FaultRecordFits) : p.ventSweep.FaultRecordFits :=
  checkSweep (fits.of_offHeads (forFitted_view Part.offHeads _ (fun h q => by simp) p))

end Part.FaultRecordFits

end Sys2Proof.Machine
end

section
/-! The head cycle, the Container Track and the carousel keep the fault record with SAFE, the hold-limit timer with HOLD
and the clean command with DRAIN: a discharge may end STOPPING, reverse motion and a lost zero mark are SAFE causes, and
a container counts at the State Controller. -/

namespace Sys2Proof.Machine

open Sys2Proof

variable {p : Part}

/-! ### The work at the Container Track (R94 to R99) -/

@[simp] theorem Part.ageByNumber_mode (p : Part) (n : Nat) : (p.ageByNumber n).mode = p.mode :=
  forEach_view Part.mode Part.countUninspected (fun _ _ => rfl) _ _

@[simp] theorem Part.trackAdmit_mode (p : Part) (h : HeadNo) (c : Context) : (p.trackAdmit h c).mode = p.mode := by
  unfold Part.trackAdmit
  exact (Part.ageByNumber_mode _ _).trans rfl

theorem Part.countDischarge_mode (p : Part) : p.countDischarge.mode = p.mode := rfl

theorem Part.mode_of_control {p q : Part} (e : q.control = p.control) : q.mode = p.mode := by simp only [Part.mode, e]

@[simp] theorem Part.trackDischarge_mode (p : Part) (h : HeadNo) (c : Context) :
    (p.trackDischarge h c).mode = p.mode := by
  unfold Part.trackDischarge
  dsimp only
  split
  · rfl
  · split <;> rw [Part.countDischarge_mode] <;> apply Part.mode_of_control
    · rw [Part.ageByCount_control, Part.enqueue_control]
    · rw [Part.countUninspected, Part.modRecord, Part.modHead_control, Part.enqueue_control]

theorem ageExcess_control (n : Nat) (p : Part) : (ageExcess n p).control = p.control := by
  induction n generalizing p with
  | zero => rfl
  | succ n ih => exact (ih _).trans (Part.ageByCount_control p)

namespace Part.FaultRecordFits

/-! ### Admission, discharge and the crossings (R22 to R24, R35, R48) -/

section heads

variable (fits : p.FaultRecordFits) (h : HeadNo)

include fits

/-- The last context that leaves in STOPPING takes the part to STANDBY (R156). -/
theorem removeContext : (p.removeContext h).FaultRecordFits := by
  have removed : ((p.dischargeRunaway h).modHead h fun x => { x with context := none }).FaultRecordFits :=
    (fits.of_offHeads (Part.dischargeRunaway_offHeads h p)).of_offHeads (Part.modHead_offHeads h _ _)
  unfold Part.removeContext
  dsimp only
  split
  · next last =>
    have stopping := last.1
    exact (removed.atEase (by rw [stopping]; decide)).fits_setProd (by decide)
  · exact removed

theorem completeContainer : (p.completeContainer h).FaultRecordFits := by
  have shut : ((p.shutHead h).reliefCheck h).FaultRecordFits := fits.of_offHeads (by simp)
  unfold Part.completeContainer
  dsimp only
  split
  · exact shut
  · next c _ =>
    have tracked := shut.of_mode (Part.trackDischarge_mode _ h c)
    have reported := tracked.of_offHeads (Part.dischargeReports_offHeads h _ c.flags)
    have counted := reported.of_offHeads (Part.tableOutcome_offHeads h _ c)
    exact (counted.of_offHeads (Part.recomputeAdvisory_offHeads _)).removeContext h

theorem dischargeHead : (p.dischargeHead h).FaultRecordFits :=
  (fits.completeContainer h).of_offHeads (Part.enterRest_offHeads h _)

theorem infeedFromRest : (p.infeedFromRest h).FaultRecordFits := by
  have left : (if (p.entry h).state = .testing then p.leaveTest h else p).FaultRecordFits :=
    fits.of_offHeads (by split <;> simp)
  unfold Part.infeedFromRest
  dsimp only
  generalize (if (p.entry h).state = .testing then p.leaveTest h else p) = q at left
  split
  · exact left.of_offHeads (Part.goTo_offHeads h q _)
  · exact left.of_offHeads (Part.goTo_offHeads h q _)
  · have admitted : (q.admitContainer h).FaultRecordFits :=
      (left.of_mode (Part.trackAdmit_mode q h _)).of_offHeads (Part.modHead_offHeads h _ _)
    exact admitted.ite (left.of_offHeads (Part.goTo_offHeads h q _))

theorem infeedCrossing : (p.infeedCrossing h).FaultRecordFits := by
  have ended := fits.of_offWork (Part.abortCalOn_offWork h p .motion)
  unfold Part.infeedCrossing
  dsimp only
  split
  · exact ended
  · exact ended.infeedFromRest h
  · exact ended.infeedFromRest h
  · exact ended.infeedFromRest h
  · exact (ended.dischargeHead h).infeedFromRest h

theorem dischargeCrossing : (p.dischargeCrossing h).FaultRecordFits := by
  unfold Part.dischargeCrossing
  split
  · exact fits
  · exact fits
  · exact fits
  · exact fits.ite (fits.of_offHeads (by simp))
  · exact fits.dischargeHead h

theorem crossing (b : Boundary) : (p.crossing h b).FaultRecordFits := by
  cases b with
  | infeed => exact fits.infeedCrossing h
  | press => exact fits.of_offHeads (Part.pressuriseCrossing_offHeads h p)
  | fill => exact fits.of_offHeads (Part.fillStartCrossing_offHeads h p)
  | fillend => exact fits.of_offHeads (Part.fillEndCrossing_offHeads h p)
  | relief => exact fits.of_offHeads (Part.reliefCrossing_offHeads h p)
  | dis => exact fits.dischargeCrossing h

theorem crossIfDue : (p.crossIfDue h).FaultRecordFits := by
  unfold Part.crossIfDue
  split
  · exact fits
  · exact ((fits.crossing h _).of_offHeads (Part.modHead_offHeads h _ _)).ite fits

end heads

/-! ### Steps and zero marks (R3 to R8, R12 to R17) -/

section steps

variable (fits : p.FaultRecordFits)

include fits

theorem examineAll : p.examineAll.FaultRecordFits :=
  have examined : (forEach p.crossingOrder Part.examine p).FaultRecordFits :=
    forEach_keeps (fun h _ kept => (kept.crossIfDue h).crossIfDue h) _ fits
  examined.ite fits

theorem modCarousel (f : Carousel → Carousel) : (p.modCarousel f).FaultRecordFits := fits.of_control rfl

theorem positionForward : p.positionForward.FaultRecordFits := fits.modCarousel _

omit fits in
theorem correctForward (n : Nat) {p : Part} (fits : p.FaultRecordFits) :
    (Machine.correctForward n p).FaultRecordFits := by
  induction n generalizing p with
  | zero => exact fits
  | succ n ih => exact ih fits.positionForward.examineAll

theorem noteStep (d : Direction) : (p.noteStep d).FaultRecordFits := by
  unfold Part.noteStep
  exact .ite ((fits.modCarousel _).of_offWork (Part.abortCal_offWork _ _)) (fits.modCarousel _)

theorem stepForward : p.stepForward.FaultRecordFits :=
  .ite (fits.positionForward.modCarousel _) fits.positionForward.examineAll

/-- Reverse motion in production is a SAFE cause (R6). -/
theorem stepBackward : p.stepBackward.FaultRecordFits := by
  unfold Part.stepBackward
  exact .ite (fits.modCarousel _) (.ite ((fits.modCarousel _).raiseSafe .reverse) (fits.modCarousel _))

theorem takeStep (d : Direction) : (p.takeStep d).FaultRecordFits := by
  cases d with
  | forward => exact (fits.noteStep .forward).stepForward
  | backward => exact (fits.noteStep .backward).stepBackward

theorem encoderEdge (a b infeed : Bool) : (p.encoderEdge a b infeed).FaultRecordFits := by
  have moved := fits.of_control
    (q := { p with pins := { p.pins with chanA := a, chanB := b, infeed := infeed } }) rfl
  unfold Part.encoderEdge
  dsimp only
  split
  · split
    · exact moved
    · exact moved.takeStep _
  · exact moved

/-- A second correction in a row that is not matched is a SAFE cause (R15). -/
theorem takeZeroMark : p.takeZeroMark.FaultRecordFits := by
  have corrected : ∀ c, (p.applyCorrection c).FaultRecordFits := fun c =>
    (fits.correctForward _).ite (fits.modCarousel _)
  unfold Part.takeZeroMark
  dsimp only
  split
  · exact ((fits.modCarousel _).modCarousel _).of_offHeads (Part.aimPointers_offHeads _)
  · split
    · exact (corrected _).modCarousel _
    · split
      · exact (corrected _).modCarousel _
      · exact (corrected _).raiseSafe .zeroLost

theorem zeroMark (infeed : Bool) : (p.zeroMark infeed).FaultRecordFits := by
  have moved := fits.of_control (q := { p with pins := { p.pins with infeed := infeed } }) rfl
  unfold Part.zeroMark
  exact moved.takeZeroMark.ite moved

end steps

/-! ### Reports of the heads and expiries (R28, R32, R33, R37 to R39, R42) -/

section reports

variable (fits : p.FaultRecordFits) (h : HeadNo)

include fits

theorem ventEnd : (p.ventEnd h).FaultRecordFits :=
  checkSweep (fits.of_offHeads (Part.modEntry_offHeads h p _))

/-- A coil report on the relief valve of a head in VENT may complete the sweep; elsewhere it stays with the head. -/
theorem coilReportAt (v : Valve) : (p.coilReportAt h v).FaultRecordFits := by
  have lost := fits.of_offHeads (Part.lose_offHeads h p .valveFault)
  have moved := fun f => fits.of_offHeads (Part.modEntry_offHeads h p f)
  unfold Part.coilReportAt
  dsimp only
  split
  case h_1 | h_2 | h_3 | h_4 => exact lost.ite fits
  case h_5 | h_7 | h_8 => exact .ite (moved _) fits
  case h_6 => exact .ite (moved _).checkSweep fits
  all_goals exact fits

theorem coilReport (v : Valve) (c : CoilFault) : (p.coilReport h v c).FaultRecordFits :=
  ((fits.of_offWork (Part.coilReportCal_offWork h p v)).coilReportAt h v).of_offHeads
    (Part.coilDetect_offHeads h _ c v)

theorem atExpiry {t : Timer} {handle : Part → Part} (keeps : ∀ q, q.FaultRecordFits → (handle q).FaultRecordFits) :
    (p.atExpiry t handle).FaultRecordFits := by
  cases t with
  | stopped => exact fits
  | running due => exact keeps _ (fits.of_control rfl)

theorem phaseExpiry {st : HeadState} {handle : Part → Part}
    (keeps : ∀ q, q.FaultRecordFits → (handle q).FaultRecordFits) : (p.phaseExpiry h st handle).FaultRecordFits := by
  unfold Part.phaseExpiry
  exact .ite (fits.atExpiry keeps) fits

theorem busArrival {handle : Part → Part} (keeps : ∀ q, q.FaultRecordFits → (handle q).FaultRecordFits) :
    (p.busArrival h handle).FaultRecordFits := by
  have answers := fits.of_control (Part.moduleAnswers_control (p := p) (moduleOf h))
  unfold Part.busArrival
  exact .ite fits (.ite (keeps _ answers) answers)

end reports

end Part.FaultRecordFits

end Sys2Proof.Machine
end

section
/-! The owners of the requests keep the fault record with SAFE, the hold-limit timer with HOLD and the clean command with
DRAIN. -/

namespace Sys2Proof.Machine

open Sys2Proof

variable {p : Part}

/-! ### Requests that leave the State Controller's modes alone -/

theorem Part.recipeChanged_control (p : Part) : p.recipeChanged.control = p.control :=
  Part.control_of_offHeads (p := p.recipeChanged) (q := p.recomputePressure) Part.recipeChanged_offHeads

theorem takeSelectRecipe_mode (slot : Nat) : (takeSelectRecipe slot p).1.mode = p.mode := by
  unfold takeSelectRecipe
  split
  · rfl
  · split
    · rfl
    · split
      · rfl
      · exact (Part.mode_of_control (Part.recipeChanged_control _)).trans rfl

theorem takeWriteRecipe_control (slot : Nat) (f : RecipeFields) :
    (takeWriteRecipe slot f p).1.control = p.control := by
  unfold takeWriteRecipe
  split
  · dsimp only
    split
    · rfl
    · simp only [accept_part]
      split
      · exact Part.recipeChanged_control _
      · rfl
  · rfl

theorem takeAdjustRecipe_control (f : AdjustFields) : (takeAdjustRecipe f p).1.control = p.control := by
  unfold takeAdjustRecipe
  split
  · dsimp only
    split
    · rfl
    · split
      · rfl
      · simp only [accept_part]
        split <;> rfl
  · rfl

theorem takeReadRecipe_control (slot : Nat) : (takeReadRecipe slot p).1.control = p.control := by
  unfold takeReadRecipe
  split <;> rfl

@[simp] theorem Part.writeHeadCal_offWork (h : HeadNo) (f : HeadFields) : (p.writeHeadCal h f).offWork = p.offWork := by
  unfold Part.writeHeadCal
  dsimp only
  exact Part.offWork_of_offHeads (by split <;> simp)

@[simp] theorem Part.writeHeadTrim_offWork (h : HeadNo) (t : Option Int) : (p.writeHeadTrim h t).offWork = p.offWork := by
  unfold Part.writeHeadTrim
  split
  · rfl
  · exact Part.offWork_of_offHeads (by simp)

@[simp] theorem Part.writeHeadTimed_offWork (h : HeadNo) (v : Option Bool) :
    (p.writeHeadTimed h v).offWork = p.offWork := by
  unfold Part.writeHeadTimed
  split
  · rfl
  · dsimp only
    exact Part.offWork_of_offHeads (by split <;> simp)

@[simp] theorem Part.leaveService_offWork (h : HeadNo) : (p.leaveService h).offWork = p.offWork := by
  unfold Part.leaveService
  dsimp only
  rw [Part.abortCalOn_offWork, Part.removeMark_offWork]
  exact Part.offWork_of_offHeads (by split <;> simp)

@[simp] theorem Part.enterService_offWork (h : HeadNo) : (p.enterService h).offWork = p.offWork := by
  unfold Part.enterService
  dsimp only
  exact Part.offWork_of_offHeads (by split <;> simp)

@[simp] theorem Part.writeHeadService_offWork (h : HeadNo) (v : Option Bool) :
    (p.writeHeadService h v).offWork = p.offWork := by
  unfold Part.writeHeadService
  split
  · simp
  · simp
  · rfl

theorem takeWriteHead_offWork (head : Nat) (f : HeadFields) : (takeWriteHead head f p).1.offWork = p.offWork := by
  unfold takeWriteHead
  split
  · rfl
  · split
    · simp [Part.writeHead]
    · rfl

theorem takeReadHead_control (head : Nat) : (takeReadHead head p).1.control = p.control := by
  unfold takeReadHead
  split <;> rfl

theorem takeRestoreHead_offHeads (head : Nat) : (takeRestoreHead head p).1.offHeads = p.offHeads := by
  unfold takeRestoreHead
  split
  · rfl
  · split
    · rfl
    · split <;> simp

theorem takeClearFaults_offHeads (head : Nat) : (takeClearFaults head p).1.offHeads = p.offHeads := by
  unfold takeClearFaults
  split
  · exact forFitted_view Part.offHeads _ (fun h q => Part.modDiag_offHeads h q _) p
  · split <;> simp

theorem takeClearTotals_offHeads (head : Nat) : (takeClearTotals head p).1.offHeads = p.offHeads := by
  unfold takeClearTotals
  split
  · exact forEach_view Part.offHeads _ (fun h q => Part.modRecord_offHeads h q _) _ p
  · split <;> simp

theorem takeSetDiagnostics_control (f : DiagFields) : (takeSetDiagnostics f p).1.control = p.control := by
  unfold takeSetDiagnostics
  split
  · rfl
  · dsimp only
    split
    · rfl
    · exact (Part.control_of_offWork (Part.applyDiag_offWork _ _)).trans rfl

theorem takeTestCoils_offWork : (takeTestCoils p).1.offWork = p.offWork := by
  unfold takeTestCoils
  split
  · rfl
  · split
    · rfl
    · have marked := forFitted_view Part.offHeads Part.markHead Part.markHead_offHeads
        { p with slot := .pendingTest, coilTest := .running }
      exact ((Part.checkTestCoils_offWork _).trans (Part.offWork_of_offHeads marked)).trans rfl

theorem takeCalDose_offWork (head pCal pFine : Nat) : (takeCalDose head pCal pFine p).1.offWork = p.offWork := by
  unfold takeCalDose
  split
  · rfl
  · split
    · rfl
    · repeat' split
      all_goals simp

theorem takeStopCal_offWork : (takeStopCal p).1.offWork = p.offWork := by
  unfold takeStopCal
  split
  · exact Part.abortCal_offWork p _
  · rfl

theorem takeSave_control : (takeSave p).1.control = p.control := by
  unfold takeSave
  split
  · rfl
  · split <;> rfl

theorem takeMeasurement_control (number volume : Nat) : (takeMeasurement number volume p).1.control = p.control := by
  unfold takeMeasurement
  split
  · rfl
  · split
    · rfl
    · dsimp only
      split
      · exact Part.control_of_offHeads (Part.changeTrim_offHeads _ _ _)
      · rfl

theorem Part.watchBowl_control (p : Part) (pressure : Nat) : (p.watchBowl pressure).control = p.control := by
  unfold Part.watchBowl
  split
  · rfl
  · dsimp only
    split <;> split <;> rfl

theorem takeSupplyData_control (t : Int) (c q v : Nat) : (takeSupplyData t c q v p).1.control = p.control :=
  Part.watchBowl_control _ _

/-! ### Start-up and WRITE MACHINE (R205, R208, R211) -/

theorem Part.startPeriods_control (p : Part) : p.startPeriods.control = p.control := rfl
theorem Part.startModules_control (p : Part) : p.startModules.control = p.control := rfl

/-- The start-up behind a load or a RESTART may complete the vent sweep at once. -/
theorem Part.FaultRecordFits.startUp (fits : p.FaultRecordFits) : p.startUp.FaultRecordFits := by
  have active := fits.of_mode (q := { p with control := { p.control with activeSlot := p.startSlot } }) rfl
  have requested := active.of_control (Part.recomputePressure_control _)
  have advised := requested.of_control (Part.recomputeAdvisory_control _)
  have begun := (advised.of_control (Part.startPeriods_control _)).of_control (Part.startModules_control _)
  exact begun.ventSweep

theorem Part.retrack_control (p : Part) (old : MachineConfig) : (p.retrack old).control = p.control := by
  unfold Part.retrack
  split <;> rfl

theorem Part.dropHead_control (p : Part) (h : HeadNo) : (p.dropHead h).control = p.control := by
  unfold Part.dropHead
  dsimp only
  rw [Part.modHead_control, Part.control_of_offHeads (Part.setMethod_offHeads h _ _ _),
    Part.control_of_offWork (Part.removeMark_offWork h p)]

theorem Part.refit_control (p : Part) (old new : MachineConfig) : (p.refit old new).control = p.control := by
  have dropped := fun q => forEach_view Part.control Part.dropHead (fun h r => Part.dropHead_control r h)
    (leavingHeads old new allHeads) q
  have joined := fun q => forEach_view Part.control Part.joinHead (fun _ _ => rfl)
    (joiningHeads old new allHeads) q
  unfold Part.refit
  dsimp only
  rw [Part.recomputeAdvisory_control]
  exact (ageExcess_control _ _).trans ((joined _).trans ((dropped _).trans (Part.retrack_control p old)))

theorem Part.FaultRecordFits.withdrawHead (fits : p.FaultRecordFits) (h : HeadNo) :
    (p.withdrawHead h).FaultRecordFits := by
  have completed : (if (p.context h).isSome then p.completeContainer h else p).FaultRecordFits :=
    (fits.completeContainer h).ite fits
  exact completed.of_offWork (Part.abortCalOn_offWork h _ _)

/-- The heads that leave the fitted set complete their containers before the configuration is replaced. -/
theorem Part.FaultRecordFits.writeMachine (fits : p.FaultRecordFits) (new : MachineConfig) :
    (p.writeMachine new).FaultRecordFits := by
  have withdrawn : (forEach (leavingHeads p.machine new (allHeads.map (p.firstHead + ·))) Part.withdrawHead
      p).FaultRecordFits := forEach_keeps (fun h _ kept => kept.withdrawHead h) _ fits
  rw [Part.writeMachine_eq]
  refine Part.FaultRecordFits.of_offWork ?_ (Part.applyDiag_offWork _ _)
  exact withdrawn.of_control (Part.refit_control _ _ _)

/-! ### Requests that change the production state or the clean command -/

section takes

variable (fits : p.FaultRecordFits)

include fits

theorem takeStart_fits : (takeStart p).1.FaultRecordFits := by
  unfold takeStart
  split
  · exact fits
  · next standby =>
    split
    · exact fits
    · split
      · exact fits
      · split
        · exact fits
        · next sr _ _ =>
          rw [not_not] at standby
          have ease := fits.atEase (by rw [standby]; decide)
          exact (ease.fits_setProd (new := .production) (by decide)).of_offHeads (by simp)

/-- HOLD starts the hold limit of the state it enters (R153). -/
theorem takeHold_fits : (takeHold p).1.FaultRecordFits := by
  unfold takeHold
  split
  · exact fits
  · next production =>
    rw [not_not] at production
    have ease := fits.atEase (by rw [production]; decide)
    exact (ease.fits_setProd (new := .hold) (by decide)).setHoldTimer (.inr (Part.setProd_prod p .hold))

/-- Out of HOLD or PRODUCTION the stopped timer leaves nothing that belongs to a state. -/
theorem Part.FaultRecordFits.atEase_stopped (runs : p.control.prod ∈ [Prod.production, .hold]) :
    (p.setHoldTimer .stopped).AtEase := by
  have apart : p.control.prod ≠ .safe ∧ p.control.prod ≠ .drain := by
    rcases List.mem_pair.mp runs with prod | prod <;> rw [prod] <;> decide
  obtain ⟨first, causes⟩ := fits.noCause apart.1
  exact ⟨first, causes, rfl, fits.cleanClosed apart.2⟩

theorem takeResume_fits : (takeResume p).1.FaultRecordFits := by
  unfold takeResume
  split
  · exact fits
  · next hold =>
    rw [not_not] at hold
    exact (fits.atEase_stopped (by rw [hold]; decide)).fits_setProd (by decide)

theorem takeStop_fits : (takeStop p).1.FaultRecordFits := by
  by_cases runs : p.control.prod ∈ [Prod.production, .hold]
  · rw [takeStop_accepts runs]
    exact (fits.atEase_stopped runs).fits_setProd (by split <;> decide)
  · rw [takeStop_refuses runs]
    exact fits

/-- RECOVER clears the fault record as it leaves SAFE (R162). -/
theorem takeRecover_fits : (takeRecover p).1.FaultRecordFits := by
  by_cases may : p.control.prod = .safe ∧ p.recoverable
  · obtain ⟨safe, clear⟩ := may
    have ease : p.recovered.AtEase := ⟨rfl, rfl, fits.timerStopped (by rw [safe]; decide), rfl⟩
    have standby := ease.fits (show Prod.standby ≠ .safe by decide)
    rw [takeRecover_accepts safe clear]
    exact standby.of_offHeads (Part.beginMarked_offHeads _)
  · rw [takeRecover_refuses (not_and_or.mp may)]
    exact fits

/-- RESTART is taken with the State Controller at its reset values (R173). -/
theorem takeRestart_fits : (takeRestart p).1.FaultRecordFits := by
  unfold takeRestart
  split
  · exact fits
  · split
    · exact fits
    · exact ((Part.atEase_of_blank (p := p.clearRun) rfl).fits (show Prod.config ≠ .safe by decide)).startUp

theorem takeCleanBegin_fits : (takeCleanBegin p).1.FaultRecordFits := by
  unfold takeCleanBegin
  split
  · exact fits
  · next standby =>
    split
    · exact fits
    · split
      · exact fits
      · rw [not_not] at standby
        have ease := fits.atEase (by rw [standby]; decide)
        exact (ease.of_control (Part.control_of_offHeads (Part.clearDrainTotals_offHeads p))).fits_setProd (by decide)

theorem takeCleanOpen_fits : (takeCleanOpen p).1.FaultRecordFits := by
  unfold takeCleanOpen
  split
  · exact fits
  · next drain =>
    have opened := fits.setClean (opened := true) (.inr (not_not.mp drain))
    exact opened.of_offHeads (forFitted_view Part.offHeads _ Part.openCleanAt_offHeads _)

theorem takeCleanClose_fits : (takeCleanClose p).1.FaultRecordFits := by
  unfold takeCleanClose
  split
  · exact fits
  · exact (fits.setClean (.inl rfl)).of_offHeads (by simp)

theorem takeCleanEnd_fits : (takeCleanEnd p).1.FaultRecordFits := by
  unfold takeCleanEnd
  split
  · exact fits
  · next drain =>
    rw [not_not] at drain
    obtain ⟨first, causes⟩ := fits.noCause (by rw [drain]; decide)
    have ease : (p.setClean false).AtEase := ⟨first, causes, fits.timerStopped (by rw [drain]; decide), rfl⟩
    exact (ease.of_control (Part.control_of_offHeads (by simp))).fits_setProd (by decide)

theorem takeWriteMachine_fits (f : MachineFields) : (takeWriteMachine f p).1.FaultRecordFits := by
  unfold takeWriteMachine
  split
  · exact fits
  · split
    · exact fits
    · exact fits.writeMachine _

end takes

end Sys2Proof.Machine
end

section
/-! Every step keeps the fault record with SAFE, the hold-limit timer with HOLD and the clean command with DRAIN. -/

namespace Sys2Proof.Machine

open Sys2Proof

variable {p : Part}

/-! ### Resets and the load (R204, R207, R208, R214) -/

theorem Part.fullReset_fits (p : Part) : (fullReset p).FaultRecordFits :=
  (Part.atEase_of_blank (p := fullReset p) rfl).fits (show Prod.config ≠ .safe by decide)

namespace Part.FaultRecordFits

section arrivals

variable (fits : p.FaultRecordFits)

include fits

theorem brownout (micros : Nat) : (Machine.brownout micros p).FaultRecordFits := p.fullReset_fits.ite fits

theorem fullResetEnd : (Machine.fullResetEnd p).FaultRecordFits :=
  .ite (fits.of_control (q := { p with phase := .loading }) rfl) fits

theorem loadEnd (acknowledged : Bool) : (Machine.loadEnd acknowledged p).FaultRecordFits := by
  have started : ∀ l bad, (p.setCopies l bad).startUp.FaultRecordFits := fun l bad =>
    startUp (fits.of_control (q := p.setCopies l bad) rfl)
  unfold Machine.loadEnd
  split
  · split <;> exact started _ _
  · exact fits

/-! ### The head bus, the line and the timers (R7, R154, R160, R161) -/

theorem speedSample : (Machine.speedSample p).FaultRecordFits := by
  unfold Machine.speedSample
  split
  · exact fits
  · exact fits.of_control rfl

theorem moduleReport (m : ModuleNo) : (Machine.moduleReport m p).FaultRecordFits :=
  fits.ite (fits.of_control (Part.moduleAnswers_control m))

theorem moduleSilence (m : ModuleNo) : (Machine.moduleSilence m p).FaultRecordFits :=
  .ite (fits.atExpiry fun _ kept => raiseSafe (kept.of_control (by rfl)) .headBus) fits

theorem holdLimitEnd : (Machine.holdLimitEnd p).FaultRecordFits :=
  fits.atExpiry fun _ kept => (kept.setHoldTimer (.inl rfl)).of_offHeads (by simp)

theorem lineSilenceEnd : (Machine.lineSilenceEnd p).FaultRecordFits := by
  refine fits.atExpiry fun q kept => ?_
  have quiet := kept.of_mode
    (q := { q with lineTimer := .stopped, control := { q.control with lineQuiet := true } }) rfl
  exact .ite (quiet.raiseSafe .lineSilent) quiet

theorem demandEnd : (Machine.demandEnd p).FaultRecordFits := by
  unfold Machine.demandEnd
  split
  · exact fits
  · exact fits.of_control rfl

/-! ### Doses and the Operation Slot (R55, R58, R181, R182, R213) -/

theorem openExpiry (h : HeadNo) : (p.openExpiry h).FaultRecordFits := by
  unfold Part.openExpiry
  split
  · exact fits
  · exact fits.atExpiry fun _ kept => kept.of_offHeads (by simp)

theorem silenceExpiry (h : HeadNo) : (p.silenceExpiry h).FaultRecordFits := by
  unfold Part.silenceExpiry
  split
  · exact fits
  · exact .ite (fits.atExpiry fun _ kept => kept.of_offHeads (by simp)) fits

theorem calSettleEnd : (Machine.calSettleEnd p).FaultRecordFits := by
  unfold Machine.calSettleEnd
  split
  · exact fits.atExpiry fun _ kept => kept.of_offWork (by simp)
  · exact fits

theorem calSilenceEnd : (Machine.calSilenceEnd p).FaultRecordFits := by
  unfold Machine.calSilenceEnd
  split
  · exact fits.atExpiry fun _ kept => kept.of_offWork (by simp)
  · exact fits

theorem calTimeoutEnd : (Machine.calTimeoutEnd p).FaultRecordFits := by
  unfold Machine.calTimeoutEnd
  split
  · exact fits.atExpiry fun _ kept => kept.of_offWork (by simp)
  · exact fits

theorem finish (r : OpResult) : (p.finish r).FaultRecordFits := fits.of_offWork (Part.finish_offWork p r)

theorem saveEnd (fault : Option SaveFault) : (Machine.saveEnd fault p).FaultRecordFits := by
  unfold Machine.saveEnd
  split
  · exact finish (fits.of_control (by rfl)) .saveDone
  · exact finish (fits.of_control (by rfl)) .saveFault
  · exact fits

end arrivals

/-! ### Requests and their replies (R190, R193, R194) -/

section requests

variable (fits : p.FaultRecordFits)

include fits

theorem setPort (port : Port) (s : PortState) : (p.setPort port s).FaultRecordFits := fits.of_control rfl

theorem enqueue (port : Port) (f : OutFrame) : (p.enqueue port f).FaultRecordFits :=
  fits.of_control (Part.enqueue_control p port f)

theorem reply (port : Port) (kind : Nat) (a : Answer) : (p.reply port kind a).FaultRecordFits := fits.enqueue port _

theorem crcPassed (port : Port) : (p.crcPassed port).FaultRecordFits := fits.of_mode (by simp [Part.mode])

theorem serve {port : Port} {kind : Nat} {owner : Part → Part × Answer} (kept : (owner p).1.FaultRecordFits) :
    (p.serve port kind owner).FaultRecordFits := .ite (fits.reply _ _ _) (kept.reply _ _ _)

theorem serveCommand (c : Instr) : (p.serveCommand c).FaultRecordFits := by
  cases c with
  | readStatus | operationStatus | readMachine => exact fits.serve fits
  | start => exact fits.serve (takeStart_fits fits)
  | hold => exact fits.serve (takeHold_fits fits)
  | resume => exact fits.serve (takeResume_fits fits)
  | stop => exact fits.serve (takeStop_fits fits)
  | enterSafe => exact fits.serve (fits.raiseSafe .command)
  | recover => exact fits.serve (takeRecover_fits fits)
  | restart => exact fits.serve (takeRestart_fits fits)
  | cleanBegin => exact fits.serve (takeCleanBegin_fits fits)
  | cleanOpen => exact fits.serve (takeCleanOpen_fits fits)
  | cleanClose => exact fits.serve (takeCleanClose_fits fits)
  | cleanEnd => exact fits.serve (takeCleanEnd_fits fits)
  | selectRecipe slot => exact fits.serve (fits.of_mode (takeSelectRecipe_mode slot))
  | writeRecipe slot r => exact fits.serve (fits.of_control (takeWriteRecipe_control slot r))
  | adjustRecipe f => exact fits.serve (fits.of_control (takeAdjustRecipe_control f))
  | readRecipe slot => exact fits.serve (fits.of_control (takeReadRecipe_control slot))
  | writeMachine m => exact fits.serve (takeWriteMachine_fits fits m)
  | writeHead h f => exact fits.serve (fits.of_offWork (takeWriteHead_offWork h f))
  | readHead h => exact fits.serve (fits.of_control (takeReadHead_control h))
  | restoreHead h => exact fits.serve (fits.of_offHeads (takeRestoreHead_offHeads h))
  | clearFaults h => exact fits.serve (fits.of_offHeads (takeClearFaults_offHeads h))
  | clearTotals h => exact fits.serve (fits.of_offHeads (takeClearTotals_offHeads h))
  | setDiagnostics f => exact fits.serve (fits.of_control (takeSetDiagnostics_control f))
  | testCoils => exact fits.serve (fits.of_offWork takeTestCoils_offWork)
  | calDose h n m => exact fits.serve (fits.of_offWork (takeCalDose_offWork h n m))
  | stopCal => exact fits.serve (fits.of_offWork takeStopCal_offWork)
  | save => exact fits.serve (fits.of_control takeSave_control)
  | measurement n v => exact fits.serve (fits.of_control (takeMeasurement_control n v))
  | supplyData t c q v => exact fits.serve (fits.of_control (takeSupplyData_control t c q v))
  | _ => exact fits

/-! ### Frames (R188 to R190, R195) -/

theorem arrive {port : Port} {frame : Byte × List Byte} {take : Part → Part}
    (keeps : ∀ q, q.FaultRecordFits → (take q).FaultRecordFits) : (p.arrive port frame take).FaultRecordFits := by
  have passed := fits.crcPassed port
  rcases Part.arrive_cases p port frame take with ⟨-, e⟩ | ⟨-, -, e⟩ | ⟨-, e⟩ <;> rw [e]
  · exact passed
  · exact passed.setPort port _
  · exact keeps _ passed

theorem takeFrame (port : Port) (kind : Byte) (payload : List Byte) :
    (p.takeFrame port kind payload).FaultRecordFits := by
  unfold Part.takeFrame
  split
  · exact fits.enqueue port _
  · exact fits.reply port _ _
  · exact fits.serveCommand _

theorem dropFrame (port : Port) : (p.dropFrame port).FaultRecordFits := fits.setPort port _

theorem frameByte (port : Port) (b : Byte) : (p.frameByte port b).FaultRecordFits := by
  have moved : ∀ rx, (p.setRx port rx).FaultRecordFits := fun rx => fits.setPort port _
  unfold Part.frameByte
  split
  · exact fits
  · exact moved _
  · exact .ite (moved _) (.ite (moved _) (fits.dropFrame port))
  · exact .ite (moved _) (moved _)
  · exact moved _
  · exact .ite ((fits.dropFrame port).arrive fun _ kept => kept.takeFrame port _ _) (fits.dropFrame port)

theorem byteIn (port : Port) (b : Byte) (byteError : Bool) : (Machine.byteIn port b byteError p).FaultRecordFits := by
  have outlasted : (p.outlast port).FaultRecordFits := (fits.dropFrame port).ite fits
  unfold Machine.byteIn
  exact fits.ite (.ite (.ite (outlasted.setPort port _) outlasted)
    (.ite (outlasted.dropFrame port) (outlasted.frameByte port b)))

theorem frameSentEnd (port : Port) : (Machine.frameSentEnd port p).FaultRecordFits := by
  unfold Machine.frameSentEnd
  split
  · exact fits
  · dsimp only
    split
    · exact .ite (fits.setPort port _) ((fits.setPort port _).takeFrame port _ _)
    · exact fits.setPort port _

end requests

end Part.FaultRecordFits

/-! ### Every step -/

/-- A command that is no request keeps the invariant. -/
theorem exec_arrival_fits {s : State} (fits : s.part.FaultRecordFits) {c : Instr}
    (arrival : (encodeRequest c).isSome = false) :
    ∃ q : Part, exec c s = .next { s with part := q } ∧ q.FaultRecordFits := by
  cases c with
  | powerOn | resetInput => exact ⟨_, rfl, Part.fullReset_fits _⟩
  | brownout micros => exact ⟨_, rfl, fits.brownout micros⟩
  | fullResetEnd => exact ⟨_, rfl, fits.fullResetEnd⟩
  | loadCompletion acknowledged => exact ⟨_, rfl, fits.loadEnd acknowledged⟩
  | encoderStep a b infeed => exact ⟨_, rfl, fits.encoderEdge a b infeed⟩
  | zeroMarkArrival infeed => exact ⟨_, rfl, fits.zeroMark infeed⟩
  | speedSample => exact ⟨_, rfl, fits.speedSample⟩
  | standstillExpiry => exact ⟨_, rfl, fits.atExpiry fun _ kept => kept.modCarousel _⟩
  | pressuriseExpiry h =>
    exact ⟨_, rfl, fits.phaseExpiry h fun q kept => kept.of_offHeads (Part.pressuriseEnd_offHeads h q)⟩
  | settleExpiry h => exact ⟨_, rfl, fits.phaseExpiry h fun q kept => kept.of_offHeads (Part.settleEnd_offHeads h q)⟩
  | reliefExpiry h => exact ⟨_, rfl, fits.phaseExpiry h fun q kept => kept.of_offHeads (Part.reliefEnd_offHeads h q)⟩
  | ventExpiry h => exact ⟨_, rfl, fits.phaseExpiry h fun _ kept => kept.ventEnd h⟩
  | coilTestExpiry h => exact ⟨_, rfl, fits.phaseExpiry h fun q kept => kept.of_offWork (Part.testExpiry_offWork h q)⟩
  | coilTestReport h v r =>
    exact ⟨_, rfl, fits.busArrival h fun _ kept => kept.of_offHeads (by split <;> simp)⟩
  | flowmeterPulse h => exact ⟨_, rfl, fits.busArrival h fun q kept => kept.of_offWork (Part.pulse_offWork h q)⟩
  | timedOpenExpiry h => exact ⟨_, rfl, fits.openExpiry h⟩
  | meterSilenceExpiry h => exact ⟨_, rfl, fits.silenceExpiry h⟩
  | sealDrop h =>
    have dropped := fits.of_control (Part.setSeal_control h false s.part)
    exact ⟨_, rfl, dropped.busArrival h fun q kept => kept.of_offHeads (Part.sealDropAt_offHeads h q)⟩
  | sealInputRise h =>
    have risen := fits.of_control (Part.setSeal_control h true s.part)
    exact ⟨_, rfl, risen.busArrival h fun _ kept => kept⟩
  | coilReport h v c => exact ⟨_, rfl, fits.busArrival h fun _ kept => kept.coilReport h v c⟩
  | moduleStatusReport m => exact ⟨_, rfl, fits.moduleReport m⟩
  | moduleSilent m => exact ⟨_, rfl, fits.moduleSilence m⟩
  | holdLimitExpiry => exact ⟨_, rfl, fits.holdLimitEnd⟩
  | lineSilenceExpiry => exact ⟨_, rfl, fits.lineSilenceEnd⟩
  | supplySilenceExpiry => exact ⟨_, rfl, fits.atExpiry fun _ kept => kept.of_control rfl⟩
  | bowlDeterminationExpiry => exact ⟨_, rfl, fits.atExpiry fun _ kept => kept.of_control rfl⟩
  | demandPeriodEnd => exact ⟨_, rfl, fits.demandEnd⟩
  | calSilenceExpiry => exact ⟨_, rfl, fits.calSilenceEnd⟩
  | calTimeoutExpiry => exact ⟨_, rfl, fits.calTimeoutEnd⟩
  | calSettleExpiry => exact ⟨_, rfl, fits.calSettleEnd⟩
  | saveCompletion fault => exact ⟨_, rfl, fits.saveEnd fault⟩
  | byteArrival port b byteError => exact ⟨_, rfl, fits.byteIn port b byteError⟩
  | frameTimerExpiry port => exact ⟨_, rfl, fits.atExpiry fun _ kept => kept.dropFrame port⟩
  | frameSent port => exact ⟨_, rfl, fits.frameSentEnd port⟩
  | _ => cases arrival

theorem exec_fits {s t : State} (fits : s.part.FaultRecordFits) (c : Instr) (run : exec c s = .next t) :
    t.part.FaultRecordFits := by
  cases request : (encodeRequest c).isSome with
  | true =>
    obtain ⟨port, frame, e⟩ := exec_of_encodeRequest request s
    rw [e] at run
    cases run
    dsimp only
    split
    · exact fits
    · exact fits.arrive fun _ kept => kept.serveCommand c
  | false =>
    obtain ⟨q, e, kept⟩ := exec_arrival_fits fits request
    rw [e] at run
    cases run
    exact kept

/-- Settles O58: every change of the production state finds nothing left of the state before it, and SAFE is entered with
its first cause. -/
theorem stepKeepsTheFaultRecordWithSafe : Obligations.StepKeepsTheFaultRecordWithSafe := by
  intro s t fits run
  unfold step at run
  split at run
  · cases run
    exact fits
  · next c rest _ => exact exec_fits (s := { s with pending := rest }) fits c run

end Sys2Proof.Machine
end

section
/-! CAL DOSE and STOP CAL (R178, R179, R183). -/

namespace Sys2Proof.Machine

open Sys2Proof

variable {h : HeadNo} {p : Part} {k : CalRecord}

/-! ### The Operation Slot with a calibration dose (R174, R176) -/

theorem Part.calOn_eq_some_iff : p.calOn h = some k ↔ p.slot = .pendingCal k ∧ k.head = h := by
  unfold Part.calOn
  split
  · next c slot =>
    rw [slot, Slot.pendingCal.injEq]
    by_cases on : c.head = h
    · rw [if_pos on, Option.some.injEq]
      exact ⟨fun same => ⟨same, same ▸ on⟩, And.left⟩
    · rw [if_neg on]
      exact ⟨nofun, fun ⟨same, on'⟩ => absurd (same ▸ on') on⟩
  · next other => exact ⟨nofun, fun ⟨slot, _⟩ => absurd slot (other k)⟩

/-- A pending CAL DOSE takes a result of its kind (R176). -/
theorem Part.finish_of_cal (slot : p.slot = .pendingCal k) {r : OpResult} (kind : r.kind = .calDose) :
    p.finish r = { p with slot := .finished r } :=
  if_pos (by rw [slot, kind]; exact ⟨rfl, rfl⟩)

/-- The end of a pending CAL DOSE: its valves close and its result is in the slot (R182, R183). -/
theorem Part.endCal_of_cal (slot : p.slot = .pendingCal k) {r : OpResult} (kind : r.kind = .calDose) :
    p.endCal k r = { p.modHead k.head fun x => { x with
      entry := { p.entry k.head with gas := false, fast := false, fine := false } } with slot := .finished r } := by
  have pending : (p.modEntry k.head Entry.closeFill).slot = .pendingCal k := slot
  rw [Part.endCal, Part.finish_of_cal pending kind, Part.modEntry_eq]
  rfl

/-! ### The checks of CAL DOSE (R178) -/

theorem exec_calDose (n pulses fine : Nat) (s : State) : exec (.calDose n pulses fine) s =
    .next { s with part := s.part.request (.calDose n pulses fine) .line 0x21 (takeCalDose n pulses fine) } := rfl
theorem exec_stopCal (s : State) : exec .stopCal s =
    .next { s with part := s.part.request .stopCal .line 0x22 takeStopCal } := rfl

theorem calRangeOk_iff {pulses fine : Nat} :
    calRangeOk pulses fine = true ↔ 1 ≤ pulses ∧ pulses ≤ 200000 ∧ fine ≤ pulses := by
  simp only [calRangeOk, inRange, Bool.and_eq_true, decide_eq_true_eq, and_assoc]

theorem Part.calReady_iff : p.calReady h = true ↔
    (p.record h).stored.inService = true ∧ (p.entry h).state = .rest ∧ p.carousel.standstill = true := by
  simp only [Part.calReady, Bool.and_eq_true, decide_eq_true_eq, and_assoc]

section owner

variable {pulses fine : Nat}

theorem takeCalDose_of_other {n : Nat} (other : p.control.prod ≠ .standby) :
    takeCalDose n pulses fine p = refusal .wrongState p := if_pos other

theorem takeCalDose_unknown {n : Nat} (standby : p.control.prod = .standby)
    (nobody : ∀ g : HeadNo, g.val = n → p.fitted g = false) :
    takeCalDose n pulses fine p = refusal .unknownHead p := by
  rw [takeCalDose, if_neg (not_not_intro standby), Part.fittedHead_of_unfitted nobody]

section fitted

variable (standby : p.control.prod = .standby) (fitted : p.fitted h = true)
include standby fitted

/-- The checks that follow the head's (R178, checks 3 to 5). -/
theorem takeCalDose_fitted : takeCalDose h.val pulses fine p =
    if calRangeOk pulses fine = false then refusal .range p
    else if p.calReady h = false then refusal .wrongState p
    else if p.slot.isPending then refusal .busy p
    else accept (p.beginCal h pulses fine) := by
  rw [takeCalDose, if_neg (not_not_intro standby), Part.fittedHead_val fitted]

theorem takeCalDose_range (range : calRangeOk pulses fine = false) :
    takeCalDose h.val pulses fine p = refusal .range p := by
  rw [takeCalDose_fitted standby fitted, if_pos range]

theorem takeCalDose_unready (counts : calRangeOk pulses fine = true) (unready : p.calReady h = false) :
    takeCalDose h.val pulses fine p = refusal .wrongState p := by
  rw [takeCalDose_fitted standby fitted, if_neg (ne_false_of_eq_true counts), if_pos unready]

theorem takeCalDose_busy (counts : calRangeOk pulses fine = true) (ready : p.calReady h = true)
    (pending : p.slot.isPending = true) : takeCalDose h.val pulses fine p = refusal .busy p := by
  rw [takeCalDose_fitted standby fitted, if_neg (ne_false_of_eq_true counts), if_neg (ne_false_of_eq_true ready),
    if_pos pending]

theorem takeCalDose_begins (counts : calRangeOk pulses fine = true) (ready : p.calReady h = true)
    (free : p.slot.isPending = false) : takeCalDose h.val pulses fine p = accept (p.beginCal h pulses fine) := by
  rw [takeCalDose_fitted standby fitted, if_neg (ne_false_of_eq_true counts), if_neg (ne_false_of_eq_true ready),
    if_neg (ne_true_of_eq_false free)]

end fitted

end owner

/-! ### STOP CAL (R183) -/

theorem takeStopCal_of_noCal (noCal : p.slot.isCal = false) : takeStopCal p = refusal .wrongState p :=
  if_neg (Bool.eq_false_iff.mp noCal)

theorem takeStopCal_of_cal (slot : p.slot = .pendingCal k) : takeStopCal p = accept (p.abortCal .stopCal) :=
  if_pos (by rw [slot]; rfl)

/-- Settles O52: the checks in their order, the dose that begins, and the one that STOP CAL ends. -/
theorem calibrationDosesBeginAndStop : Obligations.CalibrationDosesBeginAndStop := by
  intro s n pulses fine h k
  dsimp only
  intro takes
  refine ⟨fun other => ?_, fun standby nobody => ?_, fun standby fitted => ?_, fun noCal => ?_, fun slot => ?_⟩
  · rw [exec_calDose, Part.request_refused takes (takeCalDose_of_other (p := s.part.crcPassed .line) other)]
  · rw [exec_calDose,
      Part.request_refused takes (takeCalDose_unknown (p := s.part.crcPassed .line) standby nobody)]
  · have passed : (s.part.crcPassed .line).control.prod = .standby := standby
    have fitted' : (s.part.crcPassed .line).fitted h = true := fitted
    have ready_iff := Part.calReady_iff (p := s.part.crcPassed .line) (h := h)
    rw [← calRangeOk_iff, Bool.not_eq_true, exec_calDose]
    refine ⟨fun range => ?_, fun counts unready => ?_, fun counts ready pending => ?_, fun counts ready free => ?_⟩
    · rw [Part.request_refused takes (takeCalDose_range passed fitted' range)]
    · have unready' := Bool.eq_false_iff.mpr (mt ready_iff.mp unready)
      rw [Part.request_refused takes (takeCalDose_unready passed fitted' counts unready')]
    · rw [Part.request_refused takes (takeCalDose_busy passed fitted' counts (ready_iff.mpr ready) pending)]
    · rw [Part.request_accepted (change := Part.beginCal h pulses fine) takes
        (takeCalDose_begins passed fitted' counts (ready_iff.mpr ready) free)]
      rfl
  · rw [exec_stopCal, Part.request_refused takes (takeStopCal_of_noCal (p := s.part.crcPassed .line) noCal)]
  · rw [exec_stopCal, Part.request_accepted (change := Part.abortCal .stopCal) takes
      (takeStopCal_of_cal (p := s.part.crcPassed .line) slot), Part.accepts,
      Part.abortCal_of_pending (p := s.part.crcPassed .line) slot]
    rfl

end Sys2Proof.Machine
end

section
/-! Pulses and timers of a calibration dose (R180 to R182). -/

namespace Sys2Proof.Machine

open Sys2Proof

variable {h : HeadNo} {p : Part} {k : CalRecord}

/-! ### Pulses (R180) -/

/-- A pulse on the head of a CAL DOSE, out of CONFIG and DRAIN, enters the demand and the dose (R53). -/
theorem Part.pulse_of_cal (prod : p.control.prod ∉ [Prod.config, .drain]) (cal : p.calOn h = some k) :
    p.pulse h = (p.demandPulse h).calPulse k := by
  have same : (p.demandPulse h).calOn h = some k := cal
  unfold Part.pulse
  split
  · next at_ => simp [at_] at prod
  · next at_ => simp [at_] at prod
  all_goals simp only [same]

theorem Part.calPulse_of_settle (settled : k.phase = .settle) :
    p.calPulse k = { p with slot := .pendingCal { k with after := countUp k.after } } := by
  rw [Part.calPulse, settled]

theorem Part.calPulse_of_open (open_ : k.phase ≠ .settle) : p.calPulse k = p.calCount k := by
  unfold Part.calPulse
  split
  · rfl
  · rfl
  · next settled => exact absurd settled open_

/-- The record of a dose with one more pulse (R180). -/
def CalRecord.pulsed (now : Nat) (k : CalRecord) : CalRecord :=
  { k with counted := k.counted + 1, silenceTimer := .running (now + 2000) }

/-- The record of a dose at its last pulse: two timers stop and the settle time begins (R180). -/
def CalRecord.completed (now : Nat) (k : CalRecord) : CalRecord :=
  { k with
    phase := .settle
    completion := some now
    fastClose := if k.pFine = 0 then some now else k.fastClose
    timeoutTimer := .stopped, silenceTimer := .stopped, settleTimer := .running (now + k.settle) }

theorem Part.calCount_last (last : k.counted + 1 = k.pCal) : p.calCount k =
    { p.modHead k.head fun x => { x with
        entry := { p.entry k.head with gas := false, fast := false, fine := false } } with
      slot := .pendingCal ((k.pulsed p.now).completed p.now) } :=
  if_pos last

theorem Part.calCount_fastClose (more : k.counted + 1 ≠ k.pCal) (fast : k.phase = .fast) (fine : 0 < k.pFine)
    (reached : k.counted + 1 = k.pCal - k.pFine) : p.calCount k =
      { p.modHead k.head fun x => { x with entry := { p.entry k.head with fast := false } } with
        slot := .pendingCal { k.pulsed p.now with phase := .fine, fastClose := some p.now } } :=
  (if_neg more).trans (if_pos ⟨fast, fine, reached⟩)

theorem Part.calCount_goesOn (more : k.counted + 1 ≠ k.pCal)
    (within : k.phase = .fast → k.pFine = 0 ∨ k.counted + 1 ≠ k.pCal - k.pFine) :
    p.calCount k = { p with slot := .pendingCal (k.pulsed p.now) } := by
  refine (if_neg more).trans (if_neg ?_)
  rintro ⟨fast, fine, reached⟩
  rcases within fast with whole | earlier
  · exact Nat.ne_of_gt fine whole
  · exact earlier reached

/-! ### Timers (R181, R182) -/

theorem exec_calSettleExpiry (s : State) : exec .calSettleExpiry s =
    .next { s with part := calSettleEnd s.part } := rfl
theorem exec_calSilenceExpiry (s : State) : exec .calSilenceExpiry s =
    .next { s with part := calSilenceEnd s.part } := rfl
theorem exec_calTimeoutExpiry (s : State) : exec .calTimeoutExpiry s =
    .next { s with part := calTimeoutEnd s.part } := rfl

/-- Without a CAL DOSE its timers do nothing. -/
theorem calExpiries_of_noCal (noCal : p.slot.isCal = false) :
    calSilenceEnd p = p ∧ calTimeoutEnd p = p ∧ calSettleEnd p = p := by
  unfold calSilenceEnd calTimeoutEnd calSettleEnd
  cases slot : p.slot with
  | pendingCal c => rw [slot] at noCal; cases noCal
  | _ => exact ⟨rfl, rfl, rfl⟩

section expiries

variable (slot : p.slot = .pendingCal k)
include slot

theorem calSilenceEnd_of_cal : calSilenceEnd p =
    p.atExpiry k.silenceTimer fun q => q.endCal k (.calSilent k.counted (q.now - k.start)) := by
  simp only [calSilenceEnd, slot]

theorem calTimeoutEnd_of_cal : calTimeoutEnd p =
    p.atExpiry k.timeoutTimer fun q => q.endCal k (.calTimeout k.counted (q.now - k.start)) := by
  simp only [calTimeoutEnd, slot]

theorem calSettleEnd_of_cal : calSettleEnd p = p.atExpiry k.settleTimer fun q => q.finish k.done := by
  simp only [calSettleEnd, slot]

end expiries

/-- The fast rate of R181, with the time between the acceptance and the fast close. -/
theorem CalRecord.rate_eq (k : CalRecord) : k.rate =
    if k.fastClose.isSome ∧ k.pFine < k.pCal ∧ 100 ≤ k.fastClose.getD 0 - k.start then
      (2 * ((k.pCal - k.pFine) * 10000000) + k.k * (k.fastClose.getD 0 - k.start)) /
        (2 * (k.k * (k.fastClose.getD 0 - k.start)))
    else 0 := by
  unfold CalRecord.rate
  cases k.fastClose with
  | none => rfl
  | some t =>
    simp only [Nat.sub_pos_iff_lt, roundNat, Option.isSome_some, Option.getD_some, true_and]

/-- Settles O53: a pulse finds the dose behind the answer of its module, and each timer ends it or is stopped. -/
theorem calibrationDosesEndWithAResult : Obligations.CalibrationDosesEndWithAResult := by
  intro s k due
  dsimp only
  rw [exec_calSilenceExpiry, exec_calTimeoutExpiry, exec_calSettleExpiry]
  refine ⟨fun noCal => ?_, fun slot => ⟨fun on fitted prod => ?_, fun stopped => ?_, fun running => ?_,
    fun stopped => ?_, fun running => ?_, fun stopped => ?_, fun running => ?_⟩⟩
  · obtain ⟨silence, timeout, settle⟩ := calExpiries_of_noCal noCal
    rw [silence, timeout, settle]
    exact ⟨rfl, rfl, rfl⟩
  · have cal := Part.calOn_eq_some_iff.mpr ⟨slot, rfl⟩
    rw [exec_flowmeterPulse, Part.busArrival_taken on fitted,
      Part.pulse_of_cal (by simpa using prod) (by simpa using cal)]
    have now : ((s.part.moduleAnswers (moduleOf k.head)).demandPulse k.head).now = s.part.now :=
      Part.moduleAnswers_now _
    have entry : ((s.part.moduleAnswers (moduleOf k.head)).demandPulse k.head).entry k.head = s.part.entry k.head :=
      (congrArg Head.entry Part.demandPulse_head).trans (Part.entry_moduleAnswers _ _)
    rw [Part.demandPulse] at now entry ⊢
    generalize (s.part.moduleAnswers (moduleOf k.head)).modHead k.head _ = q at *
    refine ⟨fun settled => ?_, fun open_ last => ?_, fun fast fine reached more => ?_, fun fast more within => ?_,
      fun fine more => ?_⟩
    · rw [Part.calPulse_of_settle settled]; rfl
    · rw [Part.calPulse_of_open open_, Part.calCount_last last, entry, now]; rfl
    · rw [Part.calPulse_of_open (by rw [fast]; decide), Part.calCount_fastClose more fast fine reached, entry, now]
      rfl
    · rw [Part.calPulse_of_open (by rw [fast]; decide), Part.calCount_goesOn more fun _ => within, now]; rfl
    · have slow : k.phase ≠ .fast := by rw [fine]; decide
      rw [Part.calPulse_of_open (by rw [fine]; decide), Part.calCount_goesOn more (absurd · slow), now]
      rfl
  · rw [calSilenceEnd_of_cal slot, stopped]; rfl
  · rw [calSilenceEnd_of_cal slot, running, Part.atExpiry, Part.endCal_of_cal (p := s.part.clockTo due) slot rfl]; rfl
  · rw [calTimeoutEnd_of_cal slot, stopped]; rfl
  · rw [calTimeoutEnd_of_cal slot, running, Part.atExpiry, Part.endCal_of_cal (p := s.part.clockTo due) slot rfl]; rfl
  · rw [calSettleEnd_of_cal slot, stopped]; rfl
  · rw [calSettleEnd_of_cal slot, running, Part.atExpiry, Part.finish_of_cal (p := s.part.clockTo due) slot rfl,
      CalRecord.done, CalRecord.rate_eq]
    rfl

end Sys2Proof.Machine
end

section
/-! The admission of a container (R22, R23, R94, R95, R99). -/

namespace Sys2Proof.Machine

open Sys2Proof

variable {h : HeadNo} {p : Part}

/-! ### The track's work at an admission (R94, R95, R99) -/

theorem Part.trackAdmit_control (c : Context) : (p.trackAdmit h c).control =
    { p.control with admitted := (p.control.admitted + 1) % 4294967296 } :=
  forEach_view Part.control Part.countUninspected (fun _ _ => rfl) _ _

theorem Part.trackAdmit_nextNumber (c : Context) : (p.trackAdmit h c).nextNumber = (p.nextNumber + 1) % 65536 :=
  forEach_view Part.nextNumber Part.countUninspected (fun _ _ => rfl) _ _

theorem Part.ageByNumber_trimFrom (m : Nat) : ((p.ageByNumber m).record h).trimFrom = (p.record h).trimFrom :=
  forEach_view (fun q : Part => (q.record h).trimFrom) Part.countUninspected (fun g q => by
    obtain ⟨n, totals⟩ := Part.countUninspected_table (p := q) (h := h) g
    rw [totals]) _ _

/-- The trim-from marker behind an admission with number `n`: absent, or 32768 or more behind, it becomes `n` (R80). -/
def markTrim (n : Nat) : Option Nat → Option Nat
  | none => some n
  | some f => if 32768 ≤ (n + 65536 - f) % 65536 then some n else some f

theorem markTrim_some (n f : Nat) :
    markTrim n (some f) = if (n + 65536 - f) % 65536 < 32768 then some f else some n := by
  by_cases near : (n + 65536 - f) % 65536 < 32768
  · rw [markTrim, if_pos near, if_neg (Nat.not_le.mpr near)]
  · rw [markTrim, if_neg near, if_pos (Nat.not_lt.mp near)]

theorem Part.trackAdmit_trimFrom (c : Context) : ((p.trackAdmit h c).record h).trimFrom =
    markTrim p.nextNumber (p.record h).trimFrom := by
  have marked : ∀ q : Part, ((q.modRecord h fun x => { x with trimFrom := markTrim p.nextNumber x.trimFrom }).record
      h).trimFrom = markTrim p.nextNumber (q.record h).trimFrom := fun q => by rw [Part.record_modRecord, if_pos rfl]
  exact (Part.ageByNumber_trimFrom _).trans (marked _)

/-- The new record is ON_CAROUSEL, so the ageing leaves it (R94, R99). -/
theorem Part.trackAdmit_track_eq (c : Context) : (p.trackAdmit h c).track =
    (p.track.filter fun r => !tooOld p.nextNumber p.machine.inspection r) ++
      [⟨p.nextNumber, h, if c.revision.isSome then p.control.activeSlot else none, none⟩] := by
  rw [Part.trackAdmit_track, List.filter_append]
  rfl

/-! ### The context of an admission (R23) -/

theorem Prod.decide_doses (s : Prod) : decide (s ∈ [Prod.production, .hold, .stopping]) = s.doses := by
  cases s <;> rfl

/-- A container carries a recipe when it is admitted to a production state with an active recipe (R23, R45). -/
theorem Part.admissionContext_revision (n : Nat) : (p.admissionContext h n).revision.isSome =
    (p.control.prod.doses && p.activeRecipe.isSome) := by
  cases dosing : p.control.prod.doses with
  | false => rw [Part.admissionContext_idle n dosing]; rfl
  | true =>
    cases recipe : p.activeRecipe with
    | none => simp only [Part.admissionContext, dosing, recipe, if_true]; rfl
    | some sr =>
      by_cases serves : (p.record h).stored.inService = true
      · cases method : (p.record h).method with
        | flow => rw [Part.admissionContext_flow n dosing recipe serves method, doseContext_eq]; rfl
        | timed => rw [Part.admissionContext_timed n dosing recipe serves method, doseContext_eq]; rfl
        | out => rw [Part.admissionContext_unavailable n dosing recipe (.inr method)]; rfl
      · rw [Part.admissionContext_unavailable n dosing recipe (.inl (Bool.eq_false_iff.mpr serves))]; rfl

/-- The context is built from the head's record, whatever the state of its entry (R23). -/
theorem Part.admissionContext_modEntry (f : Entry → Entry) (n : Nat) :
    (p.modEntry h f).admissionContext h n = p.admissionContext h n := by
  unfold Part.admissionContext
  rw [Part.record_modEntry]
  rfl

/-! ### The admission -/

/-- What a part shows of the container that head `h` with entry `e` has admitted since `p` (R23, R94, R95, R99). -/
structure Part.Admitted (h : HeadNo) (p : Part) (e : Entry) (q : Part) : Prop where
  entry : q.entry h = e.seated (if p.control.prod.doses then .sealing else .waitDischarge)
  context : q.context h = some (p.admissionContext h p.nextNumber)
  number : q.nextNumber = (p.nextNumber + 1) % 65536
  control : q.control = { p.control with admitted := (p.control.admitted + 1) % 4294967296 }
  track : q.track = (p.track.filter fun r => !tooOld p.nextNumber p.machine.inspection r) ++
    [⟨p.nextNumber, h, if p.control.prod.doses && p.activeRecipe.isSome then p.control.activeSlot else none, none⟩]
  trim : (q.record h).trimFrom = markTrim p.nextNumber (p.record h).trimFrom
  others : ∀ g, g ≠ h → q.entry g = p.entry g ∧ q.context g = p.context g

theorem Part.context_seat (c : Context) (st : HeadState) (g : HeadNo) :
    (p.seat h c st).context g = if g = h then some c else p.context g := by
  simp only [Part.seat, Part.context, Part.head_modHead]; split <;> rfl

theorem Part.admitContainer_admitted : Part.Admitted h p (p.entry h) (p.admitContainer h) := by
  have bodies := Part.trackAdmit_bodies h p (p.admissionContext h p.nextNumber)
  have number := Part.trackAdmit_nextNumber (p := p) (h := h) (p.admissionContext h p.nextNumber)
  have control := Part.trackAdmit_control (p := p) (h := h) (p.admissionContext h p.nextNumber)
  have track := Part.trackAdmit_track_eq (p := p) (h := h) (p.admissionContext h p.nextNumber)
  have trim := Part.trackAdmit_trimFrom (p := p) (h := h) (p.admissionContext h p.nextNumber)
  rw [Part.admissionContext_revision] at track
  rw [Part.admitContainer_eq]
  generalize p.trackAdmit h (p.admissionContext h p.nextNumber) = q at *
  generalize built : p.admissionContext h p.nextNumber = c at *
  have dosing : q.control.prod.doses = p.control.prod.doses := by rw [control]
  rw [dosing]
  generalize same : (if p.control.prod.doses then HeadState.sealing else .waitDischarge) = st
  constructor
  case entry => rw [Part.entry_seat, if_pos rfl, Part.entry_of_bodies bodies, same]
  case context => rw [Part.context_seat, if_pos rfl, built]
  case number => exact number
  case control => exact control
  case track => exact track
  case trim => rw [Part.record_seat]; exact trim
  case others =>
    intro g other
    rw [Part.entry_seat, Part.context_seat, if_neg other, if_neg other, Part.entry_of_bodies bodies,
      Part.context_of_bodies bodies]
    exact ⟨rfl, rfl⟩

/-- An admission takes the entry as it finds it; the rest of it is that of the part before the entry was changed. -/
theorem Part.modEntry_admitContainer_admitted (f : Entry → Entry) :
    Part.Admitted h p (f (p.entry h)) ((p.modEntry h f).admitContainer h) := by
  have seen := Part.admitContainer_admitted (p := p.modEntry h f) (h := h)
  constructor
  case entry => rw [seen.entry, Part.entry_modEntry, if_pos rfl]; rfl
  case context => exact seen.context.trans (congrArg some (Part.admissionContext_modEntry f _))
  case number => exact seen.number
  case control => exact seen.control
  case track => exact seen.track
  case trim => rw [seen.trim, Part.record_modEntry]; rfl
  case others =>
    intro g other
    obtain ⟨entry, context⟩ := seen.others g other
    rw [Part.entry_modEntry, if_neg other] at entry
    exact ⟨entry, context.trans (Part.context_modEntry h g f p)⟩

end Sys2Proof.Machine
end

section
/-! The statement about the infeed crossing (R22 to R24, R183). -/

namespace Sys2Proof.Machine

open Sys2Proof

variable {h : HeadNo} {p : Part} {k : CalRecord}

/-! ### A head without a container (R22) -/

/-- The entry of a head behind the end of a coil test that an infeed crossing abandons (R22). -/
def Entry.abandoned (e : Entry) : Entry :=
  if e.state = .testing then { e with state := .rest, timer := .stopped, reports := noReports } else e

theorem Entry.abandoned_inState (e : Entry) (st : HeadState) : { e.abandoned with state := st } =
    { (if e.state = .testing then { e with timer := .stopped, reports := noReports } else e) with state := st } := by
  unfold Entry.abandoned; split <;> rfl

theorem Entry.abandoned_seated (e : Entry) (st : HeadState) : e.abandoned.seated st =
    { (if e.state = .testing then { e with timer := .stopped, reports := noReports } else e) with
      state := st, fillStartNoted := false, fillEndNoted := false, pressurised := false, vented := false } := by
  unfold Entry.abandoned; split <;> rfl

theorem Part.modEntry_of_same {f : Entry → Entry} (same : f (p.entry h) = p.entry h) : p.modEntry h f = p := by
  rw [Part.modEntry_eq, same]
  unfold Part.modHead
  exact congrArg (fun hs => { p with heads := hs }) (Vector.set_getElem_self _)

theorem Part.goTo_modEntry (f : Entry → Entry) (st : HeadState) : (p.modEntry h f).goTo h st =
    p.modHead h fun x => { x with entry := { f (p.entry h) with state := st } } := by
  rw [Part.goTo_eq, Part.entry_modEntry, if_pos rfl, Part.modEntry, Part.modHead_modHead]
  rfl

/-- An abandoned coil test leaves the entry as `abandoned` says, but for clean valves that waited for it in DRAIN. -/
theorem Part.leaveTest_abandons (testing : (p.entry h).state = .testing)
    (shut : p.control.prod = .drain → (p.entry h).cleanWaiting = false) :
    p.leaveTest h = p.modEntry h Entry.abandoned := by
  have rests : (p.entry h).tested (p.control.cleanOpened && decide (p.control.prod = .drain)) =
      (p.entry h).abandoned := by
    rw [Entry.abandoned, if_pos testing]
    by_cases drain : p.control.prod = .drain
    · rw [Entry.tested_of_free (shut drain)]
    · simp [Entry.tested, drain]
  rw [Part.leaveTest_eq, Part.modEntry_eq, rests]

/-- What an infeed crossing makes of a head without a container (R22). -/
theorem Part.infeedFromRest_eq
    (shut : p.control.prod = .drain → (p.entry h).state = .testing → (p.entry h).cleanWaiting = false) :
    p.infeedFromRest h =
      let q := p.modEntry h Entry.abandoned
      if p.control.prod ∈ [Prod.config, .drain] then q.goTo h .rest
      else if p.pins.infeed then q.admitContainer h else q.goTo h .skip := by
  have start : (if (p.entry h).state = .testing then p.leaveTest h else p) = p.modEntry h Entry.abandoned := by
    split
    · next testing => exact Part.leaveTest_abandons testing fun drain => shut drain testing
    · next other => exact (Part.modEntry_of_same (if_neg other)).symm
  unfold Part.infeedFromRest
  dsimp only
  rw [start]
  have prod : (p.modEntry h Entry.abandoned).control.prod = p.control.prod := rfl
  rw [prod]
  cases at_ : p.control.prod <;> rfl

/-! ### The crossing by the state of the head (R22, R24, R183) -/

theorem Part.abortCalOn_of_free (free : p.calOn h = none) (cause : AbortCause) : p.abortCalOn h cause = p :=
  if_neg (by rw [free]; decide)

theorem Part.abortCalOn_of_cal (cal : p.calOn h = some k) (cause : AbortCause) : p.abortCalOn h cause =
    { p.modHead h fun x => { x with entry := { p.entry h with gas := false, fast := false, fine := false } } with
      slot := .finished (.calAborted cause k.counted k.after (p.now - k.start)) } := by
  obtain ⟨slot, rfl⟩ := Part.calOn_eq_some_iff.mp cal
  rw [Part.abortCalOn, cal, if_pos Option.isSome_some, Part.abortCal_of_pending slot]
  rfl

/-- The crossing finds the CAL DOSE ended (R183). -/
theorem Part.infeedCrossing_abortCalOn : p.infeedCrossing h = (p.abortCalOn h .motion).infeedCrossing h := by
  unfold Part.infeedCrossing
  dsimp only
  rw [Part.abortCalOn_of_free (p := p.abortCalOn h .motion) (Part.calOn_abortCalOn .motion)]

theorem Part.infeedCrossing_of_vent (free : p.calOn h = none) (vent : (p.entry h).state = .vent) :
    p.infeedCrossing h = p := by
  simp only [Part.infeedCrossing, Part.abortCalOn_of_free free, vent]

theorem Part.infeedCrossing_of_bare (free : p.calOn h = none)
    (bare : (p.entry h).state ∈ [HeadState.rest, .testing, .skip]) : p.infeedCrossing h = p.infeedFromRest h := by
  unfold Part.infeedCrossing
  rw [Part.abortCalOn_of_free free]
  dsimp only
  split
  · next vent => rw [vent] at bare; exact absurd bare (by decide)
  · rfl
  · rfl
  · rfl
  · next noVent noRest noTest noSkip =>
    simp only [List.mem_cons, List.not_mem_nil, or_false] at bare
    rcases bare with rest | testing | skip
    · exact absurd rest noRest
    · exact absurd testing noTest
    · exact absurd skip noSkip

theorem Part.infeedCrossing_of_holds (free : p.calOn h = none) (holds : (p.entry h).state.holds = true) :
    p.infeedCrossing h = (p.dischargeHead h).infeedFromRest h := by
  unfold Part.infeedCrossing
  rw [Part.abortCalOn_of_free free]
  dsimp only
  split
  · next at_ => rw [at_] at holds; cases holds
  · next at_ => rw [at_] at holds; cases holds
  · next at_ => rw [at_] at holds; cases holds
  · next at_ => rw [at_] at holds; cases holds
  · rfl

/-! ### A head that still holds a container (R24) -/

/-- A discharge leaves the Operation Slot alone. -/
theorem Part.dischargeHead_slot : (p.dischargeHead h).slot = p.slot := by
  refine (Part.slot_of_offHead Part.enterRest_offHead).trans ?_
  cases known : p.context h with
  | none =>
    rw [Part.completeContainer_entry_none (Part.numberOn_eq_none.mpr known)]
    exact Part.slot_of_offHead Part.shut_offHead
  | some c => exact (Part.completeContainer_completes (by rw [known]; rfl)).1.slot

theorem Part.dischargeHead_bare : ((p.dischargeHead h).entry h).state ∈ [HeadState.rest, .testing, .skip] := by
  rcases (Part.enterRest_rests (p := p.completeContainer h) (h := h)).state with rest | testing
  · rw [Part.dischargeHead, rest]; decide
  · rw [Part.dischargeHead, testing]; decide

/-- A head that holds a container is discharged, and the crossing then finds it without one (R24). -/
theorem Part.infeedCrossing_discharges (free : p.calOn h = none) (holds : (p.entry h).state.holds = true) :
    p.infeedCrossing h = (p.crossing h .dis).infeedCrossing h := by
  have free' : (p.dischargeHead h).calOn h = none := by
    rw [Part.calOn, Part.dischargeHead_slot]; exact free
  rw [Part.dischargeCrossing_of_holds holds, Part.infeedCrossing_of_holds free holds]
  exact (Part.infeedCrossing_of_bare free' Part.dischargeHead_bare).symm

/-- Settles O37: the crossing by the state of the head behind the end of a CAL DOSE, and the admission with what the
part shows of it. -/
theorem infeedCrossingAdmits : Obligations.InfeedCrossingAdmits := by
  intro p h k
  dsimp only
  have crosses : p.crossing h .infeed = p.infeedCrossing h := rfl
  rw [crosses]
  refine ⟨fun cal => ?_, fun free => ⟨Part.infeedCrossing_of_vent free, fun bare => ?_,
    Part.infeedCrossing_discharges free⟩⟩
  · rw [Part.infeedCrossing_abortCalOn, Part.abortCalOn_of_cal cal]
    rfl
  rw [Part.infeedCrossing_of_bare free bare]
  refine ⟨fun shuts waits => ?_, fun runs empty => ?_, fun runs present => ?_⟩
  · rw [Part.infeedFromRest_eq fun _ testing => waits.resolve_left (not_not_intro testing)]
    dsimp only
    rw [if_pos shuts, Part.goTo_modEntry, Entry.abandoned_inState]
  all_goals
    have other : p.control.prod ≠ .drain := fun drain => runs (by rw [drain]; decide)
    rw [Part.infeedFromRest_eq fun drain => absurd drain other]
    dsimp only
    rw [if_neg runs]
  · rw [if_neg (by rw [empty]; decide), Part.goTo_modEntry, Entry.abandoned_inState]
  · rw [if_pos present]
    have seen := Part.modEntry_admitContainer_admitted (p := p) (h := h) Entry.abandoned
    generalize (p.modEntry h Entry.abandoned).admitContainer h = t at *
    rw [Prod.decide_doses]
    refine ⟨?_, seen.context, seen.number, seen.control, seen.track, ?_, seen.others⟩
    · rw [seen.entry]
      exact Entry.abandoned_seated (p.entry h) _
    · rw [seen.trim]
      cases (p.record h).trimFrom with
      | none => rfl
      | some f => exact markTrim_some p.nextNumber f

end Sys2Proof.Machine
end
